-- ==== Sys2Proof/Word.lean ====
section
/-! DEFINITION. The word types of the TN64 tether node: the byte of rail characters, lane packets and host
frames, the 16-bit quantity of items, counters, rounds and samples, and the 3-bit station address. -/

namespace Sys2Proof

/-- One 8-bit value: a rail character's data, a lane packet's byte, a host frame's byte. -/
abbrev Byte := BitVec 8

/-- A 16-bit quantity: a settings item (R164), a round (R94), a sequence number, an audio sample. -/
abbrev Half := BitVec 16

/-- A station address, 0 to 7 (R26, R33); 0 only at a strap-faulted node. -/
abbrev Addr := BitVec 3

end Sys2Proof
end

