-- ==== Sys2Proof/Syntax.lean ====
section
/-! DEFINITION. The commands of the TN64: one constructor of `Instr` for each row of spec/opcode_table.json.
The table gives no row any operand bits; the operands below are what the row's event carries by the rule the
row names (a received character, a measured voltage, the arguments of a host request ...). -/

namespace Sys2Proof

/-- A lane direction (00_scope.md, section 2): the down lane runs from SOURCE to HEADSET, the up lane back. -/
inductive Lane where
  | down
  | up
  deriving DecidableEq, Repr

/-- The four lane grades, lowest to highest (R66, R94). -/
inductive Grade where
  | g1
  | g2
  | g3
  | g4
  deriving DecidableEq, Repr

/-- The three sheddable loads of a HEADSET (R72). -/
inductive Load where
  | panel
  | audio
  | motion
  deriving DecidableEq, Repr

/-- The two announcements of the power manager, each with a 400 ms period of its own (R57). -/
inductive Announcement where
  | offer
  | claim
  deriving DecidableEq, Repr

/-- A return delay that runs out (R68): the grade, and whether the timer runs out in the event that cancels it, the expiry being taken
first (assumption 22). -/
structure DelayEnd where
  grade     : Grade
  cancelled : Bool
  deriving DecidableEq, Repr

/-- The bytes the host clocked from its request to the release of the selection (R175): their number, and how many of them before a
reset that fell in the selection (of no effect where none did). -/
structure Clocking where
  total       : Nat
  beforeReset : Nat
  deriving DecidableEq, Repr

/-- Six signed 16-bit values of the sensor, in the order of R133. -/
structure Axes where
  ax : Half
  ay : Half
  az : Half
  rx : Half
  ry : Half
  rz : Half
  deriving DecidableEq, Repr

/-- The commands of the block: what its four interfaces, its timers and its measurements bring to it. -/
inductive Instr where
  /-- FULL_RESET (R26): the levels of STRAP0 to STRAP10, bit n the level of STRAPn. -/
  | fullReset (straps : BitVec 11)
  /-- CHARACTER_RECEIVED (R3, R7): the data bits, the parity bit, and whether the stop bit stood at the stop level. -/
  | characterReceived (data : Byte) (parity stopOk : Bool)
  /-- GAP (R8). -/
  | gap
  /-- CARRIER_DETECT (R4, R17): keying energy of other senders appears (`true`) or falls (`false`). -/
  | carrierDetect (present : Bool)
  /-- QUIET_WAIT_EXPIRY (R17). -/
  | quietWaitExpiry
  /-- SEND_COMPLETE (R19). -/
  | sendComplete
  /-- STUCK_DROP (R22). -/
  | stuckDrop
  /-- JOIN_TIMER_EXPIRY (R28). -/
  | joinTimerExpiry
  /-- PEER_LEFT (R38): the peer entry that reaches 350 ms. -/
  | peerLeft (peer : Addr)
  /-- BEACON_PERIOD (R43). -/
  | beaconPeriod
  /-- SLEW_TICK (R48). -/
  | slewTick
  /-- OFFER_CLAIM_PERIOD (R57): which of the two periods runs out. -/
  | offerClaimPeriod (which : Announcement)
  /-- SUPPLY_READY_CHANGE (R51): the new level of the supply-ready input. -/
  | supplyReadyChange (high : Bool)
  /-- RAIL_PRESENT_CHANGE (R51): the rail voltage the rail-present sense reports, in mV. -/
  | railPresentChange (milliVolts : Nat)
  /-- TRIP_HOLD_EXPIRY (R51). -/
  | tripHoldExpiry
  /-- RETURN_DELAY_EXPIRY (R68). -/
  | returnDelayExpiry (delay : DelayEnd)
  /-- RAISE_TIMER_EXPIRY (R77): the load whose timer runs out. -/
  | raiseTimerExpiry (load : Load)
  /-- RAIL_MEASUREMENT (R81): the input voltage measured, in mV. -/
  | railMeasurement (milliVolts : Nat)
  /-- CLEAR_TIMER_EXPIRY (R85). -/
  | clearTimerExpiry
  /-- SUPPLY_GRACE_EXPIRY (R86). -/
  | supplyGraceExpiry
  /-- DELIVERED_CURRENT_MEASUREMENT (R88): the delivered current measured, in mA. -/
  | deliveredCurrentMeasurement (milliAmps : Nat)
  /-- TRIP_TIMER_EXPIRY (R89). -/
  | tripTimerExpiry
  /-- OFF_TIME_EXPIRY (R89). -/
  | offTimeExpiry
  /-- SETTLE_TIMER_EXPIRY (R98). -/
  | settleTimerExpiry
  /-- LISTEN_TIMER_EXPIRY (R99). -/
  | listenTimerExpiry
  /-- CONFIRM_TIMER_EXPIRY (R101). -/
  | confirmTimerExpiry
  /-- BASE_FORCED_EXPIRY (R103). -/
  | baseForcedExpiry
  /-- RECEIVER_STATE_CHANGE (R111): the receiver of `lane` recognises its partner's signal, or loses it. -/
  | receiverStateChange (lane : Lane) (locks : Bool)
  /-- TRAINING_TIMER_EXPIRY (R105). -/
  | trainingTimerExpiry
  /-- LANE_PACKET_RECEIVED (R112): the bytes of the whole packet, kind byte to CRC-32. -/
  | lanePacketReceived (lane : Lane) (bytes : List Byte)
  /-- LANE_PACKET_SENT (R113). -/
  | lanePacketSent (lane : Lane)
  /-- DOZE_TIMER_EXPIRY (R115). -/
  | dozeTimerExpiry
  /-- LOST_ON_WAKE (R115): the length in bytes of the packet whose start wakes the RELAY. -/
  | lostOnWake (length : Nat)
  /-- SLICE_SUBMIT (R120, R121): the frame start flag, the index and the bytes of the slice. -/
  | sliceSubmit (start : Bool) (index : Byte) (bytes : List Byte)
  /-- SLICE_SCAN (R125). -/
  | sliceScan
  /-- SENSOR_WRITE_COMPLETE (R131). -/
  | sensorWriteComplete
  /-- DATA_READY_EDGE (R133). -/
  | dataReadyEdge
  /-- SENSOR_READ_COMPLETE (R133): the six raw values read. -/
  | sensorReadComplete (raw : Axes)
  /-- SENSOR_STALL (R134). -/
  | sensorStall
  /-- MOTION_FALLBACK_EXPIRY (R141). -/
  | motionFallbackExpiry
  /-- MOTION_DRAIN (R145): the count asked for. -/
  | motionDrain (count : Byte)
  /-- AUDIO_FRAME_INPUT (R149): the left and the right sample. -/
  | audioFrameInput (left right : Half)
  /-- PRESENTATION_TIME_REACHED (R153). -/
  | presentationTimeReached
  /-- OUTPUT_FRAME_PERIOD (R154). -/
  | outputFramePeriod
  /-- SLIP_TIMER_EXPIRY (R156). -/
  | slipTimerExpiry
  /-- MIC_CAPTURE (R160): the sample at the microphone input. -/
  | micCapture (sample : Half)
  /-- MIC_OUTPUT_SAMPLE (R161). -/
  | micOutputSample
  /-- REMOTE_RESTART_TIMER_EXPIRY (R168). -/
  | remoteRestartTimerExpiry
  /-- REMOTE_START (R169): target, operation, item field and value field. -/
  | remoteStart (target operation item : Byte) (value : Half)
  /-- DEADLINE_EXPIRY (R171). -/
  | deadlineExpiry
  /-- REMOTE_RESULT (R172). -/
  | remoteResult
  /-- ITEM_READ (R165): the item number. -/
  | itemRead (item : Byte)
  /-- ITEM_WRITE (R165): the item number and the value. -/
  | itemWrite (item : Byte) (value : Half)
  /-- STATUS_READ (R179). -/
  | statusRead
  /-- COUNTER_READ (R178): the group. -/
  | counterRead (group : Byte)
  /-- ROSTER_READ (R42). -/
  | rosterRead
  /-- ALLOWANCE_READ (R71). -/
  | allowanceRead
  /-- LANE_READ (R110). -/
  | laneRead
  /-- FRAMES_READ (R128). -/
  | framesRead
  /-- RESTART (R177). -/
  | restart
  /-- RESTART_TIMER_EXPIRY (R177). -/
  | restartTimerExpiry
  /-- UNKNOWN_REQUEST (R176): the request code, none of the twelve of section 11.4. -/
  | unknownRequest (code : Byte)
  /-- HOST_DESELECT (R175): what the host clocked after its request. -/
  | hostDeselect (clocked : Clocking)
  /-- RAIL_POWER_LOSS (R92). -/
  | railPowerLoss
  /-- CHARACTER_MISSING (R20). -/
  | characterMissing
  deriving DecidableEq, Repr

end Sys2Proof
end

