-- ==== Sys2Proof/Decode.lean ====
section
/-! DEFINITION. The command a word spells by the table's bits. The TN64 is a block: spec/opcode_table.json gives no row any
bits (every row's list of fields is empty), so no word spells a command. -/

namespace Sys2Proof

/-- The rows of the table that give bits, as width, word and command: there are none. -/
def rowsWithBits : List (Nat × Nat × Instr) := []

/-- The command of the row with bits that has the given width and word. -/
def decodeTableWord (nbits w : Nat) : Option Instr :=
  (rowsWithBits.find? (fun r => r.1 == nbits && r.2.1 == w)).map (fun r => r.2.2)

end Sys2Proof
end

