-- ==== Sys2Proof/Config.lean ====
section
/-! DEFINITION. What the spec leaves to the implementation or does not state: the free values. None has a
body, so nothing can be proved of a particular value. -/

namespace Sys2Proof

/-- FREE VALUE (assumption 4). The stereo frame of the output for which the spec states no value: the frame
sent at the frame period at which PLAYING is left on an empty queue (R154, R155), and the 'last frame played'
where none has been played since the reset (R155). The argument is the model's counter of such values. -/
opaque Config.freeFrame : Nat → Half × Half

/-- FREE VALUE (assumption 5). Whether the whole milliseconds left on the BASE_FORCED timer, as LANE_READ
returns them (R110), are rounded up or down: no chapter names the rounding. -/
opaque Config.timeLeftRoundsUp : Bool

/-- FREE VALUE (assumption 6). A field of a REMOTE_RESULT reply that the result does not have: target, tag and operation
(positions 0 to 2) with IDLE, the answer's status and value (3 to 5) with anything but DONE. R172 says what is returned in each
case and section 11.4 gives every reply the fields. The arguments are the model's counter of free values and the position. -/
opaque Config.unstatedField : Nat → Nat → Byte

/-- FREE VALUE (assumption 17). Whether a trip whose measurement meets both cases of R89 is noticed as sharp (detail 1) or as
sustained (detail 2): R89 gives the detail of each case and causes one trip of both. -/
opaque Config.bothNoticedSharp : Bool

end Sys2Proof
end

