-- ==== Sys2Proof/Machine/State.lean ====
section
/-! DEFINITION. The state of one TN64 node as plain data, block by block in the order of section 3.1 of
00_scope.md, the fault and refusal reasons, and the state right after full reset. Times are local times in µs
(section 5.2) unless a field says tether time; a timer is held as the local time it started at, `none` while it
does not run. -/

namespace Sys2Proof.Machine

/-- Node roles (R26). -/
inductive Role where
  | source
  | relay
  | headset
  | battery
  deriving DecidableEq, Repr

/-- The sampled straps (R26). The unused ones of a role are sampled and have no effect. -/
structure Straps where
  role       : Role
  addr       : Addr
  /-- REFRESH: `false` 90 Hz, `true` 120 Hz. -/
  refresh120 : Bool
  ceiling    : Grade
  offerClass : BitVec 2
  /-- MOTION MAX: `false` 1,000 Hz, `true` 2,000 Hz. -/
  motion2000 : Bool
  deriving DecidableEq, Repr

/-- The two clocks (section 5.2 of 00_scope.md, R45, R48). -/
structure Clock where
  /-- Local time in µs, never adjusted. -/
  now      : Nat
  /-- Tether time, 0 to 2^48 − 1. -/
  tether   : Nat
  /-- Pending slew, 0 to 63. -/
  slew     : Nat
  /-- Local time from which the present 1,000 µs of slew spacing runs. -/
  slewFrom : Nat
  deriving DecidableEq, Repr

/-! ## Rail channel controller -/

/-- The nine burst kinds (R6). -/
inductive BurstKind where
  | beacon
  | offer
  | claim
  | modeset
  | confirm
  | notice
  | ask
  | answer
  | motion
  deriving DecidableEq, Repr

/-- A burst being assembled (R7): the characters from the header on, the latched times, and the local time at
which the last character's stop bit ended (R8). -/
structure Assembly where
  chars         : List Byte
  latchedTether : Nat
  latchedLocal  : Nat
  lastEnd       : Nat
  deriving DecidableEq, Repr

/-- The receiver hunts for a start mark or assembles a burst (section 1.3). -/
inductive Receiver where
  | hunting
  | assembling (a : Assembly)
  deriving DecidableEq, Repr

/-- One entry of the transmit queue (section 1.4). `id` counts the additions and so tells the most recently
added entry (R15) and follows one entry through the queue (R168, R170). -/
structure QEntry where
  id       : Nat
  kind     : BurstKind
  payload  : List Byte
  attempts : Nat
  deriving DecidableEq, Repr

/-- The entry being sent (R19): its frame from preamble to check, the local time its first preamble character
began, and how many of its characters have been heard back and compared (R20). -/
structure Sending where
  entry     : QEntry
  frame     : List Byte
  startedAt : Nat
  heard     : Nat
  deriving DecidableEq, Repr

structure Rail where
  rx        : Receiver
  /-- The entries not being sent, in the order of R13; the first is the head. -/
  queue     : List QEntry
  sending   : Option Sending
  nextId    : Nat
  /-- The head's stuck timer (R22): the entry it runs for and the time it started. -/
  stuck     : Option (Nat × Nat)
  courtesy  : Bool
  /-- Keying energy of other senders is on the power pair (R4). -/
  carrierIn : Bool
  /-- Local time at which carrier last became absent, or the end of the last reset (R17). -/
  quietFrom : Nat
  deriving DecidableEq, Repr

/-! ## Roster -/

inductive JoinState where
  | joining
  | active
  | listenOnly
  deriving DecidableEq, Repr

/-- An offer as held in a roster entry; the supplier state as its code (R33, R183). -/
structure Offer where
  current : Nat
  state   : Byte
  deriving DecidableEq, Repr

structure Claim where
  floor : Nat
  want  : Nat
  cls   : Nat
  deriving DecidableEq, Repr

/-- A mode set with its round and announced ceiling, grades and ceiling as the codes received (R33, R183). -/
structure ModeSet where
  round   : Half
  grades  : List Byte
  ceiling : Byte
  deriving DecidableEq, Repr

structure Confirm where
  round : Half
  grade : Byte
  deriving DecidableEq, Repr

/-- A scan anchor in tether time and the frame period: `true` 120 Hz, `false` 90 Hz. -/
structure Anchor where
  time     : Nat
  period120 : Bool
  deriving DecidableEq, Repr

/-- A roster entry (R33). `role` is `none` for UNKNOWN; `lastHeard` is `none` in the self entry. -/
structure Entry where
  addr      : Addr
  role      : Option Role
  lastHeard : Option Nat
  summary   : Option Byte
  offer     : Option Offer
  claim     : Option Claim
  modeSet   : Option ModeSet
  confirm   : Option Confirm
  anchor    : Option Anchor
  deriving DecidableEq, Repr

structure Roster where
  join       : JoinState
  joinFrom   : Option Nat
  beaconFrom : Option Nat
  self       : Entry
  /-- The peer entries, lowest address first. -/
  peers      : List Entry
  deriving DecidableEq, Repr

/-! ## Power manager -/

inductive SupplierState where
  | railOn
  | railOff
  | railLatched
  | injecting
  | notReady
  | noRail
  | tripHold
  deriving DecidableEq, Repr

/-- One claimant of the allowance list (section 3.4); its class is the one the computation read (DESIGN CHOICE, assumption 45). -/
structure Grant where
  addr      : Addr
  cls       : Nat
  allowance : Nat
  parked    : Bool
  deriving DecidableEq, Repr

/-- The result of the last allowance computation (R58 to R63). -/
structure AllowanceList where
  total   : Nat
  reserve : Nat
  budget  : Nat
  short   : Bool
  grants  : List Grant
  deriving DecidableEq, Repr

/-- The return delay of one grade (R68): not a candidate, timer running since, or completed. -/
inductive Delay where
  | idle
  | running (since : Nat)
  | done
  deriving DecidableEq, Repr

/-- The last accepted NOTICE of a kind: its sender and its detail (R83); zeros when there is none. -/
structure NoticeRecord where
  sender : Addr
  detail : Byte
  deriving DecidableEq, Repr

/-- A trip of the SOURCE (R89, R90): none in progress, its 20 ms running, or its off-time running. -/
inductive Trip where
  | none
  | pending (since : Nat) (latch : Bool)
  | offTime (since : Nat)
  deriving DecidableEq, Repr

structure Power where
  /-- Supplier state; absent at a RELAY or HEADSET. -/
  supplier     : Option SupplierState
  offerFrom    : Option Nat
  claimFrom    : Option Nat
  /-- Level of the supply-ready input. -/
  supplyReady  : Bool
  /-- Rail present, as the rail-present sense last reported it. -/
  railPresent  : Bool
  holdFrom     : Option Nat
  fallSeen     : Bool
  allowances   : Option AllowanceList
  droop        : Nat
  goodRun      : Nat
  /-- The most recent measurement was below DROOP_LOW (R81). -/
  lastLow      : Bool
  /-- Start of the running 10 ms interval: rail voltage (R81) or delivered current (R88). -/
  measureFrom  : Option Nat
  critActive   : Bool
  clearFrom    : Option Nat
  lostActive   : Bool
  graceFrom    : Option Nat
  lastOverdraw : NoticeRecord
  lastTrip     : NoticeRecord
  lastCritical : NoticeRecord
  modeSet      : List Grade
  modeCeiling  : Grade
  delayG2      : Delay
  delayG3      : Delay
  delayG4      : Delay
  trip         : Trip
  tripHistory  : List Nat
  overrun      : Nat
  /-- Local time of the last NOTICE OVERDRAW offered (R88). -/
  overdrawAt   : Option Nat
  deriving DecidableEq, Repr

/-! ## Load planner -/

/-- A level for each load; `lane` is 0 (off) or a grade number (R72, R73). -/
structure Levels where
  lane   : Nat
  panel  : Nat
  audio  : Nat
  motion : Nat
  deriving DecidableEq, Repr

structure Loads where
  /-- The effective cap last handed on by the power manager (R66). -/
  cap        : Nat
  current    : Levels
  target     : Levels
  panelFrom  : Option Nat
  audioFrom  : Option Nat
  motionFrom : Option Nat
  deriving DecidableEq, Repr

/-! ## Lane agreement controller -/

inductive AgreeState where
  | halted
  | settle
  | listen
  | confirming
  | training
  | running
  deriving DecidableEq, Repr

/-- Reason codes (section 11.1). -/
inductive Reason where
  | notJoined
  | listenOnly
  | chainIncomplete
  | ownSetEmpty
  | noCommonGrade
  | joinDone
  | setChanged
  | pathChanged
  | lockLost
  | confirmFailed
  | trainFailed
  | adopted
  deriving DecidableEq, Repr

structure Agree where
  state          : AgreeState
  round          : Half
  chosen         : Option Grade
  reason         : Reason
  stepFrom       : Option Nat
  failures       : Nat
  laneFaults     : Nat
  baseForcedFrom : Option Nat
  lowered        : Option Grade
  lastRun        : Option Grade
  /-- LISTEN has been entered since the last reset; until then the self entry's mode set follows the current round (R108). -/
  listened       : Bool
  deriving DecidableEq, Repr

/-! ## Lane engine -/

inductive TxState where
  | off
  | training
  | running
  deriving DecidableEq, Repr

inductive RxState where
  | off
  | seeking
  | locked
  deriving DecidableEq, Repr

/-- The five lane packet kinds (R112). -/
inductive PacketKind where
  | slice
  | audio
  | motion
  | mic
  | frameShown
  deriving DecidableEq, Repr

/-- A packet on its way out: its kind and its bytes, kind byte to CRC-32. -/
structure Packet where
  kind  : PacketKind
  bytes : List Byte
  deriving DecidableEq, Repr

/-- A transmitter: its state, the packet being sent with its start, and the packets that wait at it. -/
structure Transmitter where
  state     : TxState
  sending   : Option Packet
  startedAt : Nat
  waiting   : List Packet
  deriving DecidableEq, Repr

structure LaneEngine where
  downTx   : Transmitter
  upTx     : Transmitter
  downRx   : RxState
  upRx     : RxState
  /-- The grade last ordered; none after a reset (R116). -/
  grade    : Option Grade
  dozing   : Bool
  dozeFrom : Option Nat
  deriving DecidableEq, Repr

/-! ## Slice controller -/

/-- A slice on the SOURCE's send queue (R122, R123). -/
structure SendSlice where
  frame : Half
  index : Nat
  time  : Nat
  bytes : List Byte
  deriving DecidableEq, Repr

/-- An open submission (R121): the assigned frame and the next expected index. -/
structure Submission where
  frame : Nat
  next  : Nat
  deriving DecidableEq, Repr

/-- A frame-shown record at the SOURCE, its slice-0 time rebuilt (R128). -/
structure FrameShown where
  frame    : Half
  time     : Nat
  repeated : Byte
  deriving DecidableEq, Repr

structure SliceSource where
  schedule   : Option Anchor
  sendQueue  : List SendSlice
  submission : Option Submission
  frames     : List FrameShown
  /-- The code with which the slice input answered last (R120). -/
  answer     : Byte
  deriving DecidableEq, Repr

/-- A slice in a slot of the HEADSET's buffer (section 6.5). -/
structure HeldSlice where
  frame : Half
  time  : Nat
  bytes : List Byte
  deriving DecidableEq, Repr

structure Slot where
  held     : Option HeldSlice
  incoming : Option HeldSlice
  deriving DecidableEq, Repr

structure SliceHeadset where
  /-- The 12 slots of the slice buffer. -/
  slots    : List Slot
  /-- The scan anchor in tether time. -/
  anchor   : Option Nat
  /-- Scan position: frame n and index k to be scanned next (R118). -/
  frame    : Nat
  index    : Nat
  /-- Indexes of the frame in progress not shown fresh so far (R127). -/
  notFresh : Nat
  /-- The bytes passed to each of the 12 places of the panel port; `none` is shown dark. What the panel gives is
  `State.panelPort`, which joins the panel drive's level (R78, R125). -/
  panel    : List (Option (List Byte))
  deriving DecidableEq, Repr

/-! ## Motion controller -/

/-- A motion record (R139). The stamp is the 48-bit value at the holder. -/
structure MotionRecord where
  sequence    : Half
  stamp       : Nat
  axes        : Axes
  clipped     : BitVec 6
  range       : Bool
  rateChanged : Bool
  fallback    : Bool
  rate        : BitVec 2
  deriving DecidableEq, Repr

inductive PortState where
  | off
  | setting
  | sampling
  deriving DecidableEq, Repr

/-- A sensor read under way: the tether time noted at its edge and the GROUP_DELAY in force then (R133, R135). -/
structure SensorRead where
  edge  : Nat
  delay : Nat
  deriving DecidableEq, Repr

structure MotionHeadset where
  port        : PortState
  /-- The level whose setting the port is writing, or wrote last. -/
  writing     : Nat
  /-- A level change came during the write or the read under way (R131). -/
  again       : Bool
  /-- The level whose setting was last written to completion (R132). -/
  rateLevel   : Option Nat
  /-- The next sample is the first at a newly written rate (R132). -/
  rateChanged : Bool
  reading     : Option SensorRead
  sequence    : Half
  stallFrom   : Option Nat
  stalled     : Bool
  /-- The most recent record, and whether it has been offered on either path (R141). -/
  lastRecord  : Option (MotionRecord × Bool)
  fallbackFrom : Option Nat
  deriving DecidableEq, Repr

structure MotionSource where
  queue  : List MotionRecord
  /-- Sequence and stamp of the newest record taken (section 7.6). -/
  newest : Option (Half × Nat)
  deriving DecidableEq, Repr

/-! ## Audio controller -/

/-- A microphone block at the SOURCE: its capture time and the samples not yet sent (R161). -/
structure MicBlock where
  time    : Nat
  samples : List Half
  deriving DecidableEq, Repr

structure AudioSource where
  builder  : List (Half × Half)
  sequence : Half
  micQueue : List MicBlock
  /-- The sample at the audio output, and the capture time sent with it (R161). -/
  micOut   : Half
  micTime  : Option Nat
  /-- Local time of the last microphone output frame period taken (R148). -/
  micTaken : Option Nat
  deriving DecidableEq, Repr

/-- A block of the playback queue: the presentation time of its first frame and the frames not yet played. -/
structure PlayBlock where
  sequence : Option Half
  time     : Nat
  frames   : List (Half × Half)
  deriving DecidableEq, Repr

/-- Output states (section 8.3). `ramping j`: `j` ramp frames have been sent. -/
inductive Output where
  | waiting
  | playing
  | ramping (sent : Nat)
  deriving DecidableEq, Repr

structure AudioHeadset where
  queue     : List PlayBlock
  /-- The last sequence appended (R151). -/
  lastSeq   : Option Half
  output    : Output
  /-- The input values of the last frame played (R155). -/
  lastFrame : Option (Half × Half)
  slipFrom  : Option Nat
  /-- The head frame is marked to be played twice (R156). -/
  twice     : Bool
  /-- The output has not entered PLAYING since the last underrun (R155). -/
  underrun  : Bool
  /-- The frame at the headphone amplifier. -/
  frameOut  : Half × Half
  /-- Local time of the last output frame period taken (R148). -/
  outTaken  : Option Nat
  micBuild  : List Half
  /-- Tether time noted at the first sample of the block being built (R160). -/
  micStart  : Nat
  micSequence : Half
  /-- Local time of the last capture frame period taken (R148). -/
  capTaken  : Option Nat
  /-- The audio controller is powered down by parking (R159). -/
  down      : Bool
  deriving DecidableEq, Repr

/-! ## Remote request controller -/

/-- Requester states (section 9.4). -/
inductive RemoteState where
  | idle
  | queued
  | awaiting
  | done
  | timeout
  | giveUp
  | restarted
  deriving DecidableEq, Repr

structure Remote where
  state        : RemoteState
  target       : Byte
  tag          : Byte
  operation    : Byte
  item         : Byte
  value        : Half
  answerStatus : Byte
  answerValue  : Half
  deadlineFrom : Option Nat
  /-- The counter STALE_ANSWER (R174). -/
  stale        : Nat
  /-- A remote restart is pending since (R168). -/
  restartFrom  : Option Nat
  /-- The queue entry of the ANSWER to that RESTART. -/
  restartAnswer : Option Nat
  deriving DecidableEq, Repr

/-! ## Host port and status unit -/

structure HostPort where
  /-- The sticky status flags: bit n is flag n (section 10.4). -/
  sticky      : BitVec 28
  /-- The rest of the reply not yet clocked out (R175). -/
  reply       : List Byte
  /-- The bytes the host clocked out of the last reply (R175). -/
  clocked     : List Byte
  /-- The request of the present selection has been taken; it carries exactly one (R175). -/
  taken       : Bool
  /-- The reply that stood when a reset fell in the present selection (R175). -/
  cut         : Option (List Byte)
  /-- The 50 ms timer of the RESTART request (R177). -/
  restartFrom : Option Nat
  deriving DecidableEq, Repr

/-- The five counter groups (R23, R116, R129, R146, R162), each counter at its index. -/
structure Counters where
  rail    : List Nat
  lane    : List Nat
  picture : List Nat
  motion  : List Nat
  audio   : List Nat
  deriving DecidableEq, Repr

/-- The whole node. `pending` is the queue of commands that wait, first in, first out. -/
structure State where
  /-- The node has power; cleared by RAIL_POWER_LOSS (R92). -/
  powered  : Bool
  straps   : Straps
  clock    : Clock
  rail     : Rail
  roster   : Roster
  power    : Power
  loads    : Loads
  agree    : Agree
  lanes    : LaneEngine
  sliceSource  : SliceSource
  sliceHeadset : SliceHeadset
  motionHeadset : MotionHeadset
  motionSource : MotionSource
  audioSource  : AudioSource
  audioHeadset : AudioHeadset
  remote   : Remote
  host     : HostPort
  counters : Counters
  /-- The 31 settings items as 16-bit quantities, item n at index n (R164). RAIL_ENABLE and IDENT hold no value
  of their own: their places hold 0 and are never read. -/
  items    : List Half
  /-- MODEL's own: how many free values have been drawn (assumption 4). -/
  freeCount : Nat
  pending  : List Instr
  deriving DecidableEq, Repr

/-- There is no fault: the spec gives every command its effect in every state of the node, and names no event
that stops the machine. -/
inductive Fault where
  deriving DecidableEq, Repr

inductive Refusal where
  /-- An instruction without a meaning. Raised by no arm of `exec`. Safe: nothing is claimed of it. -/
  | notModelled (mnemonic : String)
  /-- Raised by UNKNOWN_REQUEST with one of the twelve known request codes, which no host can send as an unknown
  request (`Instr.wellFormed` excludes it). Safe: the model stops on a command no interface carries. -/
  | knownRequestCode
  deriving DecidableEq, Repr

/-! ## The state right after full reset

Full reset samples the straps (R26), so the state after it depends on them; FULL_RESET carries their levels.
`State.reset` is the state for the straps named in assumption 3: a SOURCE at address 1, CEILING G4, OFFER CLASS
1,000 mA, on a rail that is quiet. `reset_is_full_reset` in the tests ties it to FULL_RESET's meaning. -/

/-- A transmitter after full reset and after restart (R116). -/
def Transmitter.idle : Transmitter := { state := .off, sending := none, startedAt := 0, waiting := [] }

/-- Item defaults of a SOURCE (R164, R180). -/
def resetItems : List Half :=
  [3000, 4, 3, 2, 2, 0, 10800, 10000, 1, 1, 0, 500, 0, 0, 0, 0, 0, 0,
   16384, 16384, 16384, 16384, 16384, 16384, 32767, 32767, 6000, 256, 9472, 64, 0]

/-- The machine right after full reset (R25, R28, R41, R45, R50, R56, R70, R79, R91, R108, R116, R130, R147, R163,
R164, R173, R182). -/
def State.reset : State :=
  { powered := true
    straps := { role := .source, addr := 1, refresh120 := false, ceiling := .g4, offerClass := 0, motion2000 := false }
    clock := { now := 0, tether := 0, slew := 0, slewFrom := 0 }
    rail := { rx := .hunting, queue := [], sending := none, nextId := 0, stuck := none, courtesy := false,
              carrierIn := false, quietFrom := 0 }
    roster := { join := .joining, joinFrom := some 0, beaconFrom := none,
                self := { addr := 1, role := some .source, lastHeard := none, summary := some 0,
                          offer := some { current := 1000, state := 0 }, claim := none,
                          modeSet := some { round := 0, grades := [1, 2, 3, 4], ceiling := 4 },
                          confirm := none, anchor := none },
                peers := [] }
    power := { supplier := some .railOn, offerFrom := none, claimFrom := none, supplyReady := false,
               railPresent := false, holdFrom := none, fallSeen := false, allowances := none, droop := 0,
               goodRun := 0, lastLow := false, measureFrom := some 0, critActive := false, clearFrom := none,
               lostActive := false, graceFrom := none, lastOverdraw := ⟨0, 0⟩, lastTrip := ⟨0, 0⟩,
               lastCritical := ⟨0, 0⟩, modeSet := [.g1, .g2, .g3, .g4], modeCeiling := .g4, delayG2 := .idle,
               delayG3 := .idle, delayG4 := .idle, trip := .none, tripHistory := [], overrun := 0,
               overdrawAt := none }
    loads := { cap := 0, current := ⟨0, 0, 0, 0⟩, target := ⟨0, 0, 0, 0⟩, panelFrom := none, audioFrom := none,
               motionFrom := none }
    agree := { state := .halted, round := 0, chosen := none, reason := .notJoined, stepFrom := none, failures := 0,
               laneFaults := 0, baseForcedFrom := none, lowered := none, lastRun := none, listened := false }
    lanes := { downTx := .idle, upTx := .idle, downRx := .off, upRx := .off, grade := none, dozing := false,
               dozeFrom := none }
    sliceSource := { schedule := none, sendQueue := [], submission := none, frames := [], answer := 0 }
    sliceHeadset := { slots := List.replicate 12 ⟨none, none⟩, anchor := none, frame := 0, index := 0, notFresh := 0,
                      panel := List.replicate 12 none }
    motionHeadset := { port := .off, writing := 0, again := false, rateLevel := none, rateChanged := false,
                       reading := none, sequence := 0, stallFrom := none, stalled := false, lastRecord := none,
                       fallbackFrom := none }
    motionSource := { queue := [], newest := none }
    audioSource := { builder := [], sequence := 0, micQueue := [], micOut := 0, micTime := none, micTaken := none }
    audioHeadset := { queue := [], lastSeq := none, output := .waiting, lastFrame := none, slipFrom := none,
                      twice := false, underrun := false, frameOut := (0, 0), outTaken := none, micBuild := [],
                      micStart := 0, micSequence := 0, capTaken := none, down := false }
    remote := { state := .idle, target := 0, tag := 0, operation := 0, item := 0, value := 0, answerStatus := 0,
                answerValue := 0, deadlineFrom := none, stale := 0, restartFrom := none, restartAnswer := none }
    host := { sticky := 0, reply := [], clocked := [], taken := false, cut := none, restartFrom := none }
    counters := { rail := List.replicate 11 0, lane := List.replicate 5 0, picture := List.replicate 7 0,
                  motion := List.replicate 6 0, audio := List.replicate 8 0 }
    items := resetItems
    freeCount := 0
    pending := [] }

end Sys2Proof.Machine
end

