-- ==== Sys2Proof/Machine/Bytes.lean ====
section
/-! DEFINITION. Byte order, sign and checks: every multi-byte field is least significant byte first (chapter 11),
the CRC-16 of rail bursts (R5), the CRC-32 of lane packets (R112), odd parity (R3) and the serial order of
numbers that wrap (R1). -/

namespace Sys2Proof.Machine

/-- `n` bytes of a value, least significant first; higher bits are left off. -/
def leBytes : Nat → Nat → List Byte
  | 0, _ => []
  | n + 1, v => BitVec.ofNat 8 v :: leBytes n (v / 256)

/-- The value of bytes held least significant first. -/
def leValue : List Byte → Nat
  | [] => 0
  | b :: rest => b.toNat + 256 * leValue rest

/-- The byte at an offset of a field list; 0 past its end, which no caller reaches on a list of checked length. -/
def byteAt (bytes : List Byte) (i : Nat) : Byte := bytes.getD i 0

/-- The field of `n` bytes at an offset. -/
def fieldAt (bytes : List Byte) (i n : Nat) : Nat := leValue ((bytes.drop i).take n)

def halfAt (bytes : List Byte) (i : Nat) : Half := BitVec.ofNat 16 (fieldAt bytes i 2)

def byteOfBool (b : Bool) : Byte := if b then 1 else 0

/-- The number of ones among the first `n` bits. -/
def countOnes : Nat → Byte → Nat
  | 0, _ => 0
  | n + 1, d => (if d.getLsbD n then 1 else 0) + countOnes n d

/-- The data bits and the parity bit together hold an odd number of ones (R3). -/
def oddParity (data : Byte) (parity : Bool) : Bool :=
  (countOnes 8 data + (if parity then 1 else 0)) % 2 == 1

/-- A character whose parity is not odd or whose stop bit is not at the stop level is garbled (R3). -/
def garbled (data : Byte) (parity stopOk : Bool) : Bool := !(oddParity data parity && stopOk)

/-- The CRC-16 of R5, generator x^16 + x^12 + x^5 + 1, one bit fed: each byte enters from its least significant
bit, so the register shifts right and the generator stands reflected (0x8408). That the register as it then stands is the check, bit n
of it the coefficient of x^(15 − n), is PRESUMED (assumption 12): R5 gives no bit orientation of the result. -/
def crc16Step (r : BitVec 16) (bit : Bool) : BitVec 16 :=
  if r.getLsbD 0 != bit then (r >>> 1) ^^^ 0x8408#16 else r >>> 1

def crc16Byte (r : BitVec 16) (b : Byte) : BitVec 16 :=
  [0, 1, 2, 3, 4, 5, 6, 7].foldl (fun r i => crc16Step r (b.getLsbD i)) r

/-- The check of R5 over header, length and payload, started from all ones; its bits as the register holds them (assumption 12). -/
def crc16 (bytes : List Byte) : BitVec 16 := bytes.foldl crc16Byte 0xFFFF#16

/-- The CRC-32 of R112, one bit fed. PRESUMED (assumption 12): each byte enters from its least significant bit. -/
def crc32Step (r : BitVec 32) (bit : Bool) : BitVec 32 :=
  if r.getLsbD 0 != bit then (r >>> 1) ^^^ 0xEDB88320#32 else r >>> 1

def crc32Byte (r : BitVec 32) (b : Byte) : BitVec 32 :=
  [0, 1, 2, 3, 4, 5, 6, 7].foldl (fun r i => crc32Step r (b.getLsbD i)) r

/-- The check of R112: started from all ones, the result inverted. -/
def crc32 (bytes : List Byte) : BitVec 32 := ~~~ (bytes.foldl crc32Byte 0xFFFFFFFF#32)

/-- Serial order (R1): `a` is later than `b` when (a − b) mod 2^n lies in 1 to 2^(n−1) − 1. -/
def later {n : Nat} (a b : BitVec n) : Bool :=
  decide (1 ≤ (a - b).toNat ∧ (a - b).toNat ≤ 2 ^ (n - 1) - 1)

/-- Division rounded toward zero, as the output arithmetic rounds (R155, R158). -/
def divToZero (a : Int) (b : Nat) : Int := Int.tdiv a b

/-- The nearest whole number of a / 16,384, a half rounded away from zero (R137). -/
def roundedGain (a : Int) : Int :=
  if a < 0 then - (((a.natAbs + 8192) / 16384 : Nat) : Int) else (((a.natAbs + 8192) / 16384 : Nat) : Int)

end Sys2Proof.Machine
end

