-- ==== Sys2Proof/Machine/Operands.lean ====
section
/-! DEFINITION. The codes and field layouts of chapter 11 and the straps of R26: what a byte on one of the node's
interfaces stands for. -/

namespace Sys2Proof.Machine

/-! ## Codes shared by several formats (section 11.1) -/

def Role.code : Role → Byte
  | .source => 1
  | .relay => 2
  | .headset => 3
  | .battery => 4

/-- The role a BEACON's role byte names, if it names one of the four (R44). -/
def roleOfCode (b : Byte) : Option Role :=
  if b = 1 then some .source else if b = 2 then some .relay else if b = 3 then some .headset
  else if b = 4 then some .battery else none

/-- Grade number, 1 to 4; grades are ordered by it (R66). -/
def gradeNum : Grade → Nat
  | .g1 => 1
  | .g2 => 2
  | .g3 => 3
  | .g4 => 4

def gradeCode (g : Grade) : Byte := BitVec.ofNat 8 (gradeNum g)

/-- 0 for none (section 11.1). -/
def optGradeCode : Option Grade → Byte
  | none => 0
  | some g => gradeCode g

/-- The grade of a number 1 to 4; a number above 4 is read as G4 and 0 as G1 (used on limited values only). -/
def gradeOfNum (n : Nat) : Grade := if n ≤ 1 then .g1 else if n = 2 then .g2 else if n = 3 then .g3 else .g4

/-- The lower of two grades (R66). -/
def lowerGrade (a b : Grade) : Grade := if gradeNum a ≤ gradeNum b then a else b

/-- One grade below; nothing is below G1 (R105). -/
def gradeBelow : Grade → Option Grade
  | .g1 => none
  | .g2 => some .g1
  | .g3 => some .g2
  | .g4 => some .g3

/-- Every grade up to a ceiling, ascending (R70). -/
def gradesUpTo (c : Grade) : List Grade := [Grade.g1, .g2, .g3, .g4].filter (fun g => gradeNum g ≤ gradeNum c)

def AgreeState.code : AgreeState → Byte
  | .halted => 0
  | .settle => 1
  | .listen => 2
  | .confirming => 3
  | .training => 4
  | .running => 5

def SupplierState.code : SupplierState → Byte
  | .railOn => 0
  | .railOff => 1
  | .railLatched => 2
  | .injecting => 3
  | .notReady => 4
  | .noRail => 5
  | .tripHold => 6

def JoinState.code : JoinState → Byte
  | .joining => 0
  | .active => 1
  | .listenOnly => 2

def Reason.code : Reason → Byte
  | .notJoined => 0
  | .listenOnly => 1
  | .chainIncomplete => 2
  | .ownSetEmpty => 3
  | .noCommonGrade => 4
  | .joinDone => 5
  | .setChanged => 6
  | .pathChanged => 7
  | .lockLost => 8
  | .confirmFailed => 9
  | .trainFailed => 10
  | .adopted => 11

/-- Period code of a scan anchor that is set: 1 for 90 Hz, 2 for 120 Hz. -/
def periodCode (p120 : Bool) : Byte := if p120 then 2 else 1

/-- Status codes of ANSWER bursts and host replies (section 11.1). -/
inductive Status where
  | ok
  | clamped
  | noItem
  | notApplicable
  | refused
  | unknown
  | badArgument
  | pending
  | listenOnly
  | busy
  | self
  | noPeer
  | idle
  | done
  | timeout
  | giveUp
  | restarted
  deriving DecidableEq, Repr

def Status.code : Status → Byte
  | .ok => 0
  | .clamped => 1
  | .noItem => 2
  | .notApplicable => 3
  | .refused => 4
  | .unknown => 5
  | .badArgument => 6
  | .pending => 7
  | .listenOnly => 8
  | .busy => 9
  | .self => 10
  | .noPeer => 11
  | .idle => 12
  | .done => 13
  | .timeout => 14
  | .giveUp => 15
  | .restarted => 16

/-- Notice kinds. -/
def noticeOverdraw : Byte := 1
def noticeTrip : Byte := 2
def noticeCritical : Byte := 3
def noticeLeaving : Byte := 4

/-- A lane summary: the state in bits 0 to 2 and the grade in bits 3 to 5 (section 11.1). -/
def laneSummary (state : Byte) (grade : Byte) : Byte := (state &&& 7) ||| ((grade &&& 7) <<< 3)

/-- The summary a BATTERY's BEACON carries: 'no lane' (R43). -/
def noLane : Byte := 7

/-! ## Straps (R26) -/

def roleOfStrap (n : Nat) : Role :=
  if n = 0 then .source else if n = 1 then .relay else if n = 2 then .headset else .battery

/-- Each strap is a binary number, its lowest-numbered pin least significant; 0 selects the first value listed. -/
def decodeStraps (pins : BitVec 11) : Straps :=
  { role := roleOfStrap (pins.extractLsb' 0 2).toNat
    addr := pins.extractLsb' 2 3
    refresh120 := pins.getLsbD 5
    ceiling := gradeOfNum ((pins.extractLsb' 6 2).toNat + 1)
    offerClass := pins.extractLsb' 8 2
    motion2000 := pins.getLsbD 10 }

/-- The current of the OFFER CLASS strap at a role (R26, R50). -/
def strapCurrent (st : Straps) : Nat :=
  let code := st.offerClass.toNat
  if st.role = .source then
    (if code = 0 then 1000 else if code = 1 then 1500 else if code = 2 then 2000 else 3000)
  else
    (if code = 0 then 500 else if code = 1 then 750 else if code = 2 then 1000 else 1500)

/-! ## Rail bursts (sections 1.2 and 11.2) -/

def preambleChar : Byte := 0x55
def startMark : Byte := 0xC3

def BurstKind.code : BurstKind → Nat
  | .beacon => 1
  | .offer => 2
  | .claim => 3
  | .modeset => 4
  | .confirm => 5
  | .notice => 6
  | .ask => 7
  | .answer => 8
  | .motion => 9

def kindOfCode (n : Nat) : Option BurstKind :=
  if n = 1 then some .beacon else if n = 2 then some .offer else if n = 3 then some .claim
  else if n = 4 then some .modeset else if n = 5 then some .confirm else if n = 6 then some .notice
  else if n = 7 then some .ask else if n = 8 then some .answer else if n = 9 then some .motion else none

/-- Queue class: 1 is served first, 5 last (R6). -/
def BurstKind.cls : BurstKind → Nat
  | .notice => 1
  | .modeset => 2
  | .confirm => 2
  | .offer => 3
  | .claim => 3
  | .ask => 4
  | .answer => 4
  | .beacon => 5
  | .motion => 5

def BurstKind.replaceable : BurstKind → Bool
  | .notice => false
  | .ask => false
  | .answer => false
  | _ => true

/-- The payload lengths R6 permits for a kind. -/
def BurstKind.lengthOk (k : BurstKind) (n : Nat) : Bool :=
  match k with
  | .notice => n == 2
  | .modeset => decide (3 ≤ n ∧ n ≤ 7)
  | .confirm => n == 3
  | .offer => n == 3
  | .claim => n == 5
  | .ask => n == 6
  | .answer => n == 5
  | .beacon => n == 6 || n == 11
  | .motion => n == 20

/-- The header: sender address in bits 5 to 7, kind code in bits 0 to 4. -/
def headerByte (a : Addr) (k : BurstKind) : Byte := BitVec.ofNat 8 (a.toNat * 32 + k.code)

def headerAddr (h : Byte) : Addr := h.extractLsb' 5 3

def headerKind (h : Byte) : Option BurstKind := kindOfCode (h.extractLsb' 0 5).toNat

/-- The frame of a burst from preamble to check, the check low byte first (R5, R19). -/
def burstFrame (a : Addr) (k : BurstKind) (payload : List Byte) : List Byte :=
  let body := headerByte a k :: BitVec.ofNat 8 payload.length :: payload
  preambleChar :: preambleChar :: startMark :: (body ++ leBytes 2 (crc16 body).toNat)

/-! ## Motion flags and records (sections 11.1, 11.2, R139) -/

/-- Clipped flags in bits 0 to 5, RANGE 6, RATE_CHANGED 7, FALLBACK 8, rate level in bits 9 and 10. -/
def motionFlags (r : MotionRecord) : Nat :=
  r.clipped.toNat + (if r.range then 64 else 0) + (if r.rateChanged then 128 else 0)
    + (if r.fallback then 256 else 0) + 512 * r.rate.toNat

def axesBytes (a : Axes) : List Byte :=
  leBytes 2 a.ax.toNat ++ leBytes 2 a.ay.toNat ++ leBytes 2 a.az.toNat ++ leBytes 2 a.rx.toNat ++ leBytes 2 a.ry.toNat
    ++ leBytes 2 a.rz.toNat

def axesAt (b : List Byte) (i : Nat) : Axes :=
  { ax := halfAt b i, ay := halfAt b (i + 2), az := halfAt b (i + 4), rx := halfAt b (i + 6), ry := halfAt b (i + 8),
    rz := halfAt b (i + 10) }

/-- The 20 bytes of a MOTION payload and of a motion record packet's fields. -/
def motionPayload (r : MotionRecord) : List Byte :=
  leBytes 2 r.sequence.toNat ++ leBytes 4 r.stamp ++ axesBytes r.axes ++ leBytes 2 (motionFlags r)

/-- The record of 20 such bytes, its stamp rebuilt by the caller. -/
def motionOfBytes (b : List Byte) (stamp : Nat) : MotionRecord :=
  let flags := BitVec.ofNat 16 (fieldAt b 18 2)
  { sequence := halfAt b 0, stamp := stamp, axes := axesAt b 6, clipped := flags.extractLsb' 0 6,
    range := flags.getLsbD 6, rateChanged := flags.getLsbD 7, fallback := flags.getLsbD 8,
    rate := flags.extractLsb' 9 2 }

/-! ## Lane packets (sections 6.1 and 11.3) -/

def PacketKind.code : PacketKind → Byte
  | .slice => 1
  | .audio => 2
  | .motion => 3
  | .mic => 4
  | .frameShown => 5

def packetKindOfCode (b : Byte) : Option PacketKind :=
  if b = 1 then some .slice else if b = 2 then some .audio else if b = 3 then some .motion
  else if b = 4 then some .mic else if b = 5 then some .frameShown else none

/-- The direction each kind travels (R112). -/
def PacketKind.lane : PacketKind → Lane
  | .slice => .down
  | .audio => .down
  | .motion => .up
  | .mic => .up
  | .frameShown => .up

/-- The place of a kind in its transmitter's order (R113): the lower goes first. -/
def PacketKind.rank : PacketKind → Nat
  | .audio => 0
  | .slice => 1
  | .motion => 0
  | .frameShown => 1
  | .mic => 2

/-- A packet: its kind byte, its fields, and the CRC-32 over both, low byte first. -/
def makePacket (k : PacketKind) (fields : List Byte) : Packet :=
  { kind := k, bytes := (k.code :: fields) ++ leBytes 4 (crc32 (k.code :: fields)).toNat }

/-- The length the Formats chapter gives a packet, from its kind and at a slice also from its byte count (R184). -/
def packetLength (k : PacketKind) (bytes : List Byte) : Nat :=
  match k with
  | .slice => 14 + fieldAt bytes 8 2
  | .audio => 203
  | .motion => 25
  | .mic => 107
  | .frameShown => 12

/-- The contents R184 rules out: a slice of no bytes or of an index above 11, a repeated count above 12. -/
def packetContentOk (k : PacketKind) (bytes : List Byte) : Bool :=
  match k with
  | .slice => decide (fieldAt bytes 8 2 ≠ 0 ∧ (byteAt bytes 3).toNat ≤ 11)
  | .frameShown => decide ((byteAt bytes 7).toNat ≤ 12)
  | _ => true

/-- The kind of a good packet on a lane (R112, R184); none when the packet is not good. A slice packet too short
to hold its byte count is shorter than the length so found. -/
def goodPacket (lane : Lane) (bytes : List Byte) : Option PacketKind :=
  match packetKindOfCode (byteAt bytes 0) with
  | none => none
  | some k =>
    if k.lane = lane ∧ bytes.length = packetLength k bytes ∧ packetContentOk k bytes = true ∧
        leBytes 4 (crc32 (bytes.take (bytes.length - 4))).toNat = bytes.drop (bytes.length - 4)
    then some k else none

def frameBytes (f : Half × Half) : List Byte := leBytes 2 f.1.toNat ++ leBytes 2 f.2.toNat

/-- `n` stereo frames from an offset on, each left then right. -/
def framesAt (b : List Byte) : Nat → Nat → List (Half × Half)
  | 0, _ => []
  | n + 1, i => (halfAt b i, halfAt b (i + 2)) :: framesAt b n (i + 4)

/-- `n` samples from an offset on. -/
def samplesAt (b : List Byte) : Nat → Nat → List Half
  | 0, _ => []
  | n + 1, i => halfAt b i :: samplesAt b n (i + 2)

end Sys2Proof.Machine
end

