-- ==== Sys2Proof/Machine/Views.lean ====
section
/-! DEFINITION. What can be read off the state: the settings items with their ranges and defaults (R164), the roster
as one list in address order (R33), the picture path and the chain (R93), the parked condition (R80), the effective
ceiling (R66), carrier detect (R4), frame periods (R148) and rebuilt tether times (R46). -/

namespace Sys2Proof.Machine

/-! ## Settings items (R164) -/

/-- One row of the item table: its range, whether it is read as signed, and the roles it applies at. -/
structure ItemSpec where
  lo : Nat
  hi : Nat
  applies : Role → Bool

def atHeadset : Role → Bool
  | .headset => true
  | _ => false

def atTetherPowered : Role → Bool
  | .relay => true
  | .headset => true
  | _ => false

def atPicturePath : Role → Bool
  | .battery => false
  | _ => true

def atSupplier : Role → Bool
  | .source => true
  | .battery => true
  | _ => false

def atSource : Role → Bool
  | .source => true
  | _ => false

def everyRole : Role → Bool := fun _ => true

/-- The ranges of R164 as 16-bit quantities: an OFFSET item takes every one of them (R136). MOTION_WANT's upper end
depends on the MOTION MAX strap (R74); the limits DROOP_LOW and DROOP_CRIT set each other are in `State.heldValue`. -/
def itemSpec (st : Straps) (n : Nat) : Option ItemSpec :=
  if n = 0 then some ⟨0, 3000, atSupplier⟩
  else if n = 1 then some ⟨1, 4, atPicturePath⟩
  else if n = 2 then some ⟨1, 4, atHeadset⟩
  else if n = 3 then some ⟨0, 3, atHeadset⟩
  else if n = 4 then some ⟨2, if st.motion2000 then 3 else 2, atHeadset⟩
  else if n = 5 then some ⟨0, 5, atHeadset⟩
  else if n = 6 then some ⟨8000, 11500, atTetherPowered⟩
  else if n = 7 then some ⟨8000, 11500, atTetherPowered⟩
  else if n = 8 then some ⟨0, 2, atTetherPowered⟩
  else if n = 9 then some ⟨0, 2, atTetherPowered⟩
  else if n = 10 then some ⟨0, 1, atSource⟩
  else if n = 11 then some ⟨0, 2000, atHeadset⟩
  else if n ≤ 17 then some ⟨0, 65535, atHeadset⟩
  else if n ≤ 23 then some ⟨0, 65535, atHeadset⟩
  else if n = 24 then some ⟨0, 32767, atHeadset⟩
  else if n = 25 then some ⟨0, 32767, atHeadset⟩
  else if n = 26 then some ⟨2000, 20000, atSource⟩
  else if n = 27 then some ⟨0, 256, atHeadset⟩
  else if n = 28 then some ⟨0, 65535, everyRole⟩
  else if n = 29 then some ⟨0, 65535, everyRole⟩
  else if n = 30 then some ⟨0, 65535, everyRole⟩
  else none

/-- The defaults of R164 and R180, taken at full reset. -/
def defaultItems (st : Straps) : List Half :=
  [3000, 4, 3, 2, if st.motion2000 then 3 else 2, 0, 10800, 10000, 1, 1, 0, 500, 0, 0, 0, 0, 0, 0,
   16384, 16384, 16384, 16384, 16384, 16384, 32767, 32767, 6000, 256, 9472, 64, 0]

/-- The value item `n` holds, unsigned. -/
def State.item (s : State) (n : Nat) : Nat := (s.items.getD n 0).toNat

/-- The value item `n` holds, read as signed (the OFFSET items). -/
def State.itemInt (s : State) (n : Nat) : Int := (s.items.getD n 0).toInt

def itemOfferLimit : Nat := 0
def itemLaneCeiling : Nat := 1
def itemPanelWant : Nat := 2
def itemAudioWant : Nat := 3
def itemMotionWant : Nat := 4
def itemShedOrder : Nat := 5
def itemDroopLow : Nat := 6
def itemDroopCrit : Nat := 7
def itemActionDroopCrit : Nat := 8
def itemActionSupplyLost : Nat := 9
def itemRailEnable : Nat := 10
def itemGroupDelay : Nat := 11
def itemOffset : Nat := 12
def itemScale : Nat := 18
def itemAccelLimit : Nat := 24
def itemRateLimit : Nat := 25
def itemAudioLead : Nat := 26
def itemVolume : Nat := 27
def itemMaskLow : Nat := 28
def itemMaskHigh : Nat := 29
def itemIdent : Nat := 30

/-! ## Role, roster and picture path -/

def State.role (s : State) : Role := s.straps.role

/-- RELAY and HEADSET are powered from the rail. -/
def State.tetherPowered (s : State) : Bool := atTetherPowered s.role

/-- The lane agreement controller and the lane engine are inactive at a BATTERY (R27). -/
def State.onPath (s : State) : Bool := atPicturePath s.role

/-- Every roster entry, the self entry included, lowest address first (R33). -/
def Roster.entries (r : Roster) : List Entry :=
  r.peers.filter (fun e => e.addr.toNat < r.self.addr.toNat) ++ r.self ::
    r.peers.filter (fun e => ¬ e.addr.toNat < r.self.addr.toNat)

/-- An entry belongs to the picture path while its role is SOURCE, RELAY or HEADSET (R33, R93). -/
def Entry.onPath (e : Entry) : Bool :=
  match e.role with
  | some r => atPicturePath r
  | none => false

def Roster.path (r : Roster) : List Entry := r.entries.filter Entry.onPath

/-- The chain is complete while the path holds a SOURCE entry and a HEADSET entry (R93). -/
def Roster.chainComplete (r : Roster) : Bool :=
  r.path.any (fun e => e.role == some .source) && r.path.any (fun e => e.role == some .headset)

def Roster.find (r : Roster) (a : Addr) : Option Entry := r.peers.find? (fun e => e.addr == a)

/-- A supplier entry is one that holds an offer (R55). -/
def Roster.hasSupplier (r : Roster) : Bool := r.entries.any (fun e => e.offer.isSome)

/-! ## Power views -/

/-- The node's own entry of the allowance list (section 3.4). -/
def State.ownGrant (s : State) : Option Grant :=
  match s.power.allowances with
  | none => none
  | some l => l.grants.find? (fun g => g.addr == s.straps.addr)

/-- A hold with a given action value is active while an active fault has that action (R84): 1 FLOORS, 2 PARK. -/
def State.holdOf (s : State) (action : Nat) : Bool :=
  (s.power.critActive && s.item itemActionDroopCrit == action) ||
    (s.power.lostActive && s.item itemActionSupplyLost == action)

def State.floorsHold (s : State) : Bool := s.holdOf 1

def State.parkHold (s : State) : Bool := s.holdOf 2

/-- The parked condition of a RELAY or HEADSET (R80). -/
def State.parked (s : State) : Bool :=
  s.tetherPowered && ((match s.ownGrant with | some g => g.parked | none => false) || s.parkHold)

/-- The lowest of the CEILING strap, LANE_CEILING and the lowered ceiling (R66). -/
def State.effectiveCeiling (s : State) : Grade :=
  let two := lowerGrade s.straps.ceiling (gradeOfNum (s.item itemLaneCeiling))
  match s.agree.lowered with
  | none => two
  | some g => lowerGrade two g

/-- The offer level of a supplier: the smaller of the strap current and OFFER_LIMIT (R50, R53). -/
def State.offerLevel (s : State) : Nat := min (strapCurrent s.straps) (s.item itemOfferLimit)

/-- The offered current of a supplier: the offer level in RAIL_ON or INJECTING, else 0 (R50, R51). -/
def State.offeredCurrent (s : State) : Nat :=
  match s.power.supplier with
  | some .railOn => s.offerLevel
  | some .injecting => s.offerLevel
  | _ => 0

/-- A BATTERY injects while its supplier state is INJECTING, up to its offered current (R52). -/
def State.injecting (s : State) : Bool := decide (s.power.supplier = some .injecting)

/-- A trip is in progress from the trip to the closing of the switch or the latch (R89). -/
def Power.tripInProgress (p : Power) : Bool := decide (p.trip ≠ .none)

/-- A latch of the rail switch is pending its 20 ms, or in force (R90). -/
def Power.latched (p : Power) : Bool :=
  decide (p.supplier = some .railLatched) || (match p.trip with | .pending _ l => l | _ => false)

/-! ## Rail, lanes, audio -/

/-- Carrier detect (R4): keying energy from any node, this one included. -/
def Rail.carrier (r : Rail) : Bool := r.carrierIn || r.sending.isSome

/-- The transmitter is held while JOINING and while listen-only (R16). -/
def State.txHeld (s : State) : Bool := decide (s.roster.join ≠ .active)

def State.running (s : State) : Bool := decide (s.agree.state = .running)

/-- The receivers a role owns (section 6.1). -/
def ownsRx : Role → Lane → Bool
  | .source, .up => true
  | .relay, _ => true
  | .headset, .down => true
  | _, _ => false

/-- The transmitters a role owns (section 6.1). -/
def ownsTx : Role → Lane → Bool
  | .source, .down => true
  | .relay, _ => true
  | .headset, .up => true
  | _, _ => false

def LaneEngine.rx (l : LaneEngine) : Lane → RxState
  | .down => l.downRx
  | .up => l.upRx

def LaneEngine.tx (l : LaneEngine) : Lane → Transmitter
  | .down => l.downTx
  | .up => l.upTx

/-- A node is locked when every receiver it owns has locked (R94). -/
def State.locked (s : State) : Bool :=
  (!ownsRx s.role .down || s.lanes.downRx == .locked) && (!ownsRx s.role .up || s.lanes.upRx == .locked)

/-- The frame count of the playback queue (section 8.2). -/
def AudioHeadset.frameCount (a : AudioHeadset) : Nat := (a.queue.map (fun b => b.frames.length)).sum

def AudioSource.micCount (a : AudioSource) : Nat := (a.micQueue.map (fun b => b.samples.length)).sum

/-- ⌊i × 1,000 ÷ 48⌋ µs: the offset of frame i of a block or of frame period i of a millisecond (R148, R149). -/
def frameOffset (i : Nat) : Nat := i * 1000 / 48

/-- The start of frame period `k`, counted from local time 0 (R148). -/
def framePeriodStart (k : Nat) : Nat := 1000 * (k / 48) + frameOffset (k % 48)

/-- The start of the first frame period that begins at or after a local time: the 48 starts of its millisecond,
then the next millisecond's. -/
def nextFramePeriod (t : Nat) : Nat :=
  let base := 1000 * (t / 1000)
  match (List.range 48).find? (fun i => decide (t ≤ base + frameOffset i)) with
  | some i => base + frameOffset i
  | none => base + 1000

/-- The presentation time of a block's next frame to be played: frame i is due ⌊i × 1,000 ÷ 48⌋ µs after the first
(R149), and 48 less the frames left have been played. -/
def PlayBlock.headTime (b : PlayBlock) : Nat := b.time + frameOffset (48 - b.frames.length)

/-- The presentation time of a block's last frame. -/
def PlayBlock.lastTime (b : PlayBlock) : Nat := b.time + frameOffset 47

/-- The largest tether time (R45). -/
def tetherMax : Nat := 2 ^ 48 - 1

/-- The distance between two numbers. -/
def distance (a b : Nat) : Nat := if a ≤ b then b - a else a - b

/-- R46: the value from 0 to 2^48 − 1 with the given low 32 bits that lies nearest the reference, the later of two
equally near. The candidates are the one with the reference's high bits, the one before and the one after. -/
def rebuildTether (reference field : Nat) : Nat :=
  let low := field % 2 ^ 32
  let mid := reference / 2 ^ 32 * 2 ^ 32 + low
  let a := if 2 ^ 32 ≤ mid ∧ distance reference (mid - 2 ^ 32) < distance reference mid then mid - 2 ^ 32 else mid
  if mid + 2 ^ 32 ≤ tetherMax ∧ distance reference (mid + 2 ^ 32) ≤ distance reference a then mid + 2 ^ 32 else a

/-- The HEADSET's frame period P in µs (R118). -/
def framePeriod (p120 : Bool) : Nat := if p120 then 8333 else 11111

/-- The slice interval: P divided by 12, rounded down (R118). -/
def sliceInterval (p120 : Bool) : Nat := framePeriod p120 / 12

/-- The scan time of slice k of frame n (R118). -/
def scanTime (anchor : Nat) (p120 : Bool) (n k : Nat) : Nat :=
  anchor + n * framePeriod p120 + k * framePeriod p120 / 12

/-- The earliest frame whose slice 0 is scanned at or after a tether time (R122, R126). -/
def firstFrameFrom (anchor : Nat) (p120 : Bool) (t : Nat) : Nat :=
  (t - anchor + (framePeriod p120 - 1)) / framePeriod p120

/-- Bits per µs of a lane at a grade: 250, 500, 750 or 1,000 Mbit/s (R113). -/
def laneRate (g : Grade) : Nat := 250 * gradeNum g

/-- The µs a packet occupies the lane, rounded up to a whole µs. -/
def packetMicros (g : Option Grade) (length : Nat) : Nat :=
  match g with
  | none => 0
  | some g => (length * 8 + (laneRate g - 1)) / laneRate g

/-- The slice budget in bytes (R117). -/
def sliceBudget (g : Grade) (p120 : Bool) : Nat := gradeNum g * (if p120 then 9216 else 12288)

end Sys2Proof.Machine
end

