-- ==== Sys2Proof/Machine/Flags.lean ====
section
/-! DEFINITION. The 28 status flags (section 10.4): their numbers, the sticky ones held in `HostPort.sticky`, the
live ones read off their conditions, the persisting conditions a STATUS_READ judges (R179), and the attention
output (R181). A live flag is 'set exactly while the condition holds' (section 5.5 of 00_scope.md) and ATTN is judged
in every event, so both are functions of the state and change in the same event as what they follow. -/

namespace Sys2Proof.Machine

inductive Flag where
  | strapFault
  | addressClash
  | roleClash
  | peerJoined
  | peerLeft
  | giveUp
  | mediumStuck
  | droopLow
  | droopCrit
  | supplyShort
  | supplyLost
  | overdraw
  | tripped
  | railLatched
  | peerCritical
  | baseForced
  | laneFault
  | modeChanged
  | sensorStall
  | motionRange
  | motionOverrun
  | audioUnderrun
  | remoteDone
  | listenOnly
  | parked
  | laneRunning
  | motionWaiting
  | audioLow
  deriving DecidableEq, Repr

def Flag.number : Flag → Nat
  | .strapFault => 0
  | .addressClash => 1
  | .roleClash => 2
  | .peerJoined => 3
  | .peerLeft => 4
  | .giveUp => 5
  | .mediumStuck => 6
  | .droopLow => 7
  | .droopCrit => 8
  | .supplyShort => 9
  | .supplyLost => 10
  | .overdraw => 11
  | .tripped => 12
  | .railLatched => 13
  | .peerCritical => 14
  | .baseForced => 15
  | .laneFault => 16
  | .modeChanged => 17
  | .sensorStall => 18
  | .motionRange => 19
  | .motionOverrun => 20
  | .audioUnderrun => 21
  | .remoteDone => 22
  | .listenOnly => 23
  | .parked => 24
  | .laneRunning => 25
  | .motionWaiting => 26
  | .audioLow => 27

def Flag.bit (f : Flag) : BitVec 28 := BitVec.ofNat 28 (2 ^ f.number)

/-- The 23 sticky flags. -/
def stickyFlags : List Flag :=
  [.strapFault, .addressClash, .roleClash, .peerJoined, .peerLeft, .giveUp, .mediumStuck, .droopLow, .droopCrit,
   .supplyShort, .supplyLost, .overdraw, .tripped, .railLatched, .peerCritical, .baseForced, .laneFault, .modeChanged,
   .sensorStall, .motionRange, .motionOverrun, .audioUnderrun, .remoteDone]

/-- A sticky flag is set in the event its owning rule names; a set flag that is set again stays set (R179). -/
def State.raise (f : Flag) (s : State) : State :=
  { s with host := { s.host with sticky := s.host.sticky ||| f.bit } }

def State.sticky (s : State) (f : Flag) : Bool := s.host.sticky.getLsbD f.number

/-- The condition of a live flag (R32, R80, R95, R144, R159); false for a sticky flag. -/
def State.live (s : State) (f : Flag) : Bool :=
  match f with
  | .listenOnly => decide (s.roster.join = .listenOnly)
  | .parked => s.parked
  | .laneRunning => s.running
  | .motionWaiting => !s.motionSource.queue.isEmpty
  | .audioLow => atHeadset s.role && decide (s.audioHeadset.frameCount < 96)
  | _ => false

/-- A flag as it stands. -/
def State.flag (s : State) (f : Flag) : Bool := s.sticky f || s.live f

def flagBit (b : Bool) (f : Flag) : BitVec 28 := if b then f.bit else 0

/-- The 28 flags as they stand, bit n flag n. -/
def State.flagWord (s : State) : BitVec 28 :=
  s.host.sticky ||| flagBit (s.live .listenOnly) .listenOnly ||| flagBit (s.live .parked) .parked
    ||| flagBit (s.live .laneRunning) .laneRunning ||| flagBit (s.live .motionWaiting) .motionWaiting
    ||| flagBit (s.live .audioLow) .audioLow

/-- The persisting condition of a sticky flag (the table of section 10.4); false where the table shows none. -/
def State.persists (s : State) (f : Flag) : Bool :=
  match f with
  | .strapFault => decide (s.roster.join = .listenOnly)
  | .addressClash => decide (s.roster.join = .listenOnly)
  | .roleClash => decide (s.roster.join = .listenOnly)
  | .droopLow => s.power.lastLow
  | .droopCrit => s.power.critActive
  | .supplyShort => match s.power.allowances with | some l => l.short | none => false
  | .supplyLost => s.power.lostActive
  | .overdraw => decide (3 ≤ s.power.overrun)
  | .tripped =>
    (atSource s.role && (s.power.tripInProgress || decide (s.power.supplier = some .railLatched))) ||
      decide (s.power.supplier = some .tripHold)
  | .railLatched => s.power.latched
  | .baseForced => s.agree.baseForcedFrom.isSome
  | .sensorStall => s.motionHeadset.stalled
  | .motionRange => match s.motionHeadset.lastRecord with | some (r, _) => r.range | none => false
  | .motionOverrun => decide (s.motionSource.queue.length = 64)
  | .audioUnderrun => s.audioHeadset.underrun
  | .remoteDone =>
    decide (s.remote.state = .done) || decide (s.remote.state = .timeout) || decide (s.remote.state = .giveUp)
  | _ => false

/-- The sticky flags a STATUS_READ leaves set: those whose condition still holds (R179). -/
def State.keptFlags (s : State) : BitVec 28 :=
  stickyFlags.foldl (fun w f => w ||| flagBit (s.persists f) f) 0

/-- The mask of the 28 flags: MASK_LOW in bits 0 to 15, bits 0 to 11 of MASK_HIGH above (R180). -/
def State.maskWord (s : State) : BitVec 28 :=
  BitVec.ofNat 28 (s.item itemMaskLow + 65536 * (s.item itemMaskHigh % 4096))

/-- The attention output: asserted while at least one flag is both set and unmasked (R181), at a node with power. -/
def State.attn (s : State) : Bool := s.powered && decide (s.flagWord &&& s.maskWord ≠ 0)

end Sys2Proof.Machine
end

