-- ==== Sys2Proof/Machine/Ops.lean ====
section
/-! DEFINITION. The named operations that many commands share: the passing of time and the running out of timers,
the counters, host replies, the transmit queue of the rail channel with its head and stuck timer (R13 to R22), and the
ends of a remote request (R170, R172). -/

namespace Sys2Proof.Machine

open Host (Outcome)

/-- A command's effect while the node has power; a node without power stops until full reset (R92). -/
def whilePowered (s : State) (act : State → State) : Outcome State Fault Refusal :=
  .next (if s.powered then act s else s)

/-! ## Time -/

/-- `n` µs of local time pass: both clocks run (section 5.2), the tether clock holding at 2^48 − 1 (R45). -/
def State.advance (n : Nat) (s : State) : State :=
  { s with clock := { s.clock with now := s.clock.now + n, tether := min (s.clock.tether + n) tetherMax } }

/-- Time passes up to a local time; none if it has been reached. -/
def State.advanceTo (t : Nat) (s : State) : State := s.advance (t - s.clock.now)

/-- Time passes up to a tether time; none if it has been reached. -/
def State.advanceToTether (t : Nat) (s : State) : State := s.advance (t - s.clock.tether)

/-- A timer runs out (assumption 1): nothing happens while it does not run; else the node's local time is the time
the timer reaches its span, or later if that time has passed, and `act` gets the time it was due. -/
def runOut (start : Option Nat) (span : Nat) (s : State) (act : Nat → State → State) : State :=
  match start with
  | none => s
  | some t => act (t + span) (s.advanceTo (t + span))

/-- A rail character lasts 11 bits of 16 µs (R3). -/
def charTime : Nat := 176
/-- Two character times (R8). -/
def gapTime : Nat := 352
def joinTime : Nat := 250000
def agingTime : Nat := 350000
def beaconTime : Nat := 100000
def slewTime : Nat := 1000
def announceTime : Nat := 400000
def stuckTime : Nat := 500000
def tripHoldTime : Nat := 2000000
def returnTime : Nat := 2000000
def raiseTime : Nat := 50000
def measureTime : Nat := 10000
def clearTime : Nat := 1000000
def graceTime : Nat := 1000000
def overdrawPause : Nat := 100000
def tripTime : Nat := 20000
def offTime : Nat := 1000000
def tripWindow : Nat := 60000000
def settleTime : Nat := 80000
def listenTime : Nat := 150000
def confirmTime : Nat := 150000
def trainingTime : Nat := 50000
def baseForcedTime : Nat := 10000000
def dozeTime : Nat := 20000
def fallbackTime : Nat := 50000
def slipTime : Nat := 64000
def deadlineTime : Nat := 300000
def remoteRestartTime : Nat := 200000
def hostRestartTime : Nat := 50000

/-! ## Counters (R2) -/

/-- The counters, by group and index (R23, R116, R129, R146, R162). The picture group's indexes mean different things at
a SOURCE and at a HEADSET. -/
inductive Counter where
  | rail (index : Nat)
  | lane (index : Nat)
  | picture (index : Nat)
  | motion (index : Nat)
  | audio (index : Nat)
  deriving DecidableEq, Repr

def cSent : Counter := .rail 0
def cReceived : Counter := .rail 1
def cCheckError : Counter := .rail 2
def cGarbled : Counter := .rail 3
def cGap : Counter := .rail 4
def cBadLength : Counter := .rail 5
def cUnknownKind : Counter := .rail 6
def cClash : Counter := .rail 7
def cGiveUp : Counter := .rail 8
def cStuckDrop : Counter := .rail 9
def cQueueFull : Counter := .rail 10
def cPacketsDown : Counter := .lane 0
def cPacketsUp : Counter := .lane 1
def cBadPacket : Counter := .lane 2
def cLostOnWake : Counter := .lane 3
def cLaneFault : Counter := .lane 4
def cSliceSent : Counter := .picture 0
def cOversize : Counter := .picture 1
def cNoLane : Counter := .picture 2
def cBacklog : Counter := .picture 3
def cOrder : Counter := .picture 4
def cSubmittedLate : Counter := .picture 5
def cNoSchedule : Counter := .picture 6
def cShown : Counter := .picture 0
def cSliceLate : Counter := .picture 1
def cStale : Counter := .picture 2
def cSuperseded : Counter := .picture 3
def cRepeated : Counter := .picture 4
def cSkipped : Counter := .picture 5
def cFrameUnsent : Counter := .picture 6
def cSamples : Counter := .motion 0
def cRecordUnsent : Counter := .motion 1
def cFallbackSent : Counter := .motion 2
def cOutOfOrder : Counter := .motion 3
def cMotionOverrun : Counter := .motion 4
def cRange : Counter := .motion 5
def cBlocks : Counter := .audio 0
def cBlockLate : Counter := .audio 1
def cOverflow : Counter := .audio 2
def cUnderrun : Counter := .audio 3
def cSlipAdd : Counter := .audio 4
def cSlipDrop : Counter := .audio 5
def cBlockUnsent : Counter := .audio 6
def cMicOverrun : Counter := .audio 7

/-- A counter holds at 65,535 and does not wrap (R2). -/
def saturate (v : Nat) : Nat := min v 65535

/-- `n` is added to the entry at an index, holding at 65,535. -/
def addAt (i n : Nat) (l : List Nat) : List Nat := l.modify i (fun v => saturate (v + n))

def Counters.add (c : Counter) (n : Nat) (k : Counters) : Counters :=
  match c with
  | .rail i => { k with rail := addAt i n k.rail }
  | .lane i => { k with lane := addAt i n k.lane }
  | .picture i => { k with picture := addAt i n k.picture }
  | .motion i => { k with motion := addAt i n k.motion }
  | .audio i => { k with audio := addAt i n k.audio }

/-- `n` events are counted. -/
def State.count (c : Counter) (n : Nat) (s : State) : State := { s with counters := s.counters.add c n }

/-- One event is counted. -/
def State.bump (c : Counter) (s : State) : State := s.count c 1

/-- The counters of a group, in index order; empty for a group above 4 (R178). -/
def Counters.group (k : Counters) (g : Nat) : List Nat :=
  if g = 0 then k.rail else if g = 1 then k.lane else if g = 2 then k.picture else if g = 3 then k.motion
  else if g = 4 then k.audio else []

def Counters.setGroup (k : Counters) (g : Nat) (l : List Nat) : Counters :=
  if g = 0 then { k with rail := l } else if g = 1 then { k with lane := l } else if g = 2 then { k with picture := l }
  else if g = 3 then { k with motion := l } else if g = 4 then { k with audio := l } else k

/-! ## Host replies (R175, R176) -/

/-- The request is taken, and its reply formed in the same event: the status byte, then the fields. -/
def State.withReply (st : Status) (fields : List Byte) (s : State) : State :=
  { s with host := { s.host with reply := st.code :: fields, taken := true } }

/-- A host request's effect at a node with power. A transaction carries exactly one request: what the host sends after it in the same
selection is ignored, also when a reset has fallen in the selection (R175). -/
def onRequest (s : State) (act : State → State) : Outcome State Fault Refusal :=
  whilePowered s (fun s => if s.host.taken then s else act s)

/-- The reply a reset cuts off: the one that stands when the first reset falls in a selection whose request has been taken (R175). -/
def HostPort.cutReply (h : HostPort) : Option (List Byte) :=
  if h.taken then some (h.cut.getD h.reply) else none

/-! ## Ends of a remote request -/

/-- A request ends with DONE, TIMEOUT or GIVE_UP: the result is held and REMOTE_DONE is set (R172). -/
def State.endRemote (r : RemoteState) (s : State) : State :=
  ({ s with remote := { s.remote with state := r, deadlineFrom := none } } : State).raise .remoteDone

/-- The rail channel reports the ASK given up; in QUEUED the request ends with GIVE_UP (R170). -/
def State.askGivenUp (s : State) : State :=
  if s.remote.state = .queued then s.endRemote .giveUp else s

/-- What the owning block of a discarded entry is told: only the remote request controller is, of an ASK (R15, R21, R22). -/
def State.tellDiscarded (e : QEntry) (s : State) : State :=
  if e.kind = .ask then s.askGivenUp else s

/-! ## The transmit queue (section 1.4) -/

/-- The entries of the queue, the one being sent included (R13). -/
def Rail.size (r : Rail) : Nat := r.queue.length + (if r.sending.isSome then 1 else 0)

/-- At the end of its class: before the first entry of a later class (R13, R15). -/
def insertLast (e : QEntry) : List QEntry → List QEntry
  | [] => [e]
  | x :: rest => if e.kind.cls < x.kind.cls then e :: x :: rest else x :: insertLast e rest

/-- At the head of its class: before the first entry of its own or a later class (R20). -/
def insertFirst (e : QEntry) : List QEntry → List QEntry
  | [] => [e]
  | x :: rest => if e.kind.cls ≤ x.kind.cls then e :: x :: rest else x :: insertFirst e rest

/-- The new content in the place of the waiting entry of the kind (R14). -/
def replaceContent (k : BurstKind) (p : List Byte) : List QEntry → List QEntry
  | [] => []
  | x :: rest => if x.kind = k then { x with payload := p } :: rest else x :: replaceContent k p rest

/-- The most recently added BEACON or MOTION entry that is not being sent, which makes room (R15). -/
def newestPeriodic (q : List QEntry) : Option QEntry :=
  q.foldl (fun best e =>
    if e.kind = .beacon ∨ e.kind = .motion then
      match best with
      | none => some e
      | some b => if b.id < e.id then some e else some b
    else best) none

/-- The head's stuck timer follows the head (R22): it does not run while the transmitter is held (R16), while an entry is
being sent or with no head; it goes on for the same head and starts at zero for a new one. -/
def State.syncHead (s : State) : State :=
  let stuck :=
    if s.txHeld || s.rail.sending.isSome then none
    else
      match s.rail.queue with
      | [] => none
      | e :: _ =>
        match s.rail.stuck with
        | some (i, t) => if i = e.id then some (i, t) else some (e.id, s.clock.now)
        | none => some (e.id, s.clock.now)
  { s with rail := { s.rail with stuck := stuck } }

/-- A burst is added as a new entry with attempt count 0 (R15). -/
def State.addEntry (k : BurstKind) (p : List Byte) (s : State) : State :=
  ({ s with rail := { s.rail with
      queue := insertLast { id := s.rail.nextId, kind := k, payload := p, attempts := 0 } s.rail.queue
      nextId := s.rail.nextId + 1 } } : State).syncHead

/-- A block offers a burst to the transmit queue (R14, R15). A listen-only node discards it (R16). -/
def State.offerBurst (k : BurstKind) (p : List Byte) (s : State) : State :=
  if s.roster.join = .listenOnly then s
  else if k.replaceable && s.rail.queue.any (fun e => e.kind == k) then
    { s with rail := { s.rail with queue := replaceContent k p s.rail.queue } }
  else if s.rail.size < 8 then s.addEntry k p
  else
    match newestPeriodic s.rail.queue with
    | some e => ({ s with rail := { s.rail with queue := s.rail.queue.filter (fun x => x.id != e.id) } } : State).addEntry k p
    | none => if k = .ask then (s.bump cQueueFull).askGivenUp else s.bump cQueueFull

/-- The NOTICE bursts: kind and detail (section 11.2). -/
def State.offerNotice (kind : Byte) (detail : Nat) (s : State) : State :=
  s.offerBurst .notice [kind, BitVec.ofNat 8 detail]

/-- The detail byte of a measured quantity, limited to 255 (R85, R88). -/
def noticeDetail (v : Nat) : Nat := min v 255

/-- Own keying stops: no entry is being sent, the receiver hunts, and, unless other senders key, carrier becomes absent
and the quiet time starts (R4, R17). -/
def State.stopSending (s : State) : State :=
  { s with rail := { s.rail with
      sending := none
      rx := .hunting
      quietFrom := if s.rail.carrierIn then s.rail.quietFrom else s.clock.now } }

/-- The required quiet wait of the head entry (R17). -/
def requiredWait (a : Addr) (attempts : Nat) (courtesy : Bool) : Nat :=
  1056 + a.toNat * 176 + attempts * 1408 + (if courtesy then 1408 else 0)

end Sys2Proof.Machine
end

