-- ==== Sys2Proof/Machine/Lanes.lean ====
section
/-! DEFINITION. The lane engine (section 6.1): the states its hops take on the agreement controller's orders (R111), its
transmitters and the order they take packets in (R113), and the feeding of the SOURCE's send queue (R123). -/

namespace Sys2Proof.Machine

def LaneEngine.setTx (l : LaneEngine) (lane : Lane) (t : Transmitter) : LaneEngine :=
  match lane with
  | .down => { l with downTx := t }
  | .up => { l with upTx := t }

def LaneEngine.setRx (l : LaneEngine) (lane : Lane) (r : RxState) : LaneEngine :=
  match lane with
  | .down => { l with downRx := r }
  | .up => { l with upRx := r }

/-- A packet is taken: it is sent whole from now on. -/
def Transmitter.begin (p : Packet) (now : Nat) (t : Transmitter) : Transmitter :=
  { t with sending := some p, startedAt := now }

/-- The packet the transmitter takes next, by the order of R113. -/
def firstInOrder (l : List Packet) : Option Packet :=
  l.foldl (fun best p =>
    match best with
    | none => some p
    | some b => if p.kind.rank < b.kind.rank then some p else some b) none

/-- The transmitter is free: it takes the next waiting packet, if any. -/
def Transmitter.takeNext (now : Nat) (t : Transmitter) : Transmitter :=
  match firstInOrder t.waiting with
  | none => { t with sending := none }
  | some p => { t with waiting := t.waiting.erase p }.begin p now

/-- A block's packet of this kind waits at the transmitter. -/
def Transmitter.waits (t : Transmitter) (k : PacketKind) : Bool := t.waiting.any (fun p => p.kind == k)

/-- A packet is offered to a running transmitter: taken at once if it is free, else it waits, in the place of a waiting
packet of its kind, since each block holds at most one (R113). -/
def Transmitter.offer (p : Packet) (now : Nat) (t : Transmitter) : Transmitter :=
  if t.state ≠ .running then t
  else if t.sending.isNone then t.begin p now
  else { t with waiting := t.waiting.filter (fun q => q.kind != p.kind) ++ [p] }

def State.offerPacket (lane : Lane) (p : Packet) (s : State) : State :=
  { s with lanes := s.lanes.setTx lane ((s.lanes.tx lane).offer p s.clock.now) }

/-- The slices of the send queue that stand at the transmitter, being sent or waiting. -/
def Transmitter.slicesHere (t : Transmitter) : Nat :=
  (if (t.sending.map Packet.kind) = some .slice then 1 else 0) + (if t.waits .slice then 1 else 0)

/-- The lane packet of a slice: frame number, index, presentation time, byte count, bytes (section 11.3). -/
def slicePacket (q : SendSlice) : Packet :=
  makePacket .slice (leBytes 2 q.frame.toNat ++ [BitVec.ofNat 8 q.index] ++ leBytes 4 q.time ++ leBytes 2 q.bytes.length
    ++ q.bytes)

/-- Whenever no slice waits at the down-lane transmitter, the oldest queued slice not yet sent is offered to it (R123). -/
def State.feedSlice (s : State) : State :=
  if s.lanes.downTx.waits .slice then s
  else
    match s.sliceSource.sendQueue[s.lanes.downTx.slicesHere]? with
    | none => s
    | some q => s.offerPacket .down (slicePacket q)

/-- The slice offered to a free transmitter is taken at once, so the next one is offered to wait behind it. -/
def State.feedSlices (s : State) : State := s.feedSlice.feedSlice

/-- The transmitter state an agreement state orders (R94, R111). -/
def orderedTx : AgreeState → TxState
  | .training => .training
  | .running => .running
  | _ => .off

/-- The order for one transmitter: a packet being sent and those waiting are discarded outside RUNNING (R111). -/
def Transmitter.order (st : TxState) (t : Transmitter) : Transmitter :=
  if st = .running then { t with state := .running } else { t with state := st, sending := none, waiting := [] }

/-- The receiver state an order gives: SEEKING on TRAINING, as it stands in RUNNING, else OFF (R111). -/
def orderedRx (st : AgreeState) (r : RxState) : RxState :=
  match st with
  | .training => .seeking
  | .running => r
  | _ => .off

/-- The agreement controller orders the lane engine (R95, R111). A lane level of 0, while parked, holds every transmitter
and receiver at OFF whatever the order. Leaving RUNNING ends doze, and on entry, the one change that orders RUNNING, the RELAY is
AWAKE with its doze timer at zero (R115). -/
def State.orderLanes (s : State) : State :=
  let st := if s.parked then .halted else s.agree.state
  let l := s.lanes
  let tx (lane : Lane) := if ownsTx s.role lane then (l.tx lane).order (orderedTx st) else l.tx lane
  let rx (lane : Lane) := if ownsRx s.role lane then orderedRx st (l.rx lane) else l.rx lane
  { s with lanes :=
      { downTx := tx .down, upTx := tx .up, downRx := rx .down, upRx := rx .up
        grade := match st with | .training => s.agree.chosen | .running => s.agree.chosen | _ => l.grade
        dozing := false
        dozeFrom := if st = .running ∧ s.role = .relay then some s.clock.now else none } }

end Sys2Proof.Machine
end

