-- ==== Sys2Proof/Machine/Loads.lean ====
section
/-! DEFINITION. The load planner (chapter 4): load costs (R72, R73), the pinned lane level (R76), targets by shedding
(R75), the moves to targets with their raise timers (R77), the hand-over of levels to the sensor port (R78, R131) and
the audio controller's power (R159). -/

namespace Sys2Proof.Machine

/-! ## Costs in mA (R72, R73) -/

def standby : Nat := 15

/-- Cost of the lane at a level: the HEADSET's lane or the RELAY's retimer. -/
def laneCost (r : Role) (level : Nat) : Nat :=
  if level = 0 then 0
  else if r = .relay then 35 + 25 * level
  else 50 + 30 * level

def panelCost (level : Nat) : Nat :=
  if level = 0 then 0 else 100 + 150 * level

def audioCost (level : Nat) : Nat :=
  if level = 0 then 0 else if level = 1 then 20 else if level = 2 then 45 else 90

def motionCost (level : Nat) : Nat :=
  if level = 0 then 0 else if level = 1 then 4 else if level = 2 then 6 else 9

def baseCost (r : Role) : Nat := if r = .relay then 40 else 120

/-- A node's total at the given levels: the base cost and the cost of each load. -/
def totalCost (r : Role) (l : Levels) : Nat :=
  if r = .relay then baseCost r + laneCost r l.lane
  else baseCost r + laneCost r l.lane + panelCost l.panel + audioCost l.audio + motionCost l.motion

/-- The sheddable loads' floor levels: panel 1, audio 0, motion 2; a RELAY has no such load. -/
def floorLevels (r : Role) (lane : Nat) : Levels :=
  if r = .headset then ⟨lane, 1, 0, 2⟩ else ⟨lane, 0, 0, 0⟩

/-- The floor of the claim: every load at its floor level (R54). -/
def floorCost (r : Role) : Nat := totalCost r (floorLevels r 1)

/-- The wanted levels: the settings items, the lane at a given level. -/
def State.wantedLevels (s : State) (lane : Nat) : Levels :=
  if s.role = .headset then
    ⟨lane, s.item itemPanelWant, s.item itemAudioWant, s.item itemMotionWant⟩
  else ⟨lane, 0, 0, 0⟩

/-! ## Targets (R75, R76) -/

/-- The load orders of SHED_ORDER (R74). -/
def shedOrder (code : Nat) : List Load :=
  if code = 0 then [.panel, .audio, .motion]
  else if code = 1 then [.panel, .motion, .audio]
  else if code = 2 then [.audio, .panel, .motion]
  else if code = 3 then [.audio, .motion, .panel]
  else if code = 4 then [.motion, .panel, .audio]
  else [.motion, .audio, .panel]

def Levels.get (l : Levels) : Load → Nat
  | .panel => l.panel
  | .audio => l.audio
  | .motion => l.motion

def Levels.set (l : Levels) (k : Load) (v : Nat) : Levels :=
  match k with
  | .panel => { l with panel := v }
  | .audio => { l with audio := v }
  | .motion => { l with motion := v }

/-- The floor level of a sheddable load (R72). -/
def loadFloor : Load → Nat
  | .panel => 1
  | .audio => 0
  | .motion => 2

/-- The first load in shed order above its floor level is lowered by one level; none when no load is (R75, step 2). -/
def shedOne (order : List Load) (l : Levels) : Option Levels :=
  match order.find? (fun k => loadFloor k < l.get k) with
  | none => none
  | some k => some (l.set k (l.get k - 1))

/-- Steps 2 and 3 of R75. A HEADSET's wanted levels stand at most 7 levels above its floor levels, so the fuel of the
caller always suffices. -/
def shed (r : Role) (cap : Nat) (order : List Load) : Nat → Levels → Levels
  | 0, l => l
  | n + 1, l =>
    if totalCost r l ≤ cap then l
    else
      match shedOne order l with
      | none => l
      | some l' => shed r cap order n l'

/-- The pinned lane level (R76). -/
def State.pinnedLane (s : State) : Nat :=
  if s.parked then 0
  else
    match s.agree.state, s.agree.chosen with
    | .training, some g => gradeNum g
    | .running, some g => gradeNum g
    | _, _ => 1

/-- The targets for the present inputs (R75). -/
def State.targets (s : State) : Levels :=
  if s.parked then ⟨0, 0, 0, 0⟩
  else if s.role = .headset then
    shed s.role s.loads.cap (shedOrder (s.item itemShedOrder)) 8 (s.wantedLevels s.pinnedLane)
  else ⟨s.pinnedLane, 0, 0, 0⟩

/-! ## Moving to targets (R77) -/

/-- A current level above its target falls to it at once. -/
def dropTo (current target : Nat) : Nat := min current target

/-- A load's raise timer after a computation: cancelled when the target is at or below the level, running on or started
when it is above. -/
def raiseTimer (current target now : Nat) (timer : Option Nat) : Option Nat :=
  if target ≤ current then none
  else match timer with
    | some t => some t
    | none => some now

def Loads.timer (l : Loads) : Load → Option Nat
  | .panel => l.panelFrom
  | .audio => l.audioFrom
  | .motion => l.motionFrom

def Loads.setTimer (l : Loads) (k : Load) (t : Option Nat) : Loads :=
  match k with
  | .panel => { l with panelFrom := t }
  | .audio => { l with audioFrom := t }
  | .motion => { l with motionFrom := t }

/-- The loads moved toward the given targets; the lane follows its pin at once (R76, R77). -/
def Loads.moveTo (t : Levels) (now : Nat) (l : Loads) : Loads :=
  { cap := l.cap
    target := t
    current :=
      { lane := t.lane, panel := dropTo l.current.panel t.panel, audio := dropTo l.current.audio t.audio,
        motion := dropTo l.current.motion t.motion }
    panelFrom := raiseTimer (dropTo l.current.panel t.panel) t.panel now l.panelFrom
    audioFrom := raiseTimer (dropTo l.current.audio t.audio) t.audio now l.audioFrom
    motionFrom := raiseTimer (dropTo l.current.motion t.motion) t.motion now l.motionFrom }

/-! ## The sensor port follows the motion level (R131) -/

/-- The port writes the setting of the present motion level and is SETTING; the stall timer stops (R131, R134). -/
def State.startSensorWrite (s : State) : State :=
  { s with motionHeadset := { s.motionHeadset with
      port := .setting, writing := s.loads.current.motion, again := false, stallFrom := none, stalled := false } }

/-- The motion sensing level has changed: a write starts, or is noted for the end of the write or read under way. -/
def State.motionLevelChanged (s : State) : State :=
  if s.motionHeadset.port = .setting ∨ s.motionHeadset.reading.isSome then
    { s with motionHeadset := { s.motionHeadset with again := true } }
  else s.startSensorWrite

/-- A changed current level is handed to its consumer (R78). The panel port (`State.panelPort`), the audio controller and the lane
engine read their level where they use it; the sensor port acts on the change. -/
def State.handLevels (before : Levels) (s : State) : State :=
  if s.role = .headset ∧ s.loads.current.motion ≠ before.motion then s.motionLevelChanged else s

/-- The load planner computes targets and moves the loads, at a RELAY or HEADSET (R75, R77). -/
def State.plan (s : State) : State :=
  if s.tetherPowered then
    ({ s with loads := s.loads.moveTo s.targets s.clock.now } : State).handLevels s.loads.current
  else s

/-! ## Parking of the audio controller (R159) -/

/-- The last capture period taken, at the start of capture: one that is long past is forgotten, so that the next sample falls at the
next frame period's start and none has two samples (R148, R160). -/
def captureFrom (taken : Option Nat) (now : Nat) : Option Nat :=
  taken.filter (fun t => decide (now ≤ nextFramePeriod (t + 1)))

/-- On parking the playback queue is emptied uncounted, the output waits, the block being built and the last sequence
are forgotten; on unparking capture starts a new block at the next frame period (R159, R160). -/
def State.syncAudioPower (s : State) : State :=
  if s.role = .headset then
    if s.parked then
      if s.audioHeadset.down then s
      else
        { s with audioHeadset := { s.audioHeadset with
            queue := [], lastSeq := none, output := .waiting, slipFrom := none, twice := false, frameOut := (0, 0),
            micBuild := [], down := true } }
    else if s.audioHeadset.down then
      { s with audioHeadset := { s.audioHeadset with
          down := false, capTaken := captureFrom s.audioHeadset.capTaken s.clock.now } }
    else s
  else s

end Sys2Proof.Machine
end

