-- ==== Sys2Proof/Machine/Agreement.lean ====
section
/-! DEFINITION. The lane agreement controller's changes of state (chapter 5): what every change hands on (R95), the
opening of a round (R96), halting (R107), the steps SETTLE (R98), TRAINING and RUNNING (R104), and the answer to a change of
the node's own mode set or path. -/

namespace Sys2Proof.Machine

/-- The lane summary: the state, with the chosen grade while TRAINING or RUNNING (R95). -/
def Agree.summary (a : Agree) : Byte :=
  laneSummary a.state.code
    (match a.state with
     | .training => optGradeCode a.chosen
     | .running => optGradeCode a.chosen
     | _ => 0)

def State.mapSelf (f : Entry → Entry) (s : State) : State :=
  { s with roster := { s.roster with self := f s.roster.self } }

def State.writeSummary (s : State) : State :=
  s.mapSelf (fun e => { e with summary := some s.agree.summary })

/-- What the data blocks do on leaving RUNNING (R95): the SOURCE's send queue is emptied and its submission closed (R123),
and the HEADSET's fallback timer starts from zero (R141). -/
def State.dataBlocksLeave (s : State) : State :=
  match s.role with
  | .source => { s with sliceSource := { s.sliceSource with sendQueue := [], submission := none } }
  | .headset => { s with motionHeadset := { s.motionHeadset with fallbackFrom := some s.clock.now } }
  | _ => s

/-- What they do on entering RUNNING: the fallback timer stops (R141). -/
def State.dataBlocksEnter (s : State) : State :=
  match s.role with
  | .headset => { s with motionHeadset := { s.motionHeadset with fallbackFrom := none } }
  | _ => s

def State.tellDataBlocks (wasRunning : Bool) (s : State) : State :=
  if wasRunning && !s.running then s.dataBlocksLeave
  else if !wasRunning && s.running then s.dataBlocksEnter
  else s

/-- Every state but HALTED and RUNNING has a step timer (R94). -/
def AgreeState.timed : AgreeState → Bool
  | .halted => false
  | .running => false
  | _ => true

/-- A change of agreement state or chosen grade, with all it hands on in its event (R95): the lane engine is ordered, the
self entry's summary written, the load planner told, and the data blocks told whether the state is RUNNING. -/
def State.changeAgree (st : AgreeState) (chosen : Option Grade) (reason : Reason) (s : State) : State :=
  (({ s with agree := { s.agree with
        state := st, chosen := chosen, reason := reason,
        stepFrom := if st.timed then some s.clock.now else none } } : State).orderLanes.writeSummary.plan).tellDataBlocks
    s.running

/-- HALTED with a reason: transmitters and receivers off, the current round not changed (R96, R107). -/
def State.halt (reason : Reason) (s : State) : State := s.changeAgree .halted none reason

/-- SETTLE, entered or entered afresh, with a new settle timer (R98). -/
def State.enterSettle (reason : Reason) (s : State) : State := s.changeAgree .settle none reason

/-- The round field of an entry's mode set is written. -/
def Entry.withRound (r : Half) (e : Entry) : Entry := { e with modeSet := e.modeSet.map (fun m => { m with round := r }) }

/-- The current round is written into the mode set of the self entry (R99). -/
def State.writeRound (s : State) : State := s.mapSelf (Entry.withRound s.agree.round)

/-- The current round changes; the self entry's mode set holds it too from a reset until the next entry into LISTEN (R108). -/
def State.setRound (r : Half) (s : State) : State :=
  { s with
    agree := { s.agree with round := r }
    roster := { s.roster with self := if s.agree.listened then s.roster.self else s.roster.self.withRound r } }

/-- A round is opened: the chain and the own mode set are checked first (R96). -/
def State.openRound (reason : Reason) (s : State) : State :=
  if !s.roster.chainComplete then s.halt .chainIncomplete
  else if s.power.modeSet = [] then s.halt .ownSetEmpty
  else (s.setRound (s.agree.round + 1)).enterSettle reason

/-- SET_CHANGED and PATH_CHANGED are taken in every state except HALTED with reason NOT_JOINED or LISTEN_ONLY (R96). -/
def State.takesTriggers (s : State) : Bool :=
  s.onPath && !(decide (s.agree.state = .halted) &&
    (decide (s.agree.reason = .notJoined) || decide (s.agree.reason = .listenOnly)))

/-- A path change (R93) opens a round. -/
def State.pathChanged (s : State) : State := if s.takesTriggers then s.openRound .pathChanged else s

/-- A change of the node's own mode set or its ceiling: an entry into HALTED when the set is empty (R107), else the opening of a round.
That a change of the ceiling alone, of a set already empty, counts as a change to the empty set is DESIGN CHOICE (assumption 40). -/
def State.ownSetChanged (s : State) : State :=
  if s.takesTriggers then
    if s.power.modeSet = [] then s.halt .ownSetEmpty else s.openRound .setChanged
  else s

/-- The power manager writes a new mode set and its ceiling into the self entry (R40, R66); the round there is the
agreement controller's (R99, R108). -/
def State.writeModeSet (set : List Grade) (ceiling : Grade) (s : State) : State :=
  ({ s with power := { s.power with modeSet := set, modeCeiling := ceiling } } : State).mapSelf (fun e =>
    { e with modeSet := some ⟨(match e.modeSet with | some m => m.round | none => s.agree.round),
        set.map gradeCode, gradeCode ceiling⟩ })

/-- The mode set is handed to the controller (R66, R70). While a failure is handled (`quiet`) the change opens no round of
its own (R102, R105). -/
def State.handModeSet (quiet : Bool) (set : List Grade) (ceiling : Grade) (s : State) : State :=
  if quiet then s.writeModeSet set ceiling else (s.writeModeSet set ceiling).ownSetChanged

/-- TRAINING at the chosen grade (R104). -/
def State.enterTraining (s : State) : State := s.changeAgree .training s.agree.chosen s.agree.reason

/-- The HEADSET sets its scan anchor on the first entry into RUNNING: tether time plus 2P, written into the self entry
with the period; the scan position starts at index 0 of frame 0 (R118). -/
def State.setAnchor (s : State) : State :=
  if s.role = .headset ∧ s.sliceHeadset.anchor.isNone then
    let a := s.clock.tether + 2 * framePeriod s.straps.refresh120
    ({ s with sliceHeadset := { s.sliceHeadset with anchor := some a, frame := 0, index := 0, notFresh := 0 } } : State).mapSelf
      (fun e => { e with anchor := some { time := a, period120 := s.straps.refresh120 } })
  else s

/-- Entry into RUNNING (R104). -/
def State.enterRunning (s : State) : State :=
  let s1 := if s.agree.lastRun = s.agree.chosen then s else s.raise .modeChanged
  (({ s1 with agree := { s1.agree with failures := 0, laneFaults := 0, lastRun := s1.agree.chosen } } : State).changeAgree
    .running s1.agree.chosen s1.agree.reason).setAnchor

end Sys2Proof.Machine
end

