-- ==== Sys2Proof/Machine/Power.lean ====
section
/-! DEFINITION. The power manager (chapters 3 and 4): announcing the offer and the claim (R56, R57), the allowance
computation (R55, R58 to R64), the effective cap (R65), return delays and the mode set (R67 to R70), the supply grace
(R86), the supplier state (R50, R51) and what a change of any of them hands on (R66). -/

namespace Sys2Proof.Machine

/-! ## The node's own offer and claim -/

/-- The offer as it stands (R50, R51); none at a RELAY or HEADSET. -/
def State.ownOffer (s : State) : Option Offer :=
  match s.power.supplier with
  | none => none
  | some st => some ⟨s.offeredCurrent, st.code⟩

/-- The claim as it stands (R54); none at a SOURCE. -/
def State.ownClaim (s : State) : Option Claim :=
  match s.role with
  | .source => none
  | .battery => some ⟨standby, standby, 2⟩
  | .relay => some ⟨floorCost .relay, totalCost .relay (s.wantedLevels (gradeNum s.effectiveCeiling)), 0⟩
  | .headset => some ⟨floorCost .headset, totalCost .headset (s.wantedLevels (gradeNum s.effectiveCeiling)), 1⟩

def offerPayload (o : Offer) : List Byte := leBytes 2 o.current ++ [o.state]

def claimPayload (c : Claim) : List Byte := leBytes 2 c.floor ++ leBytes 2 c.want ++ [BitVec.ofNat 8 c.cls]

/-- The OFFER burst is offered and its period restarts, while the join state is ACTIVE (R57). -/
def State.announceOffer (s : State) : State :=
  match s.roster.join, s.roster.self.offer with
  | .active, some o =>
    ({ s with power := { s.power with offerFrom := some s.clock.now } } : State).offerBurst .offer (offerPayload o)
  | _, _ => s

/-- The CLAIM burst, in the same way (R57). -/
def State.announceClaim (s : State) : State :=
  match s.roster.join, s.roster.self.claim with
  | .active, some c =>
    ({ s with power := { s.power with claimFrom := some s.clock.now } } : State).offerBurst .claim (claimPayload c)
  | _, _ => s

/-! ## The allowance computation (section 3.4) -/

/-- A claimant as the computation reads it (R55). -/
structure Claimant where
  addr  : Addr
  cls   : Nat
  floor : Nat
  want  : Nat
  deriving DecidableEq, Repr

/-- R55: a want below the floor is taken as the floor, a class above 2 as class 2. The allowance list shows the class read here (DESIGN
CHOICE, assumption 45). -/
def claimantOf (e : Entry) : Option Claimant :=
  match e.claim with
  | none => none
  | some c => some ⟨e.addr, min c.cls 2, c.floor, max c.want c.floor⟩

def claimantsOf (r : Roster) : List Claimant := r.entries.filterMap claimantOf

def totalOffer (r : Roster) : Nat := (r.entries.map (fun e => match e.offer with | some o => o.current | none => 0)).sum

/-- A sixteenth of the total offer, rounded up (R59). -/
def reserveOf (total : Nat) : Nat := (total + 15) / 16

/-- The floors of the unparked claimants and 15 mA for each parked one (R61). -/
def committedSum (parked : List Addr) (cs : List Claimant) : Nat :=
  (cs.map (fun c => if c.addr ∈ parked then standby else c.floor)).sum

/-- Class 2 first, then class 1, then class 0; within a class the highest address first (R61). The argument is in address
order. -/
def parkingOrder (cs : List Claimant) : List Claimant :=
  (cs.filter (fun c => c.cls == 2)).reverse ++ (cs.filter (fun c => c.cls == 1)).reverse
    ++ (cs.filter (fun c => c.cls == 0)).reverse

/-- While the committed sum exceeds the budget, the next claimant in parking order is parked (R61). -/
def parkUntilFits (cs : List Claimant) (budget : Nat) : List Claimant → List Addr → List Addr
  | [], parked => parked
  | c :: rest, parked =>
    if committedSum parked cs ≤ budget then parked else parkUntilFits cs budget rest (c.addr :: parked)

/-- The demand of a class: the sum of want − floor over its unparked claimants (R62). -/
def classDemand (k : Nat) (parked : List Addr) (cs : List Claimant) : Nat :=
  ((cs.filter (fun c => c.cls == k && !(parked.contains c.addr))).map (fun c => c.want - c.floor)).sum

/-- The surplus a class leaves (R62). -/
def surplusAfter (surplus demand : Nat) : Nat := if demand ≤ surplus then surplus - demand else 0

/-- An unparked claimant's allowance from its class's surplus and demand (R62). -/
def shareOf (surplus demand : Nat) (c : Claimant) : Nat :=
  if demand = 0 then c.floor
  else if demand ≤ surplus then c.want
  else c.floor + surplus * (c.want - c.floor) / demand

/-- The grants when the case is not supply short: floors and parking (R61), then the surplus class by class (R62).
The class listed is the one read, 2 for a received class above 2 (DESIGN CHOICE, assumption 45). -/
def grantsFor (cs : List Claimant) (budget : Nat) : List Grant :=
  let parked := parkUntilFits cs budget (parkingOrder cs) []
  let s0 := budget - committedSum parked cs
  let d0 := classDemand 0 parked cs
  let s1 := surplusAfter s0 d0
  let d1 := classDemand 1 parked cs
  let s2 := surplusAfter s1 d1
  let d2 := classDemand 2 parked cs
  cs.map (fun c =>
    if parked.contains c.addr then ⟨c.addr, c.cls, standby, true⟩
    else ⟨c.addr, c.cls,
      (if c.cls = 0 then shareOf s0 d0 c else if c.cls = 1 then shareOf s1 d1 c else shareOf s2 d2 c), false⟩)

/-- R60: when the budget is below n × 15 mA, every claimant is parked at 15 mA. The class listed is the one read (DESIGN CHOICE, assumption
45). -/
def shortGrants (cs : List Claimant) : List Grant := cs.map (fun c => ⟨c.addr, c.cls, standby, true⟩)

/-- The allowance list over a roster (R59 to R62). -/
def computeAllowances (r : Roster) : AllowanceList :=
  let total := totalOffer r
  let budget := total - reserveOf total
  let cs := claimantsOf r
  if budget < cs.length * standby then
    { total := total, reserve := reserveOf total, budget := budget, short := true, grants := shortGrants cs }
  else { total := total, reserve := reserveOf total, budget := budget, short := false, grants := grantsFor cs budget }

/-- The computation replaces the list (R63) and sets SUPPLY_SHORT in the short case (R64); with no supplier entry it is not
run (R58). -/
def State.runAllowances (s : State) : State :=
  if s.roster.hasSupplier then
    let l := computeAllowances s.roster
    let s1 : State := { s with power := { s.power with allowances := some l } }
    if l.short then s1.raise .supplyShort else s1
  else s

/-! ## Effective cap and mode set (sections 3.5 and 3.6) -/

/-- The effective cap from allowance, floor and droop level (R65). -/
def cappedAllowance (a f d : Nat) : Nat := a - d * (a - f) / 4

/-- The effective cap of a RELAY or HEADSET (R65). -/
def State.effectiveCap (s : State) : Nat :=
  if s.parked then standby
  else if s.floorsHold then floorCost s.role
  else
    match s.ownGrant with
    | none => floorCost s.role
    | some g => cappedAllowance g.allowance (floorCost s.role) s.power.droop

/-- A grade is sustainable when the base cost, the other loads at their floors and the lane at the grade fit the cap (R67). -/
def sustainable (r : Role) (cap : Nat) (g : Grade) : Bool := decide (totalCost r (floorLevels r (gradeNum g)) ≤ cap)

/-- A candidate is sustainable and not above the effective ceiling (R67). -/
def candidate (r : Role) (cap : Nat) (ceiling g : Grade) : Bool :=
  sustainable r cap g && decide (gradeNum g ≤ gradeNum ceiling)

/-- R68: a grade that stops being a candidate loses its delay, one that becomes a candidate starts its timer. -/
def stepDelay (isCandidate : Bool) (now : Nat) (d : Delay) : Delay :=
  if isCandidate then
    match d with
    | .idle => .running now
    | d => d
  else .idle

def Power.delay (p : Power) : Grade → Delay
  | .g1 => .idle
  | .g2 => p.delayG2
  | .g3 => p.delayG3
  | .g4 => p.delayG4

def Power.setDelay (p : Power) (g : Grade) (d : Delay) : Power :=
  match g with
  | .g1 => p
  | .g2 => { p with delayG2 := d }
  | .g3 => { p with delayG3 := d }
  | .g4 => { p with delayG4 := d }

def Power.stepDelays (r : Role) (cap : Nat) (ceiling : Grade) (now : Nat) (p : Power) : Power :=
  { p with delayG2 := stepDelay (candidate r cap ceiling .g2) now p.delayG2
           delayG3 := stepDelay (candidate r cap ceiling .g3) now p.delayG3
           delayG4 := stepDelay (candidate r cap ceiling .g4) now p.delayG4 }

/-- The mode set of a RELAY or HEADSET (R69): empty while parked, G1 alone while BASE_FORCED holds, else G1 and every higher
grade that has completed its return delay and is still a candidate. -/
def State.formedSet (s : State) : List Grade :=
  if s.parked then []
  else if s.agree.baseForcedFrom.isSome then [.g1]
  else .g1 :: [Grade.g2, .g3, .g4].filter (fun g => s.power.delay g == .done)

/-- The mode set of a SOURCE (R70). -/
def State.sourceSet (s : State) : List Grade :=
  if s.agree.baseForcedFrom.isSome then [.g1] else gradesUpTo s.effectiveCeiling

/-- A mode set whose list or ceiling differs from the one last formed is handed on (R69). -/
def State.handIfChanged (quiet : Bool) (set : List Grade) (ceiling : Grade) (s : State) : State :=
  if s.power.modeSet = set ∧ s.power.modeCeiling = ceiling then s else s.handModeSet quiet set ceiling

/-- A changed cap is handed to the load planner (R66, step 2). -/
def State.handCap (cap : Nat) (s : State) : State :=
  if s.loads.cap = cap then s else ({ s with loads := { s.loads with cap := cap } } : State).plan

/-- The mode set formed from the present inputs, its return delays brought up to date, and handed to the agreement
controller if it changed (R66, step 1; R68 to R70). -/
def State.formModeSet (quiet : Bool) (s : State) : State :=
  match s.role with
  | .source => s.handIfChanged quiet s.sourceSet s.effectiveCeiling
  | .battery => s
  | _ =>
    let s1 : State :=
      { s with power := s.power.stepDelays s.role s.effectiveCap s.effectiveCeiling s.clock.now }
    s1.handIfChanged quiet s1.formedSet s1.effectiveCeiling

/-- The cap formed and handed to the planner if it changed (R66, step 2), with the audio controller's power following the
parked condition (R80, R159). -/
def State.formCap (s : State) : State :=
  if s.tetherPowered then (s.handCap s.effectiveCap).syncAudioPower else s

/-- The power manager forms the cap and the mode set again and hands them on, the mode set first: what the agreement
controller does to its state and the pinned level is completed before the planner gets the cap (R66). -/
def State.reform (s : State) : State := (s.formModeSet false).formCap

/-! ## Supply grace and lost supply (R86) -/

/-- At a RELAY or HEADSET the grace starts when the roster comes to hold no supplier entry; a supplier entry cancels it and
clears the SUPPLY_LOST fault. -/
def State.checkSupply (s : State) : State :=
  if s.tetherPowered then
    if s.roster.hasSupplier then { s with power := { s.power with graceFrom := none, lostActive := false } }
    else if s.power.graceFrom.isSome || s.power.lostActive then s
    else { s with power := { s.power with graceFrom := some s.clock.now } }
  else s

/-- A change of offers or claims in the node's own view: the grace, the computation, and the cap and mode set, formed once
(R58, R63, R86). -/
def State.powerTold (s : State) : State := s.checkSupply.runAllowances.reform

/-! ## Settling (R56) -/

/-- The offer is settled: a change is written into the self entry, announced, and runs the computation. -/
def State.settleOffer (s : State) : State :=
  if s.roster.self.offer = s.ownOffer then s
  else ((s.mapSelf (fun e => { e with offer := s.ownOffer })).announceOffer).powerTold

/-- The claim is settled in the same way, as far as the allowance list. -/
def State.settleClaimList (s : State) : State :=
  if s.roster.self.claim = s.ownClaim then s
  else ((s.mapSelf (fun e => { e with claim := s.ownClaim })).announceClaim).checkSupply.runAllowances

/-- A wanted level or the effective ceiling has changed: the claim is settled, and cap and mode set are formed (R54, R66). -/
def State.settleClaim (s : State) : State := s.settleClaimList.reform

/-! ## Supplier state of a BATTERY (R51) -/

/-- The state the two inputs give. -/
def supplierFromInputs (ready present : Bool) : SupplierState :=
  if !ready then .notReady else if present then .injecting else .noRail

def State.setSupplier (st : SupplierState) (s : State) : State :=
  { s with power := { s.power with supplier := some st } }

/-- TRIP_HOLD ends into the state the two inputs give. -/
def State.endTripHold (s : State) : State :=
  (({ s with power := { s.power with holdFrom := none } } : State).setSupplier
    (supplierFromInputs s.power.supplyReady s.power.railPresent)).settleOffer

/-! ## Droop (R81, R83) -/

/-- The droop level rises by one unless it is 4, and the good run returns to 0. -/
def Power.raiseDroop (p : Power) : Power := { p with droop := min (p.droop + 1) 4, goodRun := 0 }

/-- A good measurement: the good run rises, and the eighth lowers the droop level by one. -/
def Power.goodMeasure (p : Power) : Power :=
  if p.goodRun + 1 < 8 then { p with goodRun := p.goodRun + 1 } else { p with droop := p.droop - 1, goodRun := 0 }

/-! ## The rail switch of a SOURCE (R89 to R91) -/

/-- The switch closes: RAIL_ON, no trip in progress, measurement resumes 10 ms later with the count at 0 (R88, R89). -/
def State.closeSwitch (s : State) : State :=
  (({ s with power := { s.power with trip := .none, overrun := 0, measureFrom := some s.clock.now } } : State).setSupplier
    .railOn).settleOffer

/-- The switch opens into RAIL_OFF for the off-time, or into RAIL_LATCHED (R89, R90). -/
def State.openSwitch (latch : Bool) (s : State) : State :=
  (({ s with power := { s.power with trip := if latch then .none else .offTime s.clock.now } } : State).setSupplier
    (if latch then .railLatched else .railOff)).settleOffer

/-- A trip begins: NOTICE TRIP, TRIPPED, the 20 ms timer; no measurement is taken and the over-run count is 0 (R88, R89). -/
def State.beginTrip (detail : Nat) (latch : Bool) (s : State) : State :=
  (({ s with power := { s.power with trip := .pending s.clock.now latch, overrun := 0, measureFrom := none } } : State).offerNotice
    noticeTrip detail).raise .tripped

end Sys2Proof.Machine
end

