-- ==== Sys2Proof/Machine/Rounds.lean ====
section
/-! DEFINITION. The steps of a round (sections 5.2 and 5.3): LISTEN and the choice (R99, R100), CONFIRMING (R101), confirm
failures and BASE_FORCED (R102, R103), training failures and the lowered ceiling (R105), adoption (R97), and the completion
of TRAINING (R104). -/

namespace Sys2Proof.Machine

/-! ## Failures -/

/-- The mode set is formed while a failure is handled, opening no round of its own; the failure's round opens; then the cap
is handed on (R66, R102, R105). -/
def State.failRound (reason : Reason) (s : State) : State := ((s.formModeSet true).openRound reason).formCap

/-- BASE_FORCED is set, or its timer restarted (R103). -/
def State.setBaseForced (s : State) : State :=
  ({ s with agree := { s.agree with baseForcedFrom := some s.clock.now, failures := 0 } } : State).raise .baseForced

/-- A confirm failure raises the failure count, at 4 sets BASE_FORCED, and opens the next round (R101, R102). -/
def State.confirmFailure (s : State) : State :=
  if 4 ≤ s.agree.failures + 1 then s.setBaseForced.failRound .confirmFailed
  else ({ s with agree := { s.agree with failures := s.agree.failures + 1 } } : State).openRound .confirmFailed

/-- The lowered ceiling: one grade below the grade whose training failed, nothing below G1 (R105). -/
def State.lowerCeiling (s : State) : State :=
  match s.agree.chosen with
  | none => s
  | some g =>
    match gradeBelow g with
    | none => s
    | some b => ({ s with agree := { s.agree with lowered := some b } } : State).settleClaimList

/-- A training failure (R105): counted, flagged, the lane-fault count raised, at every third the ceiling lowered, and the
next round opened. -/
def State.trainingFailure (s : State) : State :=
  let s1 := (s.bump cLaneFault).raise .laneFault
  let n := saturate (s1.agree.laneFaults + 1)
  let s2 : State := { s1 with agree := { s1.agree with laneFaults := n } }
  (if n % 3 = 0 then s2.lowerCeiling else s2).failRound .trainFailed

/-! ## CONFIRMING (R101) -/

/-- The grade code of an entry's CONFIRM of the current round. -/
def Entry.confirmOf (round : Half) (e : Entry) : Option Byte :=
  match e.confirm with
  | none => none
  | some c => if c.round = round then some c.grade else none

/-- The stored CONFIRMs of the current round are judged: a mismatch fails at once, all matching enters TRAINING. The self
entry holds the node's own CONFIRM and so matches. -/
def State.judgeConfirms (s : State) : State :=
  let codes := s.roster.path.map (Entry.confirmOf s.agree.round)
  let own := optGradeCode s.agree.chosen
  if codes.any (fun c => c.isSome && c != some own) then s.confirmFailure
  else if codes.all (fun c => c == some own) then s.enterTraining
  else s

def confirmPayload (round : Half) (g : Option Grade) : List Byte := leBytes 2 round.toNat ++ [optGradeCode g]

/-- Entry into CONFIRMING with a chosen grade: the self entry's confirm written, the CONFIRM offered, the 150 ms timer
started, and the CONFIRMs already stored judged (R101). -/
def State.enterConfirming (g : Grade) (s : State) : State :=
  ((((s.changeAgree .confirming (some g) s.agree.reason).mapSelf (fun e =>
      { e with confirm := some ⟨s.agree.round, gradeCode g⟩ })).offerBurst .confirm
    (confirmPayload s.agree.round (some g)))).judgeConfirms

/-! ## LISTEN (R99, R100) -/

/-- The grade codes of an entry's MODESET of the current round; none while it is not held. -/
def Entry.heldSet (round : Half) (e : Entry) : Option (List Byte) :=
  match e.modeSet with
  | none => none
  | some m => if m.round = round then some m.grades else none

/-- The mode sets of every picture-path entry are held. -/
def State.allHeld (s : State) : Bool := s.roster.path.all (fun e => (Entry.heldSet s.agree.round e).isSome)

/-- One set for each picture-path entry, a silent partner taken as G1 alone (R100). -/
def State.gatheredSets (s : State) : List (List Byte) :=
  s.roster.path.map (fun e => match Entry.heldSet s.agree.round e with | some l => l | none => [1])

/-- The highest grade every set contains (R100). A set is read as the grades it names: a grade named twice counts once and
a code outside G1 to G4 is ignored (R99). -/
def highestCommon (sets : List (List Byte)) : Option Grade :=
  [Grade.g4, .g3, .g2, .g1].find? (fun g => sets.all (fun l => l.contains (gradeCode g)))

/-- The choice (R100). -/
def State.choose (s : State) : State :=
  if s.power.modeSet = [] then s.halt .ownSetEmpty
  else
    match highestCommon s.gatheredSets with
    | none => s.halt .noCommonGrade
    | some g => s.enterConfirming g

def modeSetPayload (round : Half) (ceiling : Grade) (set : List Grade) : List Byte :=
  leBytes 2 round.toNat ++ gradeCode ceiling :: set.map gradeCode

/-- LISTEN has been entered since the last reset (R108). -/
def State.noteListened (s : State) : State := { s with agree := { s.agree with listened := true } }

/-- What an entry into LISTEN does at once: the 150 ms timer started, the round written, the MODESET offered (R99). -/
def State.startListen (s : State) : State :=
  (s.noteListened.changeAgree .listen none s.agree.reason).writeRound.offerBurst .modeset
    (modeSetPayload s.agree.round s.effectiveCeiling s.power.modeSet)

/-- Entry into LISTEN; the step ends at once if every set is held already (R99). -/
def State.enterListen (s : State) : State :=
  if s.startListen.allHeld then s.startListen.choose else s.startListen

/-! ## Bursts of a round heard (R97) -/

/-- HALTED with reason NOT_JOINED, LISTEN_ONLY or CHAIN_INCOMPLETE: the node follows the round and stays HALTED. -/
def Agree.staysHalted (a : Agree) : Bool :=
  decide (a.state = .halted) &&
    (decide (a.reason = .notJoined) || decide (a.reason = .listenOnly) || decide (a.reason = .chainIncomplete))

/-- A later round is adopted (R97). -/
def State.adopt (round : Half) (s : State) : State :=
  let s1 := s.setRound round
  if s.agree.staysHalted then s1
  else if !s1.roster.chainComplete then s1.halt .chainIncomplete
  else s1.enterSettle .adopted

/-- The controller is told of a stored MODESET or CONFIRM with its round (R97). -/
def State.roundHeard (isConfirm : Bool) (round : Half) (s : State) : State :=
  if !s.onPath then s
  else if later round s.agree.round then s.adopt round
  else if round ≠ s.agree.round then s
  else
    match s.agree.state, isConfirm with
    | .listen, false => if s.allHeld then s.choose else s
    | .confirming, true => s.judgeConfirms
    | _, _ => s

/-! ## Receivers (R104, R106, R111) -/

/-- A receiver state change is reported: in TRAINING a node that has become locked enters RUNNING, in RUNNING a loss of lock
opens a round (R96, R104). -/
def State.receiverReported (s : State) : State :=
  match s.agree.state with
  | .training => if s.locked then s.enterRunning else s
  | .running => if s.locked then s else s.openRound .lockLost
  | _ => s

end Sys2Proof.Machine
end

