-- ==== Sys2Proof/Machine/Picture.lean ====
section
/-! DEFINITION. The slice controller (chapter 6): intake, frame assignment and send queue at the SOURCE (R119 to R123), the
slice buffer, scan-out and clock step at the HEADSET (R124 to R126), and frame-shown records at both (R127, R128). -/

namespace Sys2Proof.Machine

/-! ## SOURCE: the copy of the schedule (R119) -/

/-- The anchor of the HEADSET entry with the lowest station address that holds one. -/
def scheduleOf (r : Roster) : Option Anchor :=
  (r.entries.filterMap (fun e => if e.role = some .headset then e.anchor else none)).head?

/-- The copy follows the roster; each change closes any open submission (R119). -/
def State.syncSchedule (s : State) : State :=
  if s.role = .source then
    let c := scheduleOf s.roster
    if s.sliceSource.schedule = c then s
    else { s with sliceSource := { s.sliceSource with schedule := c, submission := none } }
  else s

/-! ## SOURCE: slice intake (R120 to R123) -/

/-- The codes the slice input answers with (R120). -/
def answerAccepted : Byte := 0
def answerNoLane : Byte := 1
def answerNoSchedule : Byte := 2
def answerOrder : Byte := 3
def answerOversize : Byte := 4
def answerBacklog : Byte := 5

/-- The lead of frame assignment in µs (R122). -/
def sliceLead : Nat := 1500

def State.answerSlice (code : Byte) (s : State) : State :=
  { s with sliceSource := { s.sliceSource with answer := code } }

def State.setSubmission (o : Option Submission) (s : State) : State :=
  { s with sliceSource := { s.sliceSource with submission := o } }

/-- A refusal is answered with its code and counted (R121). -/
def State.refuseSlice (code : Byte) (c : Counter) (s : State) : State := (s.answerSlice code).bump c

/-- Test 3: the flag and index 0 go together, and any other index is the next expected one of an open submission (R121). -/
def sliceOrderOk (start : Bool) (index : Nat) (sub : Option Submission) : Bool :=
  if index = 0 then start
  else !start && (match sub with | some u => u.next == index | none => false)

/-- The slice is accepted for frame `n`: queued with its presentation time, fed to the transmitter, and the submission
follows (R121, R122). -/
def State.acceptSlice (a : Anchor) (n index : Nat) (bytes : List Byte) (s : State) : State :=
  let t := scanTime a.time a.period120 n index
  let late := decide (t ≤ s.clock.tether)
  let s1 : State := { s with sliceSource := { s.sliceSource with
      sendQueue := s.sliceSource.sendQueue ++ [⟨BitVec.ofNat 16 n, index, t, bytes⟩]
      submission := if index = 11 then none else some ⟨n, index + 1⟩
      answer := answerAccepted } }
  (if late then s1.bump cSubmittedLate else s1).feedSlices

/-- The frame a slice takes: that of the open submission, or for index 0 the earliest whose slice 0 is scanned at or after
tether time plus the lead (R122). -/
def State.sliceFrame (a : Anchor) (index : Nat) (s : State) : Nat :=
  if index = 0 then firstFrameFrom a.time a.period120 (s.clock.tether + sliceLead)
  else match s.sliceSource.submission with
    | some u => u.frame
    | none => 0

/-- Tests 4 and 5 and the acceptance (R121). -/
def State.judgeSlice (a : Anchor) (g : Grade) (index : Nat) (bytes : List Byte) (s : State) : State :=
  if bytes.length = 0 ∨ sliceBudget g a.period120 < bytes.length then s.refuseSlice answerOversize cOversize
  else if 4 ≤ s.sliceSource.sendQueue.length then s.refuseSlice answerBacklog cBacklog
  else s.acceptSlice a (s.sliceFrame a index) index bytes

/-- A slice at the slice input of a SOURCE is judged in the order of R121. -/
def State.submitSlice (start : Bool) (index : Nat) (bytes : List Byte) (s : State) : State :=
  if s.agree.state = .running then
    match s.sliceSource.schedule, s.agree.chosen with
    | some a, some g =>
      let s1 := if start ∧ index = 0 then s.setSubmission none else s
      if sliceOrderOk start index s1.sliceSource.submission then s1.judgeSlice a g index bytes
      else (s1.setSubmission none).refuseSlice answerOrder cOrder
    | _, _ => s.refuseSlice answerNoSchedule cNoSchedule
  else s.refuseSlice answerNoLane cNoLane

/-! ## HEADSET: the slice buffer (R124, R125) -/

def emptySlot : Slot := ⟨none, none⟩

def SliceHeadset.slot (h : SliceHeadset) (k : Nat) : Slot := h.slots.getD k emptySlot

def SliceHeadset.setSlot (h : SliceHeadset) (k : Nat) (x : Slot) : SliceHeadset := { h with slots := h.slots.set k x }

def State.setSlot (k : Nat) (x : Slot) (s : State) : State :=
  { s with sliceHeadset := s.sliceHeadset.setSlot k x }

/-- The arrival of a good slice packet of frame f at index k (R124). -/
def State.sliceArrives (f : Half) (k : Nat) (pt : Nat) (bytes : List Byte) (s : State) : State :=
  let x := s.sliceHeadset.slot k
  let new : HeldSlice := ⟨f, pt, bytes⟩
  if pt ≤ s.clock.tether then s.bump cSliceLate
  else if (match x.held with | some h => !later f h.frame | none => false) then s.bump cStale
  else
    match x.incoming with
    | some i => if later f i.frame then (s.setSlot k { x with incoming := some new }).bump cSuperseded else s.bump cStale
    | none => s.setSlot k { x with incoming := some new }

/-- "Shown": the bytes are passed to the index's place of the panel port, at any level; `none` is dark (R125). -/
def State.show (k : Nat) (bytes : Option (List Byte)) (s : State) : State :=
  { s with sliceHeadset := { s.sliceHeadset with panel := s.sliceHeadset.panel.set k bytes } }

/-- What the panel gives at each place of the panel port (R78, R80, R125): its bytes at the brightness step of the panel drive's level,
and dark at level 0 whatever the slice (assumption 43). -/
def State.panelPort (s : State) : List (Option (Nat × List Byte)) :=
  s.sliceHeadset.panel.map (fun b =>
    if s.loads.current.panel = 0 then none else b.map (fun bytes => (s.loads.current.panel, bytes)))

/-- An index of the frame in progress not shown fresh (R127). -/
def State.markNotFresh (s : State) : State :=
  { s with sliceHeadset := { s.sliceHeadset with notFresh := s.sliceHeadset.notFresh + 1 } }

/-- Step 1 of R125: an incoming slice of a frame earlier than n is freed and counted as LATE. -/
def State.freePassedOver (n : Half) (k : Nat) (s : State) : State :=
  let x := s.sliceHeadset.slot k
  match x.incoming with
  | some i => if later n i.frame then (s.setSlot k { x with incoming := none }).bump cSliceLate else s
  | none => s

/-- Steps 3 and 4 of R125: the held slice again, or dark. -/
def State.showAgain (n : Half) (k time : Nat) (s : State) : State :=
  let x := s.sliceHeadset.slot k
  match x.held with
  | some h =>
    let s1 := ((s.setSlot k { x with held := some ⟨n, time, h.bytes⟩ }).show k (some h.bytes)).markNotFresh
    if s.running then s1.bump cRepeated else s1
  | none => (s.show k none).markNotFresh

/-- Steps 2 to 4 of R125. -/
def State.showIndex (n : Half) (k time : Nat) (s : State) : State :=
  let x := s.sliceHeadset.slot k
  match x.incoming with
  | some i =>
    if i.frame = n then ((s.setSlot k ⟨some i, none⟩).show k (some i.bytes)).bump cShown
    else s.showAgain n k time
  | none => s.showAgain n k time

/-- The frame-shown record of a frame (R127): offered up the lane in RUNNING, else dropped and counted. -/
def State.makeFrameShown (n : Nat) (time0 repeated : Nat) (s : State) : State :=
  if s.running then
    s.offerPacket .up (makePacket .frameShown
      (leBytes 2 (n % 65536) ++ leBytes 4 time0 ++ [BitVec.ofNat 8 repeated]))
  else s.bump cFrameUnsent

/-- The scan position moves on: after index 11 the record is made and the next frame begins (R118, R127). -/
def State.nextScan (anchor n k : Nat) (s : State) : State :=
  if k = 11 then
    let s1 := s.makeFrameShown n (scanTime anchor s.straps.refresh120 n 0) s.sliceHeadset.notFresh
    { s1 with sliceHeadset := { s1.sliceHeadset with frame := n + 1, index := 0, notFresh := 0 } }
  else { s with sliceHeadset := { s.sliceHeadset with index := k + 1 } }

/-- The index at the scan position is scanned (R125). -/
def State.scanIndex (anchor : Nat) (s : State) : State :=
  let n := s.sliceHeadset.frame
  let k := s.sliceHeadset.index
  let num : Half := BitVec.ofNat 16 n
  ((s.freePassedOver num k).showIndex num k (scanTime anchor s.straps.refresh120 n k)).nextScan anchor n k

/-- The scan time of the scan position. -/
def State.nextScanTime (anchor : Nat) (s : State) : Nat :=
  scanTime anchor s.straps.refresh120 s.sliceHeadset.frame s.sliceHeadset.index

/-- A tether clock step at the HEADSET (R126). A step of the slice interval or more abandons the slices of the frame in
progress that were not yet scanned; a frame is in progress once its index 0 has been scanned. -/
def State.scanStep (size : Nat) (s : State) : State :=
  match s.sliceHeadset.anchor with
  | none => s
  | some a =>
    if size < sliceInterval s.straps.refresh120 then
      if s.nextScanTime a ≤ s.clock.tether then s.scanIndex a else s
    else
      let skipped := if s.sliceHeadset.index = 0 then 0 else 12 - s.sliceHeadset.index
      let s1 := s.count cSkipped skipped
      { s1 with sliceHeadset := { s1.sliceHeadset with
          frame := firstFrameFrom a s.straps.refresh120 s.clock.tether, index := 0, notFresh := 0 } }

/-! ## Frame-shown records at the SOURCE (R128) -/

/-- The 4 latest records are kept, in order of arrival. -/
def State.frameShownArrives (r : FrameShown) (s : State) : State :=
  let l := s.sliceSource.frames ++ [r]
  { s with sliceSource := { s.sliceSource with frames := if 4 < l.length then l.drop 1 else l } }

/-! ## Commands -/

open Host (Outcome)

/-- SLICE_SUBMIT (R120, R121). Only a SOURCE has a slice input. -/
def execSliceSubmit (start : Bool) (index : Byte) (bytes : List Byte) (s : State) : Outcome State Fault Refusal :=
  whilePowered s (fun s => if s.role = .source then s.submitSlice start index.toNat bytes else s)

/-- SLICE_SCAN (R125): the tether time is the scan time of the scan position, or later. -/
def execSliceScan (s : State) : Outcome State Fault Refusal :=
  whilePowered s (fun s =>
    match s.sliceHeadset.anchor with
    | none => s
    | some a =>
      let s1 := s.advanceToTether (s.nextScanTime a)
      if s.nextScanTime a ≤ s1.clock.tether then s1.scanIndex a else s)

/-- FRAMES_READ (R128): the records oldest first, not cleared; none except at a SOURCE. -/
def execFramesRead (s : State) : Outcome State Fault Refusal :=
  onRequest s (fun s =>
    let l := if s.role = .source then s.sliceSource.frames else []
    s.withReply .ok (BitVec.ofNat 8 l.length ::
      l.flatMap (fun r => leBytes 2 r.frame.toNat ++ leBytes 6 r.time ++ [r.repeated])))

end Sys2Proof.Machine
end

