-- ==== Sys2Proof/Machine/Motion.lean ====
section
/-! DEFINITION. The motion controller (chapter 7): the sensor port (R131 to R134), stamps, calibration and range (R135 to
R138), the two paths of a record (R140, R141), and the SOURCE's motion queue (R143 to R145). -/

namespace Sys2Proof.Machine

open Host (Outcome)

/-! ## Calibration and range (R137, R138) -/

/-- One axis: the calibrated value and whether a limit was applied (R137). -/
def calibrate (raw : Half) (offset : Int) (scale : Nat) : Half × Bool :=
  let q := roundedGain ((raw.toInt - offset) * (scale : Int))
  if q < -32768 then (BitVec.ofInt 16 (-32768), true)
  else if 32767 < q then (BitVec.ofInt 16 32767, true)
  else (BitVec.ofInt 16 q, false)

/-- A calibrated value of a magnitude greater than its group's limit (R138). -/
def outOfRange (v : Half) (limit : Nat) : Bool := decide (limit < v.toInt.natAbs)

def State.calibrateAxis (s : State) (n : Nat) (raw : Half) : Half × Bool :=
  calibrate raw (s.itemInt (itemOffset + n)) (s.item (itemScale + n))

def bit6 (b : Bool) (n : Nat) : BitVec 6 := if b then BitVec.ofNat 6 (2 ^ n) else 0

/-- The calibrated axes and their clipped flags, AX in bit 0 to RZ in bit 5. -/
def State.calibrateAxes (s : State) (raw : Axes) : Axes × BitVec 6 :=
  let ax := s.calibrateAxis 0 raw.ax
  let ay := s.calibrateAxis 1 raw.ay
  let az := s.calibrateAxis 2 raw.az
  let rx := s.calibrateAxis 3 raw.rx
  let ry := s.calibrateAxis 4 raw.ry
  let rz := s.calibrateAxis 5 raw.rz
  (⟨ax.1, ay.1, az.1, rx.1, ry.1, rz.1⟩,
    bit6 ax.2 0 ||| bit6 ay.2 1 ||| bit6 az.2 2 ||| bit6 rx.2 3 ||| bit6 ry.2 4 ||| bit6 rz.2 5)

def State.axesOutOfRange (s : State) (a : Axes) : Bool :=
  let la := s.item itemAccelLimit
  let lr := s.item itemRateLimit
  outOfRange a.ax la || outOfRange a.ay la || outOfRange a.az la || outOfRange a.rx lr || outOfRange a.ry lr
    || outOfRange a.rz lr

/-- The sample period of a rate level in µs (R131). -/
def samplePeriod (level : Nat) : Nat := if level = 1 then 2000 else if level = 2 then 1000 else 500

/-! ## The record (R133, R139) -/

/-- The record of a completed read: its stamp is the edge's tether time less GROUP_DELAY, not below 0 (R135). -/
def State.sampleRecord (r : SensorRead) (raw : Axes) (s : State) : MotionRecord :=
  let c := s.calibrateAxes raw
  { sequence := s.motionHeadset.sequence
    stamp := r.edge - r.delay
    axes := c.1
    clipped := c.2
    range := s.axesOutOfRange c.1
    rateChanged := s.motionHeadset.rateChanged
    fallback := false
    rate := BitVec.ofNat 2 (s.motionHeadset.rateLevel.getD 0) }

/-- A record out of range is counted and sets MOTION_RANGE (R138). -/
def State.noteRange (r : MotionRecord) (s : State) : State :=
  if r.range then (s.bump cRange).raise .motionRange else s

/-- A waiting motion record that a newer one replaces is counted as UNSENT (R140). -/
def State.countReplaced (lane : Lane) (k : PacketKind) (c : Counter) (s : State) : State :=
  if (s.lanes.tx lane).sending.isSome && (s.lanes.tx lane).waits k then s.bump c else s

/-- The record goes up the lane in RUNNING; else it is counted as UNSENT and stays as the most recent one (R140). -/
def State.carryRecord (r : MotionRecord) (s : State) : State :=
  let s1 : State := { s with motionHeadset := { s.motionHeadset with lastRecord := some (r, s.running) } }
  if s.running then
    (s1.countReplaced .up .motion cRecordUnsent).offerPacket .up (makePacket .motion (motionPayload r))
  else s1.bump cRecordUnsent

/-- The read is over: the next sequence number follows, RATE_CHANGED has been carried, and a noted level change starts its
write (R131 to R133). -/
def State.endRead (s : State) : State :=
  let s1 : State := { s with motionHeadset := { s.motionHeadset with
      reading := none, sequence := s.motionHeadset.sequence + 1, rateChanged := false } }
  if s1.motionHeadset.again then s1.startSensorWrite else s1

/-- A read completes and the sample is made (R133). -/
def State.completeRead (r : SensorRead) (raw : Axes) (s : State) : State :=
  let rec' := s.sampleRecord r raw
  (((s.noteRange rec').carryRecord rec').bump cSamples).endRead

/-! ## The motion queue of the SOURCE (R143, R144) -/

/-- An accepted record goes to the newest end; at 64 the oldest is first discarded (R144). -/
def State.queueRecord (r : MotionRecord) (s : State) : State :=
  let q := s.motionSource.queue
  if 64 ≤ q.length then
    (({ s with motionSource := ⟨q.drop 1 ++ [r], some (r.sequence, r.stamp)⟩ } : State).bump cMotionOverrun).raise .motionOverrun
  else { s with motionSource := ⟨q ++ [r], some (r.sequence, r.stamp)⟩ }

/-- A resumption empties the queue, each record counted as OVERRUN (R143). -/
def State.emptyMotionQueue (s : State) : State :=
  let n := s.motionSource.queue.length
  let s1 : State := { s with motionSource := { s.motionSource with queue := [] } }
  if n = 0 then s1 else (s1.count cMotionOverrun n).raise .motionOverrun

/-- A motion record arrives at the SOURCE, its stamp rebuilt, and is judged for order or resumption (R143). -/
def State.recordArrives (r : MotionRecord) (s : State) : State :=
  match s.motionSource.newest with
  | none => s.queueRecord r
  | some (seq, stamp) =>
    if later r.sequence seq then s.queueRecord r
    else if stamp + 2000 < r.stamp then s.emptyMotionQueue.queueRecord r
    else s.bump cOutOfOrder

/-! ## Commands -/

/-- SENSOR_WRITE_COMPLETE (R131, R132). -/
def execSensorWriteComplete (s : State) : Outcome State Fault Refusal :=
  whilePowered s (fun s =>
    if s.motionHeadset.port = .setting then
      let w := s.motionHeadset.writing
      let m := { s.motionHeadset with
        rateLevel := some w
        rateChanged := s.motionHeadset.rateChanged || decide (s.motionHeadset.rateLevel ≠ some w) }
      let s1 : State := { s with motionHeadset := m }
      if m.again then s1.startSensorWrite
      else if w = 0 then { s with motionHeadset := { m with port := .off } }
      else { s with motionHeadset := { m with port := .sampling, stallFrom := some s.clock.now } }
    else s)

/-- DATA_READY_EDGE (R133, R134): taken or not, it restarts the stall timer and ends a stall. -/
def execDataReadyEdge (s : State) : Outcome State Fault Refusal :=
  whilePowered s (fun s =>
    if s.motionHeadset.port = .sampling then
      { s with motionHeadset := { s.motionHeadset with
          stallFrom := some s.clock.now
          stalled := false
          reading := match s.motionHeadset.reading with
            | some r => some r
            | none => some ⟨s.clock.tether, s.item itemGroupDelay⟩ } }
    else s)

/-- SENSOR_READ_COMPLETE (R133). -/
def execSensorReadComplete (raw : Axes) (s : State) : Outcome State Fault Refusal :=
  whilePowered s (fun s =>
    match s.motionHeadset.reading with
    | none => s
    | some r => s.completeRead r raw)

/-- SENSOR_STALL (R134): four sample periods without an edge. -/
def execSensorStall (s : State) : Outcome State Fault Refusal :=
  whilePowered s (fun s =>
    runOut s.motionHeadset.stallFrom (4 * samplePeriod (s.motionHeadset.rateLevel.getD 0)) s (fun _ s =>
      ({ s with motionHeadset := { s.motionHeadset with stallFrom := none, stalled := true } } : State).raise .sensorStall))

/-- The most recent record goes out as a MOTION burst if it has been offered on neither path (R141); a listen-only node
offers nothing. -/
def State.offerFallback (s : State) : State :=
  match s.motionHeadset.lastRecord with
  | some (r, false) =>
    if s.roster.join = .listenOnly then s
    else
      ({ s with motionHeadset := { s.motionHeadset with lastRecord := some (r, true) } } : State).bump cFallbackSent
        |>.offerBurst .motion (motionPayload { r with fallback := true })
  | _ => s

/-- MOTION_FALLBACK_EXPIRY (R141): the timer restarts from zero as it runs out. -/
def execMotionFallbackExpiry (s : State) : Outcome State Fault Refusal :=
  whilePowered s (fun s =>
    runOut s.motionHeadset.fallbackFrom fallbackTime s (fun due s =>
      ({ s with motionHeadset := { s.motionHeadset with fallbackFrom := some due } } : State).offerFallback))

/-- A record in a MOTION_DRAIN reply: sequence, 48-bit stamp, axes, flags (section 11.4). -/
def drainBytes (r : MotionRecord) : List Byte :=
  leBytes 2 r.sequence.toNat ++ leBytes 6 r.stamp ++ axesBytes r.axes ++ leBytes 2 (motionFlags r)

/-- MOTION_DRAIN (R145, R176): a count outside 1 to 8 is refused; only a SOURCE has records. -/
def execMotionDrain (count : Byte) (s : State) : Outcome State Fault Refusal :=
  onRequest s (fun s =>
    let n := count.toNat
    if n = 0 ∨ 8 < n then s.withReply .badArgument []
    else if s.role = .source then
      let out := s.motionSource.queue.take n
      let left := s.motionSource.queue.drop n
      ({ s with motionSource := { s.motionSource with queue := left } } : State).withReply .ok
        (BitVec.ofNat 8 out.length :: BitVec.ofNat 8 left.length :: out.flatMap drainBytes)
    else s.withReply .ok [0, 0])

end Sys2Proof.Machine
end

