-- ==== Sys2Proof/Machine/Audio.lean ====
section
/-! DEFINITION. The audio controller (chapter 8): the playback block builder of the SOURCE (R149, R150), the HEADSET's
playback queue, output, slip and clock step (R151 to R158), and the microphone path (R160, R161). -/

namespace Sys2Proof.Machine

open Host (Outcome)

/-! ## Playback at the SOURCE (R149, R150) -/

def audioPacket (seq : Half) (pt : Nat) (frames : List (Half × Half)) : Packet :=
  makePacket .audio (leBytes 2 seq.toNat ++ leBytes 4 pt ++ frames.flatMap frameBytes)

/-- A block of 48 frames closes: it takes the next sequence number and its presentation time, and is offered in RUNNING or
discarded and counted (R149, R150). That a presentation time may pass 2^48 − 1 is DESIGN CHOICE (assumption 28). -/
def State.closePlayBlock (frames : List (Half × Half)) (s : State) : State :=
  let seq := s.audioSource.sequence
  let pt := s.clock.tether + s.item itemAudioLead
  let s1 : State := { s with audioSource := { s.audioSource with builder := [], sequence := seq + 1 } }
  if s.running then (s1.countReplaced .down .audio cBlockUnsent).offerPacket .down (audioPacket seq pt frames)
  else s1.bump cBlockUnsent

/-- AUDIO_FRAME_INPUT (R149). Only a SOURCE has an audio input. -/
def execAudioFrameInput (left right : Half) (s : State) : Outcome State Fault Refusal :=
  whilePowered s (fun s =>
    if s.role = .source then
      let b := s.audioSource.builder ++ [(left, right)]
      if 48 ≤ b.length then s.closePlayBlock b
      else { s with audioSource := { s.audioSource with builder := b } }
    else s)

/-! ## The playback queue (R151 to R153) -/

def State.mapAudio (f : AudioHeadset → AudioHeadset) (s : State) : State :=
  { s with audioHeadset := f s.audioHeadset }

/-- The presentation time of the block's last frame is before the tether time (R151, R153). -/
def PlayBlock.isLate (tether : Nat) (b : PlayBlock) : Bool := decide (b.lastTime < tether)

/-- None of the block's frames has been played. -/
def PlayBlock.whole (b : PlayBlock) : Bool := decide (48 ≤ b.frames.length)

/-- Judging at the head (R153): a whole late head block is removed and the next is judged in turn. The number removed, and
the queue left. -/
def dropLate (tether : Nat) : List PlayBlock → Nat × List PlayBlock
  | [] => (0, [])
  | b :: rest =>
    if b.whole && b.isLate tether then
      let r := dropLate tether rest
      (r.1 + 1, r.2)
    else (0, b :: rest)

/-- Entry into PLAYING: the slip timer starts from zero (R153, R156). -/
def State.enterPlaying (s : State) : State :=
  s.mapAudio (fun a => { a with output := .playing, slipFrom := some s.clock.now, twice := false, underrun := false })

/-- In WAITING with the head frame's presentation time reached, the output enters PLAYING (R153). -/
def State.startIfDue (s : State) : State :=
  match s.audioHeadset.output, s.audioHeadset.queue with
  | .waiting, b :: _ => if b.headTime ≤ s.clock.tether then s.enterPlaying else s
  | _, _ => s

/-- The head is judged (R153): late blocks are removed and counted, and a surviving block that is due starts playback. -/
def State.judgeHead (s : State) : State :=
  let r := dropLate s.clock.tether s.audioHeadset.queue
  let s1 := if r.1 = 0 then s else (s.mapAudio (fun a => { a with queue := r.2 })).count cBlockLate r.1
  s1.startIfDue

/-- The number of fill blocks due for an arriving sequence number (R152). -/
def fillCount (a : AudioHeadset) (seq : Half) : Nat :=
  match a.lastSeq with
  | none => 0
  | some last =>
    let k := (seq - last - 1).toNat
    if later seq last && !a.queue.isEmpty && decide (1 ≤ k ∧ k ≤ 4) then k else 0

/-- Fill blocks m = 1 to k: 48 silent frames each, due (k − m + 1) ms before the arriving block (R152). -/
def fillBlocks (pt k : Nat) : List PlayBlock :=
  (List.range k).map (fun i => ⟨none, pt - (k - i) * 1000, List.replicate 48 (0, 0)⟩)

/-- A good audio block arrives (R151): late, overflow, or appended behind its fill. -/
def State.audioArrives (seq : Half) (pt : Nat) (frames : List (Half × Half)) (s : State) : State :=
  let b : PlayBlock := ⟨some seq, pt, frames⟩
  let k := fillCount s.audioHeadset seq
  if b.isLate s.clock.tether then s.bump cBlockLate
  else if 480 < s.audioHeadset.frameCount + 48 + 48 * k then s.bump cOverflow
  else
    let s1 := (s.mapAudio (fun a => { a with
      queue := a.queue ++ fillBlocks pt k ++ [b], lastSeq := some seq })).bump cBlocks
    if s.audioHeadset.queue.isEmpty && decide (s.audioHeadset.output = .waiting ∨ s.audioHeadset.output = .playing)
    then s1.judgeHead else s1

/-! ## Output arithmetic (R158) -/

/-- The gain limit of the amplifier's level (R158). -/
def gainLimit (level : Nat) (v : Int) : Int :=
  if level = 0 then 0 else if level = 1 then divToZero v 4 else if level = 2 then divToZero v 2 else v

/-- One sample scaled by VOLUME and the gain limit, as a whole number. -/
def scaleSample (volume level : Nat) (v : Half) : Int :=
  gainLimit level (divToZero (v.toInt * (volume : Int)) 256)

/-- One output sample. -/
def outputSample (volume level : Nat) (v : Half) : Half := BitVec.ofInt 16 (scaleSample volume level v)

/-- A ramp sample: the result multiplied by (48 − j) and divided by 48, rounded toward zero (R155). -/
def rampSample (volume level j : Nat) (v : Half) : Half :=
  BitVec.ofInt 16 (divToZero (scaleSample volume level v * ((48 - j : Nat) : Int)) 48)

def State.outputFrame (f : Half × Half) (s : State) : Half × Half :=
  (outputSample (s.item itemVolume) s.loads.current.audio f.1, outputSample (s.item itemVolume) s.loads.current.audio f.2)

def State.rampFrame (j : Nat) (f : Half × Half) (s : State) : Half × Half :=
  (rampSample (s.item itemVolume) s.loads.current.audio j f.1, rampSample (s.item itemVolume) s.loads.current.audio j f.2)

def silence : Half × Half := (0, 0)

def State.sendFrame (f : Half × Half) (s : State) : State := s.mapAudio (fun a => { a with frameOut := f })

/-! ## The output (R154, R155) -/

/-- A free value is drawn: the frame and the state with the counter advanced (assumption 4). -/
def State.drawFrame (s : State) : (Half × Half) × State :=
  (Config.freeFrame s.freeCount, { s with freeCount := s.freeCount + 1 })

/-- The frame kept on entry into RAMPING: the last one played, or a free value where none has been played since the reset. -/
def State.keepLastFrame (s : State) : State :=
  match s.audioHeadset.lastFrame with
  | some _ => s
  | none => s.drawFrame.2.mapAudio (fun a => { a with lastFrame := some s.drawFrame.1 })

/-- A frame falls due with the queue empty: the output enters RAMPING, UNDERRUN is counted and AUDIO_UNDERRUN set. The 48
ramp frames go out in the next 48 frame periods, so the input of the frame sent at this one is a free value (R154, R155). -/
def State.enterRamping (s : State) : State :=
  let s1 := ((s.bump cUnderrun).raise .audioUnderrun).keepLastFrame
  let s2 := s1.drawFrame.2
  (s2.mapAudio (fun a => { a with output := .ramping 0, slipFrom := none, twice := false, underrun := true })).sendFrame
    (s2.outputFrame s1.drawFrame.1)

/-- The head frame leaves the queue; a block with no frames left leaves it too, and the next is judged (R154). -/
def State.removeHeadFrame (s : State) : State :=
  match s.audioHeadset.queue with
  | [] => s
  | b :: rest =>
    match b.frames with
    | [] => (s.mapAudio (fun a => { a with queue := rest })).judgeHead
    | [_] => (s.mapAudio (fun a => { a with queue := rest })).judgeHead
    | _ :: fs => s.mapAudio (fun a => { a with queue := { b with frames := fs } :: rest })

/-- The head frame is sent through the output arithmetic; a frame marked to be played twice stays at the head (R154, R156). -/
def State.playFrame (f : Half × Half) (s : State) : State :=
  let s1 := (s.sendFrame (s.outputFrame f)).mapAudio (fun a => { a with lastFrame := some f })
  if s.audioHeadset.twice then s1.mapAudio (fun a => { a with twice := false }) else s1.removeHeadFrame

/-- The frame at the head of the queue. -/
def AudioHeadset.headFrame (a : AudioHeadset) : Option (Half × Half) :=
  match a.queue with
  | [] => none
  | b :: _ => b.frames.head?

/-- Ramp frame j of 48; after the 48th the output enters WAITING and the head is judged (R155). -/
def State.rampPeriod (sent : Nat) (s : State) : State :=
  let f := s.audioHeadset.lastFrame.getD silence
  let s1 := s.sendFrame (s.rampFrame (sent + 1) f)
  if 48 ≤ sent + 1 then (s1.mapAudio (fun a => { a with output := .waiting })).judgeHead
  else s1.mapAudio (fun a => { a with output := .ramping (sent + 1) })

/-- What the output does in one frame period (section 8.3). -/
def State.outputPeriod (s : State) : State :=
  match s.audioHeadset.output with
  | .waiting => s.sendFrame silence
  | .ramping sent => s.rampPeriod sent
  | .playing =>
    match s.audioHeadset.headFrame with
    | some f => s.playFrame f
    | none => s.enterRamping

/-- The start of the frame period that follows the one last taken; the next one from now when none has been taken since the
reset (R148). -/
def framePeriodAfter (taken : Option Nat) (now : Nat) : Nat :=
  match taken with
  | none => nextFramePeriod now
  | some t => nextFramePeriod (t + 1)

/-- OUTPUT_FRAME_PERIOD (R154): only a HEADSET has an output. While parked it sends silence (R159). -/
def execOutputFramePeriod (s : State) : Outcome State Fault Refusal :=
  whilePowered s (fun s =>
    if s.role = .headset then
      let t := framePeriodAfter s.audioHeadset.outTaken s.clock.now
      ((s.advanceTo t).mapAudio (fun a => { a with outTaken := some t })).outputPeriod
    else s)

/-- PRESENTATION_TIME_REACHED (R153): in WAITING, the tether time reaches the head frame's presentation time. -/
def execPresentationTimeReached (s : State) : Outcome State Fault Refusal :=
  whilePowered s (fun s =>
    match s.audioHeadset.output, s.audioHeadset.queue with
    | .waiting, b :: _ =>
      let s1 := s.advanceToTether b.headTime
      if b.headTime ≤ s1.clock.tether then s1.enterPlaying else s
    | _, _ => s)

/-- The slip error judged at the slip event (R156): e is the head frame's presentation time less the tether time. -/
def State.slip (s : State) : State :=
  match s.audioHeadset.queue with
  | [] => s
  | b :: _ =>
    if s.clock.tether + 42 ≤ b.headTime then (s.mapAudio (fun a => { a with twice := true })).bump cSlipAdd
    else if b.headTime + 42 ≤ s.clock.tether then
      ((s.mapAudio (fun a => { a with twice := false })).bump cSlipDrop).removeHeadFrame
    else s

/-- SLIP_TIMER_EXPIRY (R156): every 64 ms of PLAYING. -/
def execSlipTimerExpiry (s : State) : Outcome State Fault Refusal :=
  whilePowered s (fun s =>
    runOut s.audioHeadset.slipFrom slipTime s (fun due s =>
      (s.mapAudio (fun a => { a with slipFrom := some due })).slip))

/-- A tether clock step at the HEADSET (R157). In PLAYING the head block is judged as if it were whole. -/
def State.audioStep (s : State) : State :=
  match s.audioHeadset.output, s.audioHeadset.queue with
  | .waiting, _ => s.judgeHead
  | .playing, b :: rest =>
    if b.isLate s.clock.tether then
      ((s.mapAudio (fun a => { a with queue := rest, twice := false })).bump cBlockLate).judgeHead
    else s
  | _, _ => s

/-! ## Microphone (R160, R161) -/

def micPacket (seq : Half) (time : Nat) (samples : List Half) : Packet :=
  makePacket .mic (leBytes 2 seq.toNat ++ leBytes 4 time ++ samples.flatMap (fun v => leBytes 2 v.toNat))

/-- A microphone block closes (R160). -/
def State.closeMicBlock (time : Nat) (samples : List Half) (s : State) : State :=
  let seq := s.audioHeadset.micSequence
  let s1 := s.mapAudio (fun a => { a with micBuild := [], micSequence := seq + 1 })
  if s.running then (s1.countReplaced .up .mic cBlockUnsent).offerPacket .up (micPacket seq time samples)
  else s1.bump cBlockUnsent

/-- A sample is captured: the tether time of the first sample of a block is its capture time (R160). -/
def State.captureSample (v : Half) (s : State) : State :=
  let start := if s.audioHeadset.micBuild = [] then s.clock.tether else s.audioHeadset.micStart
  let b := s.audioHeadset.micBuild ++ [v]
  if 48 ≤ b.length then (s.mapAudio (fun a => { a with micStart := start })).closeMicBlock start b
  else s.mapAudio (fun a => { a with micStart := start, micBuild := b })

/-- MIC_CAPTURE (R160): at a HEADSET that is not parked. -/
def execMicCapture (sample : Half) (s : State) : Outcome State Fault Refusal :=
  whilePowered s (fun s =>
    if s.role = .headset ∧ s.parked = false then
      let t := framePeriodAfter s.audioHeadset.capTaken s.clock.now
      ((s.advanceTo t).mapAudio (fun a => { a with capTaken := some t })).captureSample sample
    else s)

/-- A microphone block arrives at the SOURCE: at 960 samples, or when fewer than a whole block's room is left by a partly
sent oldest block, the oldest block is discarded as an overrun (R161). -/
def State.micArrives (time : Nat) (samples : List Half) (s : State) : State :=
  let q := s.audioSource.micQueue
  if 960 < s.audioSource.micCount + samples.length then
    ({ s with audioSource := { s.audioSource with micQueue := q.drop 1 ++ [⟨time, samples⟩] } } : State).bump cMicOverrun
  else { s with audioSource := { s.audioSource with micQueue := q ++ [⟨time, samples⟩] } }

/-- The audio output of the SOURCE sends the oldest sample, with the capture time at a block's first; else zero (R161). -/
def AudioSource.sendMic (a : AudioSource) : AudioSource :=
  match a.micQueue with
  | [] => { a with micOut := 0, micTime := none }
  | b :: rest =>
    match b.samples with
    | [] => { a with micOut := 0, micTime := none, micQueue := rest }
    | [v] => { a with micOut := v, micTime := if 48 ≤ b.samples.length then some b.time else none, micQueue := rest }
    | v :: vs =>
      { a with micOut := v, micTime := if 48 ≤ b.samples.length then some b.time else none
               micQueue := { b with samples := vs } :: rest }

/-- MIC_OUTPUT_SAMPLE (R161): one frame period of the SOURCE's audio clock. -/
def execMicOutputSample (s : State) : Outcome State Fault Refusal :=
  whilePowered s (fun s =>
    if s.role = .source then
      let t := framePeriodAfter s.audioSource.micTaken s.clock.now
      let s1 := s.advanceTo t
      { s1 with audioSource := { s1.audioSource.sendMic with micTaken := some t } }
    else s)

end Sys2Proof.Machine
end

