-- ==== Sys2Proof/Machine/Items.lean ====
section
/-! DEFINITION. The settings items read and written, from the host port and by remote request alike (R164, R165): the value
a write holds, what a new value does in its owning block, RAIL_ENABLE (R90) and IDENT. -/

namespace Sys2Proof.Machine

open Host (Outcome)

/-- IDENT: station address in bits 0 to 2, role code in bits 4 to 6, revision code 1 in bits 8 to 15 (section 11.1). -/
def identValue (st : Straps) : Half := BitVec.ofNat 16 (st.addr.toNat + 16 * st.role.code.toNat + 256)

/-- RAIL_ENABLE reads 0 while a latch is pending or in force and 1 otherwise (R90). -/
def railEnableValue (p : Power) : Half := if p.latched then 0 else 1

/-- The value a read of item `n` gives. -/
def State.itemValue (n : Nat) (s : State) : Half :=
  if n = itemRailEnable then railEnableValue s.power
  else if n = itemIdent then identValue s.straps
  else s.items.getD n 0

/-- A read, judged by R165. -/
def State.readItem (n : Nat) (s : State) : Status × Half :=
  match itemSpec s.straps n with
  | none => (.noItem, 0)
  | some i => if i.applies s.role then (.ok, s.itemValue n) else (.notApplicable, 0)

/-- The nearest end of the range, or the value itself. -/
def clampTo (lo hi v : Nat) : Nat := if v < lo then lo else if hi < v then hi else v

/-- The value a write of `v` holds: the range first, then the 100 mV between DROOP_CRIT and DROOP_LOW (R82). -/
def State.heldValue (n : Nat) (i : ItemSpec) (v : Nat) (s : State) : Nat :=
  let c := clampTo i.lo i.hi v
  if n = itemDroopLow then max c (s.item itemDroopCrit + 100)
  else if n = itemDroopCrit then min c (s.item itemDroopLow - 100)
  else c

def State.setItem (n : Nat) (v : Nat) (s : State) : State := { s with items := s.items.set n (BitVec.ofNat 16 v) }

/-! ## RAIL_ENABLE (R90) -/

/-- A write of 1 clears the trip history and cancels any latch: one in force closes the switch, a pending one goes on as an
ordinary trip. -/
def State.enableRail (s : State) : State :=
  let s1 : State := { s with power := { s.power with tripHistory := [] } }
  if s.power.supplier = some .railLatched then s1.closeSwitch
  else
    match s.power.trip with
    | .pending t true => { s1 with power := { s1.power with trip := .pending t false } }
    | _ => s1

/-- A write of 0: a commanded trip in RAIL_ON; a pending trip becomes a latch; an off-time is latched at once; nothing while
a latch is pending or in force. -/
def State.disableRail (s : State) : State :=
  if s.power.latched then s
  else
    match s.power.trip with
    | .none => (s.beginTrip 3 true).raise .railLatched
    | .pending t _ => ({ s with power := { s.power with trip := .pending t true } } : State).raise .railLatched
    | .offTime _ => (s.openSwitch true).raise .railLatched

/-! ## What a written value does -/

/-- The owning block acts on a value just held (the rules named in section 9.1). Items not listed act where they are used. -/
def State.itemWritten (n : Nat) (s : State) : State :=
  if n = itemOfferLimit then s.settleOffer
  else if n = itemLaneCeiling then
    ({ s with agree := { s.agree with lowered := none } } : State).settleClaim
  else if n = itemPanelWant ∨ n = itemAudioWant ∨ n = itemMotionWant then s.settleClaim.plan
  else if n = itemShedOrder then s.plan
  else if n = itemActionDroopCrit ∨ n = itemActionSupplyLost then s.reform
  else s

/-- RAIL_ENABLE acts on every write (R90); every other item holds its value and its block acts. -/
def State.applyItem (n v : Nat) (s : State) : State :=
  if n = itemRailEnable then (if v = 0 then s.disableRail else s.enableRail)
  else (s.setItem n v).itemWritten n

/-- What a write gives: its status, the value returned, and the state after it (R165). -/
structure WriteResult where
  status : Status
  value  : Half
  state  : State

/-- A write, judged by R165. -/
def State.writeItem (n : Nat) (v : Half) (s : State) : WriteResult :=
  match itemSpec s.straps n with
  | none => ⟨.noItem, 0, s⟩
  | some i =>
    if i.applies s.role then
      if n = itemIdent then ⟨.refused, s.itemValue n, s⟩
      else
        let h := s.heldValue n i v.toNat
        let s1 := s.applyItem n h
        ⟨if h = v.toNat then .ok else .clamped, s1.itemValue n, s1⟩
    else ⟨.notApplicable, 0, s⟩

/-! ## Commands -/

/-- ITEM_READ (R165, R176). -/
def execItemRead (item : Byte) (s : State) : Outcome State Fault Refusal :=
  onRequest s (fun s =>
    let r := s.readItem item.toNat
    s.withReply r.1 (leBytes 2 r.2.toNat))

/-- ITEM_WRITE (R165, R176). -/
def execItemWrite (item : Byte) (value : Half) (s : State) : Outcome State Fault Refusal :=
  onRequest s (fun s =>
    let w := s.writeItem item.toNat value
    w.state.withReply w.status (leBytes 2 w.value.toNat))

end Sys2Proof.Machine
end

