-- ==== Sys2Proof/Machine/Reset.lean ====
section
/-! DEFINITION. Full reset and restart (section 5.7 of 00_scope.md): the values every block starts with after either
(R25, R28, R29, R41, R45, R50, R51, R54, R56, R69, R70, R79, R87, R91, R108, R116, R130, R142, R147, R163, R164, R173,
R182), what a restart keeps, and the loss of rail power (R92). -/

namespace Sys2Proof.Machine

open Host (Outcome)

/-- What a restart keeps and a full reset sets to its first values. -/
structure Kept where
  straps      : Straps
  items       : List Half
  tether      : Nat
  slew        : Nat
  slewFrom    : Nat
  round       : Half
  motionSeq   : Half
  playSeq     : Half
  micSeq      : Half
  remote      : Remote
  sticky      : BitVec 28
  listenOnly  : Bool
  counters    : Counters
  deriving DecidableEq, Repr

/-! ## The blocks after either reset -/

/-- The ceiling the CEILING strap and LANE_CEILING give; a reset clears the lowered ceiling (R66, R108). -/
def Kept.ceiling (k : Kept) : Grade :=
  lowerGrade k.straps.ceiling (gradeOfNum ((k.items.getD itemLaneCeiling 0).toNat))

/-- R25: an empty queue, the courtesy flag clear, the quiet time at zero, the receiver hunting. -/
def bootRail (now : Nat) (carrierIn : Bool) : Rail :=
  { rx := .hunting, queue := [], sending := none, nextId := 0, stuck := none, courtesy := false, carrierIn := carrierIn,
    quietFrom := now }

/-- R41: the self entry alone, without optional fields but those the owning blocks write as they start: the mode set and the
lane summary of a picture-path node (R69, R70, R108). -/
def bootSelf (k : Kept) (modeSet : List Grade) : Entry :=
  { addr := k.straps.addr, role := some k.straps.role, lastHeard := none
    summary := if atPicturePath k.straps.role then some (laneSummary AgreeState.halted.code 0) else none
    offer := none, claim := none
    modeSet := if atPicturePath k.straps.role then some ⟨k.round, modeSet.map gradeCode, gradeCode k.ceiling⟩ else none
    confirm := none, anchor := none }

/-- R28, R29, R32: JOINING with its 250 ms timer, or LISTEN-ONLY without one. -/
def bootRoster (k : Kept) (now : Nat) (modeSet : List Grade) : Roster :=
  { join := if k.listenOnly then .listenOnly else .joining
    joinFrom := if k.listenOnly then none else some now
    beaconFrom := none, self := bootSelf k modeSet, peers := [] }

/-- R69 and R70: {G1} at a RELAY or HEADSET, every grade up to the effective ceiling at a SOURCE, none at a BATTERY. -/
def bootModeSet (k : Kept) : List Grade :=
  match k.straps.role with
  | .source => gradesUpTo k.ceiling
  | .battery => []
  | _ => [.g1]

/-- R50, R51: RAIL_ON at a SOURCE; at a BATTERY the state the two inputs give. -/
def bootSupplier (r : Role) (ready present : Bool) : Option SupplierState :=
  match r with
  | .source => some .railOn
  | .battery => some (supplierFromInputs ready present)
  | _ => none

/-- R87 and R91: the power manager's starting values; the supply grace of a RELAY or HEADSET starts (R86). -/
def bootPower (k : Kept) (now : Nat) (ready present : Bool) : Power :=
  { supplier := bootSupplier k.straps.role ready present, offerFrom := none, claimFrom := none, supplyReady := ready,
    railPresent := present, holdFrom := none, fallSeen := false, allowances := none, droop := 0, goodRun := 0,
    lastLow := false, measureFrom := if atPicturePath k.straps.role then some now else none, critActive := false,
    clearFrom := none, lostActive := false, graceFrom := if atTetherPowered k.straps.role then some now else none,
    lastOverdraw := ⟨0, 0⟩, lastTrip := ⟨0, 0⟩, lastCritical := ⟨0, 0⟩, modeSet := bootModeSet k,
    modeCeiling := k.ceiling, delayG2 := .idle, delayG3 := .idle, delayG4 := .idle, trip := .none, tripHistory := [],
    overrun := 0, overdrawAt := none }

/-- R79: every load at its floor level, the cap in force the floor. A SOURCE and a BATTERY have no loads. -/
def bootLoads (r : Role) : Loads :=
  if atTetherPowered r then
    { cap := floorCost r, current := floorLevels r 1, target := floorLevels r 1, panelFrom := none, audioFrom := none,
      motionFrom := none }
  else
    { cap := 0, current := ⟨0, 0, 0, 0⟩, target := ⟨0, 0, 0, 0⟩, panelFrom := none, audioFrom := none,
      motionFrom := none }

/-- R108: HALTED, NOT_JOINED or LISTEN_ONLY; only the round is kept at a restart. -/
def bootAgree (k : Kept) : Agree :=
  { state := .halted, round := k.round, chosen := none,
    reason := if k.listenOnly && atPicturePath k.straps.role then .listenOnly else .notJoined, stepFrom := none,
    failures := 0, laneFaults := 0, baseForcedFrom := none, lowered := none, lastRun := none, listened := false }

/-- R116: every transmitter and receiver OFF, no grade ordered, no doze state. -/
def bootLanes : LaneEngine :=
  { downTx := .idle, upTx := .idle, downRx := .off, upRx := .off, grade := none, dozing := false, dozeFrom := none }

/-- R130. -/
def bootSliceSource : SliceSource := { schedule := none, sendQueue := [], submission := none, frames := [], answer := 0 }

def bootSliceHeadset : SliceHeadset :=
  { slots := List.replicate 12 ⟨none, none⟩, anchor := none, frame := 0, index := 0, notFresh := 0,
    panel := List.replicate 12 none }

/-- R142: at a HEADSET the sensor port writes the setting of level 2 and the fallback timer runs from zero. -/
def bootMotionHeadset (k : Kept) (now : Nat) : MotionHeadset :=
  { port := if k.straps.role = .headset then .setting else .off
    writing := if k.straps.role = .headset then 2 else 0
    again := false, rateLevel := none, rateChanged := false, reading := none, sequence := k.motionSeq, stallFrom := none,
    stalled := false, lastRecord := none
    fallbackFrom := if k.straps.role = .headset then some now else none }

/-- R163. -/
def bootAudioSource (k : Kept) : AudioSource :=
  { builder := [], sequence := k.playSeq, micQueue := [], micOut := 0, micTime := none, micTaken := none }

def bootAudioHeadset (k : Kept) : AudioHeadset :=
  { queue := [], lastSeq := none, output := .waiting, lastFrame := none, slipFrom := none, twice := false,
    underrun := false, frameOut := (0, 0), outTaken := none, micBuild := [], micStart := 0, micSequence := k.micSeq,
    capTaken := none, down := false }

/-- The node at the end of a reset, before the power manager's settling. What lies outside the die (the local time, the
input levels) is as it stands; a reply not clocked out is lost, and the host's selection goes on (R175). That a full reset taken while
the host's 50 ms restart timer runs stops the timer is DESIGN CHOICE (assumption 30). -/
def bootBlocks (k : Kept) (s : State) : State :=
  { powered := true
    straps := k.straps
    clock := { now := s.clock.now, tether := k.tether, slew := k.slew, slewFrom := k.slewFrom }
    rail := bootRail s.clock.now s.rail.carrierIn
    roster := bootRoster k s.clock.now (bootModeSet k)
    power := bootPower k s.clock.now s.power.supplyReady s.power.railPresent
    loads := bootLoads k.straps.role
    agree := bootAgree k
    lanes := bootLanes
    sliceSource := bootSliceSource
    sliceHeadset := bootSliceHeadset
    motionHeadset := bootMotionHeadset k s.clock.now
    motionSource := { queue := [], newest := none }
    audioSource := bootAudioSource k
    audioHeadset := bootAudioHeadset k
    remote := k.remote
    host := { sticky := k.sticky, reply := [], clocked := s.host.clocked, taken := s.host.taken, cut := s.host.cutReply,
              restartFrom := none }
    counters := k.counters
    items := k.items
    freeCount := s.freeCount
    pending := s.pending }

/-- The settling at the end of a reset writes the self entry, and is no change (R56). -/
def State.settleAtReset (s : State) : State :=
  s.mapSelf (fun e => { e with offer := s.ownOffer, claim := s.ownClaim })

def State.boot (k : Kept) (s : State) : State := (bootBlocks k s).settleAtReset

/-! ## Full reset -/

def zeroCounters : Counters :=
  { rail := List.replicate 11 0, lane := List.replicate 5 0, picture := List.replicate 7 0, motion := List.replicate 6 0,
    audio := List.replicate 8 0 }

/-- R173: IDLE, tag 0, no restart pending, STALE_ANSWER 0. -/
def freshRemote : Remote :=
  { state := .idle, target := 0, tag := 0, operation := 0, item := 0, value := 0, answerStatus := 0, answerValue := 0,
    deadlineFrom := none, stale := 0, restartFrom := none, restartAnswer := none }

/-- Full reset keeps nothing; an ADDR strap of 0 is a strap fault (R29, R182). -/
def freshKept (st : Straps) : Kept :=
  { straps := st, items := defaultItems st, tether := 0, slew := 0, slewFrom := 0, round := 0, motionSeq := 0,
    playSeq := 0, micSeq := 0, remote := freshRemote,
    sticky := if st.addr = 0 then Flag.strapFault.bit else 0, listenOnly := decide (st.addr = 0),
    counters := zeroCounters }

/-- The state at the end of a full reset with the given strap levels (R26). -/
def State.fullReset (pins : BitVec 11) (s : State) : State := s.boot (freshKept (decodeStraps pins))

/-! ## Restart -/

/-- R173: an outstanding request ends with RESTARTED; a final result, the tag and STALE_ANSWER are kept. -/
def Remote.afterRestart (r : Remote) : Remote :=
  { r with
    state := match r.state with | .queued => .restarted | .awaiting => .restarted | st => st
    deadlineFrom := none, restartFrom := none, restartAnswer := none }

/-- The flags a restart leaves set: STRAP_FAULT, ADDRESS_CLASH and ROLE_CLASH (R182). -/
def restartFlags : BitVec 28 := Flag.strapFault.bit ||| Flag.addressClash.bit ||| Flag.roleClash.bit

def State.keptAtRestart (s : State) : Kept :=
  { straps := s.straps, items := s.items, tether := s.clock.tether, slew := s.clock.slew, slewFrom := s.clock.slewFrom,
    round := s.agree.round, motionSeq := s.motionHeadset.sequence, playSeq := s.audioSource.sequence,
    micSeq := s.audioHeadset.micSequence, remote := s.remote.afterRestart, sticky := s.host.sticky &&& restartFlags,
    listenOnly := decide (s.roster.join = .listenOnly), counters := s.counters }

/-- The node restarts once; every block takes its restart values (R168, R177). -/
def State.restart (s : State) : State := s.boot s.keptAtRestart

/-! ## Commands -/

/-- FULL_RESET (R26, R182): power-on, the RESET pin or the return of rail power; the only command a node without power
takes. -/
def execFullReset (straps : BitVec 11) (s : State) : Outcome State Fault Refusal := .next (s.fullReset straps)

/-- RESTART_TIMER_EXPIRY (R177): 50 ms after the RESTART request. -/
def execRestartTimerExpiry (s : State) : Outcome State Fault Refusal :=
  whilePowered s (fun s => runOut s.host.restartFrom hostRestartTime s (fun _ s => s.restart))

/-- REMOTE_RESTART_TIMER_EXPIRY (R168): 200 ms after the served RESTART. -/
def execRemoteRestartTimerExpiry (s : State) : Outcome State Fault Refusal :=
  whilePowered s (fun s => runOut s.remote.restartFrom remoteRestartTime s (fun _ s => s.restart))

/-- Without power nothing is driven: no keying, no lane signal, a dark panel, silence, no reply. -/
def State.powerOff (s : State) : State :=
  { s with
    powered := false
    rail := { s.rail with sending := none, stuck := none }
    lanes := bootLanes
    sliceHeadset := { s.sliceHeadset with panel := List.replicate 12 none }
    audioHeadset := { s.audioHeadset with frameOut := (0, 0) }
    host := { s.host with reply := [], cut := s.host.cutReply } }

/-- RAIL_POWER_LOSS (R92): a RELAY or HEADSET loses its power until the full reset of its return; a SOURCE and a BATTERY keep
running. -/
def execRailPowerLoss (s : State) : Outcome State Fault Refusal :=
  whilePowered s (fun s => if s.tetherPowered then s.powerOff else s)

end Sys2Proof.Machine
end

