-- ==== Sys2Proof/Machine/Remote.lean ====
section
/-! DEFINITION. The remote request controller (chapter 9): the target side, which serves ASKs (R166 to R168), and the
requester side with its deadline, its result and STALE_ANSWER (R169 to R174). -/

namespace Sys2Proof.Machine

open Host (Outcome)

/-! ## Target side -/

/-- What a served operation gives: the ANSWER's status and value, and the state after it. -/
structure Served where
  status : Status
  value  : Half
  state  : State

/-- One counter of a group is read and cleared (R2, R166); a non-zero high byte of the index lies outside every group
(section 11.2). -/
def State.readCounter (group index : Nat) (s : State) : Served :=
  match (s.counters.group group)[index]? with
  | none => ⟨.noItem, 0, s⟩
  | some v =>
    ⟨.ok, BitVec.ofNat 16 v,
      { s with counters := s.counters.setGroup group ((s.counters.group group).set index 0) }⟩

/-- The restart becomes pending, and its 200 ms timer starts (R168). -/
def State.setRestartPending (s : State) : State :=
  { s with remote := { s.remote with restartFrom := some s.clock.now } }

/-- The operations of R166 by their codes. -/
def State.serveOperation (op item : Byte) (value : Half) (s : State) : Served :=
  if op = 1 then ⟨(s.readItem item.toNat).1, (s.readItem item.toNat).2, s⟩
  else if op = 2 then
    let w := s.writeItem item.toNat value
    ⟨w.status, w.value, w.state⟩
  else if op = 3 then s.readCounter item.toNat value.toNat
  else if op = 4 then ⟨.ok, 0, s.setRestartPending⟩
  else ⟨.unknown, 0, s⟩

def answerPayload (requester : Addr) (tag : Byte) (status : Status) (value : Half) : List Byte :=
  [BitVec.ofNat 8 requester.toNat, tag, status.code] ++ leBytes 2 value.toNat

/-- The entry of the ANSWER just offered, when the queue took it: the restart waits for its completion (R168). -/
def State.noteRestartAnswer (before : Nat) (s : State) : State :=
  if s.rail.nextId = before then s
  else { s with remote := { s.remote with restartAnswer := some before } }

/-- An ASK is served and its ANSWER offered in the same event (R166 to R168). -/
def State.serveAsk (sender : Addr) (p : List Byte) (s : State) : State :=
  let op := byteAt p 2
  let r := s.serveOperation op (byteAt p 3) (halfAt p 4)
  let s1 := r.state.offerBurst .answer (answerPayload sender (byteAt p 1) r.status r.value)
  if op = 4 then s1.noteRestartAnswer r.state.rail.nextId else s1

/-- An accepted ASK: served when aimed at this node, unless the node is listen-only, the sender's address is its own or a
remote restart is pending (R167). -/
def State.askArrives (sender : Addr) (p : List Byte) (s : State) : State :=
  if (byteAt p 0).toNat = s.straps.addr.toNat ∧ s.roster.join ≠ .listenOnly ∧ sender ≠ s.straps.addr ∧
      s.remote.restartFrom = none
  then s.serveAsk sender p else s

/-! ## Requester side -/

/-- A request is outstanding while QUEUED or AWAITING. -/
def Remote.outstanding (r : Remote) : Bool := decide (r.state = .queued ∨ r.state = .awaiting)

/-- An ANSWER matches the request awaited (R171). -/
def Remote.matched (r : Remote) (sender : Addr) (p : List Byte) : Bool :=
  decide (r.state = .awaiting) && decide (sender.toNat = r.target.toNat) && decide (byteAt p 1 = r.tag)

/-- An accepted ANSWER: another requester's is ignored, a matching one ends the request with DONE, any other addressed to
this node is stale (R171, R174). That requester address 0 is the address of a strap-faulted node is DESIGN CHOICE
(assumption 42). -/
def State.answerArrives (sender : Addr) (p : List Byte) (s : State) : State :=
  if (byteAt p 0).toNat = s.straps.addr.toNat then
    if s.remote.matched sender p then
      ({ s with remote := { s.remote with answerStatus := byteAt p 2, answerValue := halfAt p 3 } } : State).endRemote .done
    else { s with remote := { s.remote with stale := saturate (s.remote.stale + 1) } }
  else s

/-- The ASK has been sent whole: AWAITING, with the deadline running (R170). -/
def State.askSent (s : State) : State :=
  if s.remote.state = .queued then
    { s with remote := { s.remote with state := .awaiting, deadlineFrom := some s.clock.now } }
  else s

def askPayload (r : Remote) : List Byte := [r.target, r.tag, r.operation, r.item] ++ leBytes 2 r.value.toNat

/-- The controller takes the request: the tag rises, a held result is discarded (R169). -/
def Remote.take (target operation item : Byte) (value : Half) (r : Remote) : Remote :=
  { r with state := .queued, target := target, tag := r.tag + 1, operation := operation, item := item, value := value,
           answerStatus := 0, answerValue := 0, deadlineFrom := none }

/-- The request is taken and its ASK offered; a queue that refuses it ends it at once (R15, R169). -/
def State.startRemote (target operation item : Byte) (value : Half) (s : State) : State :=
  let r := s.remote.take target operation item value
  ({ s with remote := r } : State).offerBurst .ask (askPayload r)

/-- The roster holds an entry for a target address; 0 and addresses above 7 never have one (R169). -/
def Roster.hasPeer (r : Roster) (target : Byte) : Bool := r.peers.any (fun e => e.addr.toNat == target.toNat)

/-! ## Commands -/

/-- REMOTE_START (R169): the first case that applies gives the reply. -/
def execRemoteStart (target operation item : Byte) (value : Half) (s : State) : Outcome State Fault Refusal :=
  onRequest s (fun s =>
    if s.roster.join = .listenOnly then s.withReply .listenOnly []
    else if s.remote.outstanding then s.withReply .busy []
    else if target.toNat = s.straps.addr.toNat then s.withReply .self []
    else if s.roster.hasPeer target then (s.startRemote target operation item value).withReply .pending []
    else s.withReply .noPeer [])

/-- DEADLINE_EXPIRY (R171): 300 ms after the ASK's last character the request ends with TIMEOUT. -/
def execDeadlineExpiry (s : State) : Outcome State Fault Refusal :=
  whilePowered s (fun s => runOut s.remote.deadlineFrom deadlineTime s (fun _ s => s.endRemote .timeout))

/-- The status a REMOTE_RESULT reply begins with (R172). -/
def RemoteState.status : RemoteState → Status
  | .idle => .idle
  | .queued => .pending
  | .awaiting => .pending
  | .done => .done
  | .timeout => .timeout
  | .giveUp => .giveUp
  | .restarted => .restarted

/-- The fields after the status: the request's, with DONE also the ANSWER's, and STALE_ANSWER (section 11.4); a field the
result does not have is a free value, of the draw `n` (assumption 6). -/
def Remote.resultFields (n : Nat) (r : Remote) : List Byte :=
  (if r.state = .idle then [0, 1, 2].map (Config.unstatedField n) else [r.target, r.tag, r.operation])
    ++ (if r.state = .done then r.answerStatus :: leBytes 2 r.answerValue.toNat
        else [3, 4, 5].map (Config.unstatedField n))
    ++ leBytes 2 r.stale

/-- A final result is read once: the state becomes IDLE, and STALE_ANSWER is cleared by every read (R172, R174). -/
def Remote.afterResult (r : Remote) : Remote :=
  { r with state := if r.outstanding then r.state else .idle, stale := 0 }

/-- REMOTE_RESULT (R172). -/
def execRemoteResult (s : State) : Outcome State Fault Refusal :=
  onRequest s (fun s =>
    ({ s with remote := s.remote.afterResult, freeCount := s.freeCount + 1 } : State).withReply s.remote.state.status
      (s.remote.resultFields s.freeCount))

end Sys2Proof.Machine
end

