-- ==== Sys2Proof/Machine/Roster.lean ====
section
/-! DEFINITION. The roster and tether clock (chapter 2): listen-only (R29 to R32), entries created, updated and removed
(R34 to R39, R44), what each change is told to (R37), the tether clock's steps and slew (R47, R48), and what the power manager
does with a NOTICE (R83). -/

namespace Sys2Proof.Machine

open Host (Outcome)

/-- An accepted burst as the rail channel controller hands it on, with its latched times (R7, R12). -/
structure Heard where
  sender  : Addr
  kind    : BurstKind
  payload : List Byte
  tether  : Nat
  local'  : Nat
  deriving DecidableEq, Repr

/-! ## Listen-only (R16, R30, R31) -/

/-- The sending is stopped and the queue emptied; no CLASH is counted (R16). -/
def State.silence (s : State) : State :=
  let s1 := if s.rail.sending.isSome then s.stopSending else s
  ({ s1 with rail := { s1.rail with queue := [], stuck := none } } : State).askGivenUp

/-- The join state becomes LISTEN-ONLY: the join timer and every period stop, the transmit queue is silenced, and the
agreement controller halts (R30, R43, R57, R107). -/
def State.enterListenOnly (s : State) : State :=
  let s1 : State := { s with
    roster := { s.roster with join := .listenOnly, joinFrom := none, beaconFrom := none }
    power := { s.power with offerFrom := none, claimFrom := none } }
  if s1.onPath then s1.silence.halt .listenOnly else s1.silence

/-- An address or role clash: its flag is set; a node already listen-only is otherwise unchanged (R30, R31). -/
def State.clashFound (f : Flag) (s : State) : State :=
  if s.roster.join = .listenOnly then s.raise f else (s.raise f).enterListenOnly

/-! ## Entries (R34, R36, R44) -/

def offerPermitted : Option Role → Bool
  | none => true
  | some r => atSupplier r

def claimPermitted : Option Role → Bool
  | none => true
  | some .source => false
  | some _ => true

def modeSetPermitted : Option Role → Bool
  | none => true
  | some r => atPicturePath r

def anchorPermitted : Option Role → Bool
  | some .headset => true
  | _ => false

/-- The role of an entry is set; what the new role does not permit goes (R34). -/
def Entry.setRole (r : Role) (e : Entry) : Entry :=
  { e with
    role := some r
    offer := if offerPermitted (some r) then e.offer else none
    claim := if claimPermitted (some r) then e.claim else none
    modeSet := if modeSetPermitted (some r) then e.modeSet else none
    confirm := if modeSetPermitted (some r) then e.confirm else none
    anchor := if anchorPermitted (some r) then e.anchor else none }

/-- The role of a BEACON of usable form: one of the four, with the length that fits it (R44). -/
def beaconRole (p : List Byte) : Option Role :=
  match roleOfCode (byteAt p 4) with
  | some .headset => if p.length = 11 then some .headset else none
  | some r => if p.length = 6 then some r else none
  | none => none

/-- The anchor a HEADSET BEACON leaves in its entry (R44). A period code of 3 to 255 is taken as NONE (R183). -/
def beaconAnchor (p : List Byte) (latched : Nat) (old : Option Anchor) : Option Anchor :=
  let code := byteAt p 10
  if code = 1 ∨ code = 2 then
    let field := fieldAt p 6 4
    match old with
    | some a =>
      if a.time % 2 ^ 32 = field then some ⟨a.time, code == 2⟩ else some ⟨rebuildTether latched field, code == 2⟩
    | none => some ⟨rebuildTether latched field, code == 2⟩
  else none

/-- The fields a BEACON of usable form sets. -/
def Entry.takeBeacon (r : Role) (p : List Byte) (latched : Nat) (e : Entry) : Entry :=
  let e1 := { e.setRole r with summary := some (byteAt p 5) }
  if r = .headset then { e1 with anchor := beaconAnchor p latched e1.anchor } else e1

/-- Each kind updates the fields it carries, where the entry's role permits them (R34, R36). -/
def Entry.take (h : Heard) (e : Entry) : Entry :=
  let p := h.payload
  match h.kind with
  | .beacon => match beaconRole p with | some r => e.takeBeacon r p h.tether | none => e
  | .offer => if offerPermitted e.role then { e with offer := some ⟨fieldAt p 0 2, byteAt p 2⟩ } else e
  | .claim =>
    if claimPermitted e.role then
      { e with claim := some ⟨fieldAt p 0 2, fieldAt p 2 2, (byteAt p 4).toNat⟩ }
    else e
  | .modeset =>
    if modeSetPermitted e.role then { e with modeSet := some ⟨halfAt p 0, p.drop 3, byteAt p 2⟩ } else e
  | .confirm => if modeSetPermitted e.role then { e with confirm := some ⟨halfAt p 0, byteAt p 2⟩ } else e
  | _ => e

/-- A new entry: role UNKNOWN and no optional fields (R35). -/
def newEntry (a : Addr) : Entry :=
  { addr := a, role := none, lastHeard := none, summary := none, offer := none, claim := none, modeSet := none,
    confirm := none, anchor := none }

/-- An entry put in its place by address, over the one it replaces (R33). -/
def putEntry (e : Entry) : List Entry → List Entry
  | [] => [e]
  | x :: rest =>
    if e.addr.toNat < x.addr.toNat then e :: x :: rest
    else if e.addr = x.addr then e :: rest
    else x :: putEntry e rest

def State.setPeers (l : List Entry) (s : State) : State := { s with roster := { s.roster with peers := l } }

/-! ## What a change is told to (R37) -/

/-- The power manager is told of an offer or claim changed, added or removed. -/
def State.tellPower (changed : Bool) (s : State) : State := if changed then s.powerTold else s

/-- The agreement controller is told of an entry added to the path or removed from it (R93). -/
def State.tellPath (changed : Bool) (s : State) : State := if changed then s.pathChanged else s

def optionOffer (o : Option Entry) : Option Offer := match o with | some e => e.offer | none => none

def optionClaim (o : Option Entry) : Option Claim := match o with | some e => e.claim | none => none

def optionOnPath (o : Option Entry) : Bool := match o with | some e => e.onPath | none => false

/-- A change of one entry, told to the power manager, then the agreement controller, then at a SOURCE the slice controller,
each once and only where it is concerned. -/
def State.tellChange (old new : Option Entry) (s : State) : State :=
  ((s.tellPower (optionOffer old != optionOffer new || optionClaim old != optionClaim new)).tellPath
    (optionOnPath old != optionOnPath new)).syncSchedule

/-- An entry is removed: PEER_LEFT, and the removal is told (R38, R39). -/
def State.removeEntry (e : Entry) (s : State) : State :=
  ((s.setPeers (s.roster.peers.filter (fun x => x.addr != e.addr))).raise .peerLeft).tellChange (some e) none

/-- The round of a MODESET or CONFIRM the entry has stored, for the agreement controller (R97). -/
def State.tellRound (h : Heard) (e : Entry) (s : State) : State :=
  match h.kind with
  | .modeset => if modeSetPermitted e.role then s.roundHeard false (halfAt h.payload 0) else s
  | .confirm => if modeSetPermitted e.role then s.roundHeard true (halfAt h.payload 0) else s
  | _ => s

/-- The burst updates the sender's entry (R35, R36). -/
def State.updateEntry (h : Heard) (old : Option Entry) (s : State) : State :=
  let e0 := match old with | some e => e | none => newEntry h.sender
  let e1 := Entry.take h { e0 with lastHeard := some h.local' }
  ((s.setPeers (putEntry e1 s.roster.peers)).tellChange old (some e1)).tellRound h e1

/-- The roster takes a burst from a peer address (R35); a NOTICE LEAVING removes the entry and creates none (R39), and a
seventh peer of a strap-faulted node is not entered. -/
def State.rosterTakes (h : Heard) (s : State) : State :=
  let old := s.roster.find h.sender
  if h.kind = .notice ∧ byteAt h.payload 0 = noticeLeaving then
    match old with
    | some e => s.removeEntry e
    | none => s
  else
    match old with
    | some e => s.updateEntry h (some e)
    | none => if 6 ≤ s.roster.peers.length then s else (s.raise .peerJoined).updateEntry h none

/-! ## The tether clock (R47 to R49) -/

/-- A step: the current value rises by the offset, slewing ends, and the HEADSET's slice and audio controllers are told; the
step changes nothing held by a SOURCE's (R47, R49, R122). -/
def State.stepClock (offset : Nat) (s : State) : State :=
  let s1 : State := { s with clock := { s.clock with tether := min (s.clock.tether + offset) tetherMax, slew := 0 } }
  if s.role = .headset then (s1.scanStep offset).audioStep else s1

/-- The pending slew becomes the larger of its value and the offset; its spacing runs from the rise from 0 (R47, R48). -/
def State.raiseSlew (offset : Nat) (s : State) : State :=
  { s with clock := { s.clock with
      slew := max s.clock.slew offset
      slewFrom := if s.clock.slew = 0 then s.clock.now else s.clock.slewFrom } }

/-- The stamp of a usable BEACON against the burst's latched tether time (R47). -/
def State.clockHears (latched field : Nat) (s : State) : State :=
  let stamp := rebuildTether latched field
  if latched + 64 ≤ stamp then s.stepClock (stamp - latched)
  else if latched < stamp then s.raiseSlew (stamp - latched)
  else s

/-! ## NOTICEs at the power manager (R83) -/

/-- A NOTICE TRIP at a BATTERY: TRIP_HOLD, its timer afresh, 'fall seen' cleared (R51). -/
def State.enterTripHold (s : State) : State :=
  (({ s with power := { s.power with holdFrom := some s.clock.now, fallSeen := false } } : State).setSupplier
    .tripHold).settleOffer

def State.noticeArrives (sender : Addr) (kind detail : Byte) (s : State) : State :=
  let r : NoticeRecord := ⟨sender, detail⟩
  if kind = noticeOverdraw then
    let s1 : State := { s with power := { s.power with lastOverdraw := r } }
    if s.tetherPowered then ({ s1 with power := s1.power.raiseDroop } : State).reform else s1
  else if kind = noticeTrip then
    let s1 := ({ s with power := { s.power with lastTrip := r } } : State).raise .tripped
    if s.role = .battery then s1.enterTripHold else s1
  else if kind = noticeCritical then
    ({ s with power := { s.power with lastCritical := r } } : State).raise .peerCritical
  else s

/-! ## An accepted burst (R12) -/

/-- The sender address is the node's own; a strap-faulted node has none (R30, R35). -/
def State.ownAddress (h : Heard) (s : State) : Bool := decide (h.sender ≠ 0 ∧ h.sender = s.straps.addr)

/-- A role clash: a SOURCE hears a usable BEACON of a SOURCE at a lower address (R31). -/
def State.roleClash (h : Heard) (s : State) : Bool :=
  decide (s.role = .source) && decide (h.kind = .beacon) && decide (beaconRole h.payload = some .source) &&
    decide (h.sender.toNat < s.straps.addr.toNat)

/-- The roster and tether clock take the burst: clash first, then the entry, then the clock (R30, R31, R35, R47). -/
def State.rosterHears (h : Heard) (s : State) : State :=
  if s.ownAddress h then s.clashFound .addressClash
  else
    let s1 := if s.roleClash h then s.clashFound .roleClash else s
    if h.sender = 0 then s1
    else
      let s2 := s1.rosterTakes h
      if h.kind = .beacon ∧ (beaconRole h.payload).isSome then s2.clockHears h.tether (fieldAt h.payload 0 4) else s2

/-- The content of a burst whose kind R6 hands past the roster. -/
def State.contentArrives (h : Heard) (s : State) : State :=
  match h.kind with
  | .notice => s.noticeArrives h.sender (byteAt h.payload 0) (byteAt h.payload 1)
  | .ask => s.askArrives h.sender h.payload
  | .answer => s.answerArrives h.sender h.payload
  | .motion =>
    if s.role = .source then
      s.recordArrives (motionOfBytes h.payload (rebuildTether h.tether (fieldAt h.payload 2 4)))
    else s
  | _ => s

/-- A burst accepted while the node was not sending: counted, then handed to the roster and tether clock and to the blocks of
its kind (R12). -/
def State.burstAccepted (h : Heard) (s : State) : State := ((s.bump cReceived).rosterHears h).contentArrives h

/-! ## BEACONs offered (R43) -/

/-- The payload as it stands when the BEACON is offered; the stamp is written when the burst is framed (R19). -/
def State.beaconPayload (s : State) : List Byte :=
  let base := [0, 0, 0, 0, s.role.code, s.roster.self.summary.getD noLane]
  if s.role = .headset then
    match s.roster.self.anchor with
    | some a => base ++ leBytes 4 a.time ++ [periodCode a.period120]
    | none => base ++ leBytes 4 0 ++ [0]
  else base

def State.offerBeacon (s : State) : State := s.offerBurst .beacon s.beaconPayload

/-! ## Commands -/

/-- PEER_LEFT (R38): 350 ms have passed since the peer was last heard. -/
def execPeerLeft (peer : Addr) (s : State) : Outcome State Fault Refusal :=
  whilePowered s (fun s =>
    match s.roster.find peer with
    | none => s
    | some e => runOut e.lastHeard agingTime s (fun _ s => s.removeEntry e))

/-- BEACON_PERIOD (R43): every 100 ms while ACTIVE. -/
def execBeaconPeriod (s : State) : Outcome State Fault Refusal :=
  whilePowered s (fun s =>
    runOut s.roster.beaconFrom beaconTime s (fun due s =>
      ({ s with roster := { s.roster with beaconFrom := some due } } : State).offerBeacon))

/-- SLEW_TICK (R48): 1,000 µs of slewing have passed. -/
def execSlewTick (s : State) : Outcome State Fault Refusal :=
  whilePowered s (fun s =>
    if s.clock.slew = 0 then s
    else
      runOut (some s.clock.slewFrom) slewTime s (fun due s =>
        { s with clock := { s.clock with
            tether := min (s.clock.tether + 1) tetherMax, slew := s.clock.slew - 1, slewFrom := due } }))

/-- The node becomes ACTIVE (R28): BEACON, then OFFER and CLAIM, then the opening of a round; the hold is lifted. That a BATTERY's
OFFER enters the queue before its CLAIM is DESIGN CHOICE (assumption 38). -/
def State.becomeActive (s : State) : State :=
  let s1 := ({ s with roster := { s.roster with
      join := .active, joinFrom := none, beaconFrom := some s.clock.now } } : State).offerBeacon
  let s2 := s1.announceOffer.announceClaim
  (if s2.onPath then s2.openRound .joinDone else s2).syncHead

/-- JOIN_TIMER_EXPIRY (R28). -/
def execJoinTimerExpiry (s : State) : Outcome State Fault Refusal :=
  whilePowered s (fun s => runOut s.roster.joinFrom joinTime s (fun _ s => s.becomeActive))

/-- The presence byte of a roster entry (section 11.4). -/
def Entry.presence (e : Entry) : Byte :=
  byteOfBool e.lastHeard.isSome ||| (byteOfBool e.summary.isSome <<< 1) ||| (byteOfBool e.offer.isSome <<< 2)
    ||| (byteOfBool e.claim.isSome <<< 3) ||| (byteOfBool e.modeSet.isSome <<< 4)
    ||| (byteOfBool e.confirm.isSome <<< 5) ||| (byteOfBool e.anchor.isSome <<< 6)

def optRoleCode : Option Role → Byte
  | none => 0
  | some r => r.code

/-- The grade codes of a mode set in four bytes, absent ones zero. -/
def fourCodes (l : List Byte) : List Byte := [byteAt l 0, byteAt l 1, byteAt l 2, byteAt l 3]

/-- The 32 bytes of an entry in a ROSTER_READ reply; the age in whole ms, rounded down (section 11.4). -/
def entryBytes (now : Nat) (e : Entry) : List Byte :=
  [BitVec.ofNat 8 e.addr.toNat, optRoleCode e.role, e.presence]
    ++ (match e.lastHeard with | some t => leBytes 2 ((now - t) / 1000) | none => leBytes 2 0)
    ++ [e.summary.getD 0]
    ++ (match e.offer with | some o => leBytes 2 o.current ++ [o.state] | none => [0, 0, 0])
    ++ (match e.claim with
        | some c => leBytes 2 c.floor ++ leBytes 2 c.want ++ [BitVec.ofNat 8 c.cls]
        | none => [0, 0, 0, 0, 0])
    ++ (match e.modeSet with
        | some m => leBytes 2 m.round.toNat ++ [BitVec.ofNat 8 m.grades.length] ++ fourCodes m.grades ++ [m.ceiling]
        | none => [0, 0, 0, 0, 0, 0, 0, 0])
    ++ (match e.confirm with | some c => leBytes 2 c.round.toNat ++ [c.grade] | none => [0, 0, 0])
    ++ (match e.anchor with | some a => leBytes 6 a.time ++ [periodCode a.period120] | none => [0, 0, 0, 0, 0, 0, 0])

/-- The fields of a ROSTER_READ reply (R42). -/
def State.rosterFields (s : State) : List Byte :=
  [s.roster.join.code] ++ leBytes 6 s.clock.tether
    ++ [BitVec.ofNat 8 s.clock.slew, BitVec.ofNat 8 s.roster.entries.length]
    ++ s.roster.entries.flatMap (entryBytes s.clock.now)

/-- ROSTER_READ (R42). -/
def execRosterRead (s : State) : Outcome State Fault Refusal :=
  onRequest s (fun s => s.withReply .ok s.rosterFields)

end Sys2Proof.Machine
end

