-- ==== Sys2Proof/Machine/Rail.lean ====
section
/-! DEFINITION. The rail channel controller (chapter 1): receiving (R7 to R12), the quiet wait and the sending of the head
entry (R17 to R19), clashes (R20, R21) and the stuck rule (R22). -/

namespace Sys2Proof.Machine

open Host (Outcome)

def State.setRx (r : Receiver) (s : State) : State := { s with rail := { s.rail with rx := r } }

/-! ## Receiving -/

/-- A burst is abandoned: its counter, and back to hunting (R8 to R10). -/
def State.abandon (c : Counter) (s : State) : State := (s.setRx .hunting).bump c

/-- More than two character times have passed since the last stop bit (R8). -/
def Assembly.gapped (a : Assembly) (now : Nat) : Bool := decide (a.lastEnd + gapTime < now)

/-- A receiver that has waited too long for the next start bit has abandoned its burst (R8). -/
def State.gapIfDue (s : State) : State :=
  match s.rail.rx with
  | .hunting => s
  | .assembling a => if a.gapped s.clock.now then s.abandon cGap else s

/-- The characters a burst must hold before its check is complete: header, length, payload, check (R5). -/
def burstChars (chars : List Byte) : Nat := 4 + (byteAt chars 1).toNat

/-- The payload of a complete burst. -/
def burstPayload (chars : List Byte) : List Byte := (chars.drop 2).take (byteAt chars 1).toNat

/-- The check of a complete burst, low byte first, equals the CRC over what came before it (R5, R11). -/
def checkOk (chars : List Byte) : Bool :=
  let n := 2 + (byteAt chars 1).toNat
  decide (chars.drop n = leBytes 2 (crc16 (chars.take n)).toNat)

/-- A complete burst is judged: check, kind, length, in that order (R11). -/
def State.judgeBurst (a : Assembly) (s : State) : State :=
  if checkOk a.chars then
    match headerKind (byteAt a.chars 0) with
    | none => s.abandon cUnknownKind
    | some k =>
      if k.lengthOk (byteAt a.chars 1).toNat then
        (s.setRx .hunting).burstAccepted
          ⟨headerAddr (byteAt a.chars 0), k, burstPayload a.chars, a.latchedTether, a.latchedLocal⟩
      else s.abandon cBadLength
  else s.abandon cCheckError

/-- A start mark ends the hunt; the courtesy flag is cleared, as the node is not sending (R7, R18). -/
def State.takeStartMark (tether start : Nat) (s : State) : State :=
  ({ s with rail := { s.rail with courtesy := false } } : State).setRx
    (.assembling { chars := [], latchedTether := tether, latchedLocal := start, lastEnd := s.clock.now })

/-- One character more in the burst being assembled (R9 to R11). -/
def State.assemble (a : Assembly) (data : Byte) (s : State) : State :=
  let a1 : Assembly := { a with chars := a.chars ++ [data], lastEnd := s.clock.now }
  if a1.chars.length = 2 ∧ 24 < data.toNat then s.abandon cBadLength
  else if 2 ≤ a1.chars.length ∧ burstChars a1.chars ≤ a1.chars.length then s.judgeBurst a1
  else s.setRx (.assembling a1)

/-- A character whose start bit began at the noted times is taken while the node is not sending (R7, R9). -/
def State.hear (data : Byte) (bad : Bool) (tether start : Nat) (s : State) : State :=
  match s.rail.rx with
  | .hunting => if !bad && decide (data = startMark) then s.takeStartMark tether start else s
  | .assembling a => if bad then s.abandon cGarbled else s.assemble a data

/-! ## Clashes (R20, R21) -/

/-- The clashed entry goes back to the head of its class; a newer waiting burst of a replaceable kind takes its place and its
attempt count. -/
def replaceAfterClash (e : QEntry) (q : List QEntry) : List QEntry :=
  match (if e.kind.replaceable then q.find? (fun x => x.kind == e.kind) else none) with
  | some n => insertFirst { n with attempts := e.attempts } (q.filter (fun x => x.id != n.id))
  | none => insertFirst e q

/-- At the 8th clash the entry is discarded: GIVE_UP (R21). -/
def State.giveUpEntry (e : QEntry) (s : State) : State := (((s.bump cGiveUp).raise .giveUp).tellDiscarded e).syncHead

/-- A clash (R20). -/
def State.clash (x : Sending) (s : State) : State :=
  let s1 := s.stopSending.bump cClash
  let e : QEntry := { x.entry with attempts := x.entry.attempts + 1 }
  let s2 : State := { s1 with rail := { s1.rail with courtesy := false } }
  if 8 ≤ e.attempts then s2.giveUpEntry e
  else ({ s2 with rail := { s2.rail with queue := replaceAfterClash e s2.rail.queue } } : State).syncHead

/-- A character heard while sending is compared with the one sent in its place (R20). -/
def State.compareSent (x : Sending) (data : Byte) (bad : Bool) (s : State) : State :=
  match x.frame[x.heard]? with
  | none => s
  | some sent =>
    if bad = true ∨ data ≠ sent then s.clash x
    else { s with rail := { s.rail with sending := some { x with heard := x.heard + 1 } } }

/-- CHARACTER_RECEIVED (R3, R7, R20): its start bit begins now, and it is taken as its stop bit ends 176 µs later. -/
def execCharacterReceived (data : Byte) (parity stopOk : Bool) (s : State) : Outcome State Fault Refusal :=
  whilePowered s (fun s =>
    match s.rail.sending with
    | some x => (s.advance charTime).compareSent x data (garbled data parity stopOk)
    | none =>
      (s.gapIfDue.advance charTime).hear data (garbled data parity stopOk) s.clock.tether s.clock.now)

/-- CHARACTER_MISSING (R20): a character sent was not heard. -/
def execCharacterMissing (s : State) : Outcome State Fault Refusal :=
  whilePowered s (fun s =>
    match s.rail.sending with
    | some x => s.clash x
    | none => s)

/-- GAP (R8): the local time is the first with more than 352 µs since the last stop bit, or later. -/
def execGap (s : State) : Outcome State Fault Refusal :=
  whilePowered s (fun s =>
    match s.rail.rx with
    | .hunting => s
    | .assembling a => (s.advanceTo (a.lastEnd + gapTime + 1)).abandon cGap)

/-! ## Access and sending (R17 to R19) -/

/-- CARRIER_DETECT (R4, R17): other senders' keying appears or falls. The quiet time runs from the moment no keying is left. -/
def State.carrierChange (present : Bool) (s : State) : State :=
  { s with rail := { s.rail with
      carrierIn := present
      quietFrom := if s.rail.carrierIn && !present && s.rail.sending.isNone then s.clock.now else s.rail.quietFrom } }

/-- A node without power keeps the level for the reset of its return. -/
def execCarrierDetect (present : Bool) (s : State) : Outcome State Fault Refusal := .next (s.carrierChange present)

/-- The tether time at the start bit of the start mark about to be sent, two characters from now, with the slew of 1 µs that may
fall due before it (R19, R48). -/
def State.startMarkTether (s : State) : Nat :=
  min (s.clock.tether + 2 * charTime
    + (if 0 < s.clock.slew ∧ s.clock.slewFrom + slewTime ≤ s.clock.now + 2 * charTime then 1 else 0)) tetherMax

/-- The payload as framed: a BEACON's stamp field is written now (R19). -/
def State.framedPayload (e : QEntry) (s : State) : List Byte :=
  if e.kind = .beacon then leBytes 4 s.startMarkTether ++ e.payload.drop 4 else e.payload

/-- The head entry begins to be sent (R19). -/
def State.beginSending (e : QEntry) (rest : List QEntry) (s : State) : State :=
  { s with rail := { s.rail with
      queue := rest
      sending := some { entry := e, frame := burstFrame s.straps.addr e.kind (s.framedPayload e),
                        startedAt := s.clock.now, heard := 0 }
      stuck := none } }

/-- The local time at which the head's quiet wait runs out (R17). -/
def State.waitEnds (e : QEntry) (s : State) : Nat :=
  s.rail.quietFrom + requiredWait s.straps.addr e.attempts s.rail.courtesy

/-- QUIET_WAIT_EXPIRY (R17): nothing while the transmitter is held, a burst is being sent, carrier is present or no head
waits. -/
def execQuietWaitExpiry (s : State) : Outcome State Fault Refusal :=
  whilePowered s (fun s =>
    if s.txHeld || s.rail.carrier then s
    else
      match s.rail.queue with
      | [] => s
      | e :: rest => (s.advanceTo (s.waitEnds e)).beginSending e rest)

/-- The remote request controller learns that an entry has been sent whole: an ASK starts the deadline (R170), the ANSWER of a
served RESTART restarts the node (R168). -/
def State.entrySent (e : QEntry) (s : State) : State :=
  if e.kind = .ask then s.askSent
  else if s.remote.restartFrom.isSome ∧ s.remote.restartAnswer = some e.id then s.restart
  else s

/-- The sending completes: SENT, courtesy, the next head (R19). -/
def State.completeSending (e : QEntry) (s : State) : State :=
  let s1 := s.stopSending.bump cSent
  (({ s1 with rail := { s1.rail with courtesy := true } } : State).syncHead).entrySent e

/-- SEND_COMPLETE (R19): the stop bit of the second check character ends. -/
def execSendComplete (s : State) : Outcome State Fault Refusal :=
  whilePowered s (fun s =>
    match s.rail.sending with
    | none => s
    | some x => (s.advanceTo (x.startedAt + charTime * x.frame.length)).completeSending x.entry)

/-! ## The stuck rule (R22) -/

/-- The head entry is discarded. -/
def State.dropHead (s : State) : State :=
  match s.rail.queue with
  | [] => s
  | e :: rest =>
    ((({ s with rail := { s.rail with queue := rest } } : State).bump cStuckDrop).raise .mediumStuck).tellDiscarded e
      |>.syncHead

/-- STUCK_DROP (R22): the head's stuck timer reaches 500 ms. -/
def execStuckDrop (s : State) : Outcome State Fault Refusal :=
  whilePowered s (fun s => runOut (s.rail.stuck.map Prod.snd) stuckTime s (fun _ s => s.dropHead))

end Sys2Proof.Machine
end

