-- ==== Sys2Proof/Machine/Supply.lean ====
section
/-! DEFINITION. The power manager's and load planner's commands (chapters 3 and 4): announcing periods (R57), the inputs of a
BATTERY (R51), return delays (R68), raise timers (R77), the rail monitor and the supply faults (R81, R85, R86), overdraw, trip
and latch at a SOURCE (R88 to R90), and ALLOWANCE_READ (R71). -/

namespace Sys2Proof.Machine

open Host (Outcome)

/-- OFFER_CLAIM_PERIOD (R57): 400 ms without an offering of the kind; each period runs separately. -/
def execOfferClaimPeriod (which : Announcement) (s : State) : Outcome State Fault Refusal :=
  whilePowered s (fun s =>
    match which with
    | .offer => runOut s.power.offerFrom announceTime s (fun _ s => s.announceOffer)
    | .claim => runOut s.power.claimFrom announceTime s (fun _ s => s.announceClaim))

/-! ## A BATTERY's inputs (R51) -/

/-- Rail present: the rail at or above 2,000 mV (R51). -/
def railIsPresent (milliVolts : Nat) : Bool := decide (2000 ≤ milliVolts)

/-- Outside TRIP_HOLD the state follows the two inputs. -/
def State.followInputs (s : State) : State :=
  (s.setSupplier (supplierFromInputs s.power.supplyReady s.power.railPresent)).settleOffer

/-- What a change of supply-ready does at a BATTERY with power. -/
def State.readyChanged (s : State) : State :=
  if s.role = .battery then
    if s.power.supplier = some .tripHold then s else s.followInputs
  else s

/-- SUPPLY_READY_CHANGE (R51). The input's level stands whatever the node does. -/
def execSupplyReadyChange (high : Bool) (s : State) : Outcome State Fault Refusal :=
  let s1 : State := { s with power := { s.power with supplyReady := high } }
  whilePowered s1 (fun s => s.readyChanged)

/-- In TRIP_HOLD the rail's fall is noted and its rise after a fall ends the hold (R51). -/
def State.presentChanged (was : Bool) (s : State) : State :=
  if s.role = .battery then
    if s.power.supplier = some .tripHold then
      if was && !s.power.railPresent then { s with power := { s.power with fallSeen := true } }
      else if !was && s.power.railPresent && s.power.fallSeen then s.endTripHold
      else s
    else s.followInputs
  else s

/-- RAIL_PRESENT_CHANGE (R51). -/
def execRailPresentChange (milliVolts : Nat) (s : State) : Outcome State Fault Refusal :=
  let s1 : State := { s with power := { s.power with railPresent := railIsPresent milliVolts } }
  whilePowered s1 (fun t => t.presentChanged s.power.railPresent)

/-- TRIP_HOLD_EXPIRY (R51): 2,000 ms of TRIP_HOLD. -/
def execTripHoldExpiry (s : State) : Outcome State Fault Refusal :=
  whilePowered s (fun s =>
    if s.power.supplier = some .tripHold then
      runOut s.power.holdFrom tripHoldTime s (fun _ s => s.endTripHold)
    else s)

/-! ## Return delays and raises -/

/-- The start of a running return delay. -/
def Delay.start : Delay → Option Nat
  | .running t => some t
  | _ => none

/-- RETURN_DELAY_EXPIRY (R68): the grade has been a candidate for 2,000 ms, and the mode set is formed again. In the event that cancels
the timer the grade joins and leaves at once: the set ends as it began and no change is handed on (assumption 22). -/
def execReturnDelayExpiry (delay : DelayEnd) (s : State) : Outcome State Fault Refusal :=
  whilePowered s (fun s =>
    runOut (s.power.delay delay.grade).start returnTime s (fun _ s =>
      if delay.cancelled then { s with power := s.power.setDelay delay.grade .idle }
      else ({ s with power := s.power.setDelay delay.grade .done } : State).reform))

/-- A load rises by one level; its timer starts again while the target is above it (R77). -/
def State.raiseLoad (k : Load) (s : State) : State :=
  if s.loads.current.get k < s.loads.target.get k then
    let c := s.loads.current.set k (s.loads.current.get k + 1)
    let l := ({ s.loads with current := c } : Loads).setTimer k
      (if c.get k < s.loads.target.get k then some s.clock.now else none)
    ({ s with loads := l } : State).handLevels s.loads.current
  else { s with loads := s.loads.setTimer k none }

/-- RAISE_TIMER_EXPIRY (R77): 50 ms of a load below its target. -/
def execRaiseTimerExpiry (load : Load) (s : State) : Outcome State Fault Refusal :=
  whilePowered s (fun s => runOut (s.loads.timer load) raiseTime s (fun _ s => s.raiseLoad load))

/-! ## The rail monitor (R81, R85) -/

/-- The droop level and good run after a measurement, and the flag of a low one (R81). -/
def State.judgeDroop (low : Bool) (s : State) : State :=
  let p := { (if low then s.power.raiseDroop else s.power.goodMeasure) with lastLow := low }
  if low then ({ s with power := p } : State).raise .droopLow else { s with power := p }

/-- The clear timer of an active DROOP_CRIT fault: cancelled by a low measurement, started by the first good one (R85). -/
def State.judgeClear (low : Bool) (s : State) : State :=
  { s with power := { s.power with
      clearFrom :=
        if low then none
        else if s.power.critActive then
          (match s.power.clearFrom with | some t => some t | none => some s.clock.now)
        else s.power.clearFrom } }

/-- The DROOP_CRIT fault becomes active (R85). -/
def State.judgeCritical (milliVolts : Nat) (s : State) : State :=
  if milliVolts < s.item itemDroopCrit ∧ s.power.critActive = false then
    (({ s with power := { s.power with critActive := true } } : State).raise .droopCrit).offerNotice noticeCritical
      (noticeDetail (milliVolts / 100))
  else s

/-- One measurement of the input voltage (R81, R85). -/
def State.measureRail (milliVolts : Nat) (s : State) : State :=
  let low := decide (milliVolts < s.item itemDroopLow)
  (((s.judgeDroop low).judgeClear low).judgeCritical milliVolts).reform

/-- RAIL_MEASUREMENT (R81): every 10 ms at a RELAY or HEADSET. -/
def execRailMeasurement (milliVolts : Nat) (s : State) : Outcome State Fault Refusal :=
  whilePowered s (fun s =>
    if s.tetherPowered then
      runOut s.power.measureFrom measureTime s (fun due s =>
        ({ s with power := { s.power with measureFrom := some due } } : State).measureRail milliVolts)
    else s)

/-- CLEAR_TIMER_EXPIRY (R85): 1,000 ms at or above DROOP_LOW clear the fault and end its hold. -/
def execClearTimerExpiry (s : State) : Outcome State Fault Refusal :=
  whilePowered s (fun s =>
    runOut s.power.clearFrom clearTime s (fun _ s =>
      ({ s with power := { s.power with critActive := false, clearFrom := none } } : State).reform))

/-- SUPPLY_GRACE_EXPIRY (R86): 1,000 ms without a supplier entry. -/
def execSupplyGraceExpiry (s : State) : Outcome State Fault Refusal :=
  whilePowered s (fun s =>
    runOut s.power.graceFrom graceTime s (fun _ s =>
      (({ s with power := { s.power with graceFrom := none, lostActive := true } } : State).raise .supplyLost).reform))

/-! ## Overdraw and trip at a SOURCE (R88 to R90) -/

/-- No NOTICE OVERDRAW has been queued in the last 100 ms (R88). -/
def State.overdrawAllowed (s : State) : Bool :=
  match s.power.overdrawAt with
  | none => true
  | some t => decide (t + overdrawPause ≤ s.clock.now)

/-- The over-run count stands at 3 or more: OVERDRAW, and the NOTICE unless one is recent (R88). -/
def State.noteOverdraw (milliAmps : Nat) (s : State) : State :=
  if s.power.overrun < 3 then s
  else if s.overdrawAllowed then
    (({ s with power := { s.power with overdrawAt := some s.clock.now } } : State).offerNotice noticeOverdraw
      (noticeDetail (milliAmps / 16))).raise .overdraw
  else s.raise .overdraw

/-- A sharp trip: four times the current exceeds five times the offer (R89). -/
def sharpTrip (milliAmps offered : Nat) : Bool := decide (5 * offered < 4 * milliAmps)

/-- The trip history with a new trip: older entries are removed first (R90). -/
def tripsWith (now : Nat) (l : List Nat) : List Nat := l.filter (fun t => decide (now < t + tripWindow)) ++ [now]

/-- A trip at a measurement; the third within 60 s latches the rail (R89, R90). -/
def State.trip (detail : Nat) (s : State) : State :=
  let h := tripsWith s.clock.now s.power.tripHistory
  let s1 := ({ s with power := { s.power with tripHistory := h } } : State).beginTrip detail (decide (3 ≤ h.length))
  if 3 ≤ h.length then s1.raise .railLatched else s1

/-- The detail of a trip's NOTICE: 1 sharp, 2 sustained, free when the measurement meets both cases (R89, assumption 17). -/
def tripDetail (sharp sustained : Bool) : Nat :=
  if sharp && sustained then (if Config.bothNoticedSharp then 1 else 2) else if sharp then 1 else 2

/-- One measurement of the delivered current (R88, R89). A measurement that trips with the count at 3 or more first notes the overdraw:
DESIGN CHOICE (assumption 39). -/
def State.measureCurrent (milliAmps : Nat) (s : State) : State :=
  let n := if s.offeredCurrent < milliAmps then s.power.overrun + 1 else 0
  let s1 := ({ s with power := { s.power with overrun := n } } : State).noteOverdraw milliAmps
  let sharp := sharpTrip milliAmps s.offeredCurrent
  let sustained := decide (10 ≤ n)
  if sharp || sustained then s1.trip (tripDetail sharp sustained) else s1

/-- DELIVERED_CURRENT_MEASUREMENT (R88): every 10 ms at a SOURCE in RAIL_ON with no trip in progress. -/
def execDeliveredCurrentMeasurement (milliAmps : Nat) (s : State) : Outcome State Fault Refusal :=
  whilePowered s (fun s =>
    if s.power.supplier = some .railOn ∧ s.power.trip = .none then
      runOut s.power.measureFrom measureTime s (fun due s =>
        ({ s with power := { s.power with measureFrom := some due } } : State).measureCurrent milliAmps)
    else s)

/-- TRIP_TIMER_EXPIRY (R89): 20 ms after the trip the switch opens. -/
def execTripTimerExpiry (s : State) : Outcome State Fault Refusal :=
  whilePowered s (fun s =>
    match s.power.trip with
    | .pending t latch => runOut (some t) tripTime s (fun _ s => s.openSwitch latch)
    | _ => s)

/-- OFF_TIME_EXPIRY (R89): 1,000 ms after the opening the switch closes. -/
def execOffTimeExpiry (s : State) : Outcome State Fault Refusal :=
  whilePowered s (fun s =>
    match s.power.trip with
    | .offTime t => runOut (some t) offTime s (fun _ s => s.closeSwitch)
    | _ => s)

/-! ## ALLOWANCE_READ (R71, section 11.4) -/

/-- A total above 65,535 mA is reported as 65,535. -/
def reportedTotal (v : Nat) : Nat := min v 65535

/-- Bit g − 1 is set for each grade in the set. -/
def modeSetBits (l : List Grade) : Byte :=
  l.foldl (fun b g => b ||| BitVec.ofNat 8 (2 ^ (gradeNum g - 1))) 0

/-- A claimant entry; its class is the one the computation read (DESIGN CHOICE, assumption 45). -/
def grantBytes (g : Grant) : List Byte :=
  [BitVec.ofNat 8 g.addr.toNat, BitVec.ofNat 8 g.cls] ++ leBytes 2 g.allowance ++ [byteOfBool g.parked]

def noticeBytes (n : NoticeRecord) : List Byte := [BitVec.ofNat 8 n.sender.toNat, n.detail]

/-- Bit 0: computed; 1: supply short; 2: own cap and levels; 3: droop level; 4: mode set. -/
def State.allowancePresence (s : State) : Byte :=
  byteOfBool s.power.allowances.isSome
    ||| (byteOfBool (match s.power.allowances with | some l => l.short | none => false) <<< 1)
    ||| (byteOfBool s.tetherPowered <<< 2) ||| (byteOfBool s.tetherPowered <<< 3) ||| (byteOfBool s.onPath <<< 4)

def allowanceTotals : Option AllowanceList → List Byte
  | none => [0, 0, 0, 0, 0, 0]
  | some l => leBytes 2 (reportedTotal l.total) ++ leBytes 2 (reportedTotal l.reserve) ++ leBytes 2 (reportedTotal l.budget)

def allowanceGrants : Option AllowanceList → List Byte
  | none => [0]
  | some l => BitVec.ofNat 8 l.grants.length :: l.grants.flatMap grantBytes

/-- Current and target level of lane, panel, audio and motion. -/
def levelBytes (l : Loads) : List Byte :=
  [l.current.lane, l.target.lane, l.current.panel, l.target.panel, l.current.audio, l.target.audio, l.current.motion,
    l.target.motion].map (BitVec.ofNat 8)

def State.allowanceFields (s : State) : List Byte :=
  [s.allowancePresence] ++ allowanceTotals s.power.allowances
    ++ (if s.tetherPowered then leBytes 2 s.effectiveCap ++ [BitVec.ofNat 8 s.power.droop] else [0, 0, 0])
    ++ (if s.onPath then [modeSetBits s.power.modeSet, gradeCode s.power.modeCeiling] else [0, 0])
    ++ (if s.tetherPowered then levelBytes s.loads else [0, 0, 0, 0, 0, 0, 0, 0])
    ++ allowanceGrants s.power.allowances
    ++ noticeBytes s.power.lastOverdraw ++ noticeBytes s.power.lastTrip ++ noticeBytes s.power.lastCritical

/-- ALLOWANCE_READ (R71). -/
def execAllowanceRead (s : State) : Outcome State Fault Refusal :=
  onRequest s (fun s => s.withReply .ok s.allowanceFields)

end Sys2Proof.Machine
end

