-- ==== Sys2Proof/Machine/Steps.lean ====
section
/-! DEFINITION. The timers of the lane agreement controller (R98, R99, R101, R103, R105) and LANE_READ (R110). -/

namespace Sys2Proof.Machine

open Host (Outcome)

/-- The step timer of an agreement state runs out; nothing happens in any other state (R94). -/
def State.stepOver (st : AgreeState) (span : Nat) (act : State → State) (s : State) : State :=
  if s.agree.state = st then runOut s.agree.stepFrom span s (fun _ s => act s) else s

/-- SETTLE_TIMER_EXPIRY (R98): the node enters LISTEN. -/
def execSettleTimerExpiry (s : State) : Outcome State Fault Refusal :=
  whilePowered s (State.stepOver .settle settleTime State.enterListen)

/-- LISTEN_TIMER_EXPIRY (R99, R100): entries without a MODESET of the round are silent partners, and the choice is made. -/
def execListenTimerExpiry (s : State) : Outcome State Fault Refusal :=
  whilePowered s (State.stepOver .listen listenTime State.choose)

/-- CONFIRM_TIMER_EXPIRY (R101): a confirm failure. -/
def execConfirmTimerExpiry (s : State) : Outcome State Fault Refusal :=
  whilePowered s (State.stepOver .confirming confirmTime State.confirmFailure)

/-- TRAINING_TIMER_EXPIRY (R105): a training failure. -/
def execTrainingTimerExpiry (s : State) : Outcome State Fault Refusal :=
  whilePowered s (State.stepOver .training trainingTime State.trainingFailure)

/-- A step timer of the round that has run out by now is taken: SETTLE enters LISTEN, LISTEN ends in the choice, CONFIRMING fails. -/
def State.takeStepDue (s : State) : State :=
  match s.agree.state, s.agree.stepFrom with
  | .settle, some t => if t + settleTime ≤ s.clock.now then s.enterListen else s
  | .listen, some t => if t + listenTime ≤ s.clock.now then s.choose else s
  | .confirming, some t => if t + confirmTime ≤ s.clock.now then s.confirmFailure else s
  | _, _ => s

/-- BASE_FORCED ends and the mode set is formed again. Where a fourth failure falls at the same moment, BASE_FORCED is set again with a
new timer, and the failure opens its round (R103); that the one event leaves the mode set at {G1} and opens that one round is DESIGN
CHOICE (assumption 44). -/
def State.endBaseForced (s : State) : State :=
  let u := s.takeStepDue
  if u.agree.baseForcedFrom = s.agree.baseForcedFrom then
    ({ s with agree := { s.agree with baseForcedFrom := none } } : State).reform
  else u

/-- BASE_FORCED_EXPIRY (R103): 10,000 ms of BASE_FORCED. -/
def execBaseForcedExpiry (s : State) : Outcome State Fault Refusal :=
  whilePowered s (fun s => runOut s.agree.baseForcedFrom baseForcedTime s (fun _ s => s.endBaseForced))

/-- The whole ms left on the BASE_FORCED timer; the rounding is a free value (assumption 5). -/
def baseForcedLeft (start : Option Nat) (now : Nat) : Nat :=
  match start with
  | none => 0
  | some t =>
    let left := t + baseForcedTime - now
    if Config.timeLeftRoundsUp then (left + 999) / 1000 else left / 1000

/-- The fields of a LANE_READ reply (section 11.4). The byte of BASE_FORCED, 1 held and 0 not, and a time left of 0 while it is not
held are DESIGN CHOICE (assumption 41). -/
def State.laneFields (s : State) : List Byte :=
  [s.agree.state.code] ++ leBytes 2 s.agree.round.toNat
    ++ [optGradeCode s.agree.chosen, s.agree.reason.code, BitVec.ofNat 8 s.agree.failures]
    ++ leBytes 2 s.agree.laneFaults ++ [byteOfBool s.agree.baseForcedFrom.isSome]
    ++ leBytes 2 (baseForcedLeft s.agree.baseForcedFrom s.clock.now)
    ++ [optGradeCode s.agree.lowered, optGradeCode s.agree.lastRun]

/-- LANE_READ (R110). The controller of a BATTERY stays as it was reset: HALTED, round 0, no grade, NOT_JOINED. -/
def execLaneRead (s : State) : Outcome State Fault Refusal :=
  onRequest s (fun s => s.withReply .ok s.laneFields)

end Sys2Proof.Machine
end

