-- ==== Sys2Proof/Machine/Hops.lean ====
section
/-! DEFINITION. The lane engine's commands (sections 6.1 and 6.2): receiver states (R111), packets received (R112, R114, R184)
and sent (R113, R116), and doze (R115). -/

namespace Sys2Proof.Machine

open Host (Outcome)

/-! ## Receivers (R111) -/

def State.setReceiver (lane : Lane) (r : RxState) (s : State) : State := { s with lanes := s.lanes.setRx lane r }

/-- While a RELAY dozes, its down-lane receiver stays LOCKED as reported (R115). -/
def State.dozesOn (lane : Lane) (s : State) : Bool := s.lanes.dozing && decide (lane = .down)

/-- RECEIVER_STATE_CHANGE (R111): SEEKING becomes LOCKED on the partner's signal, LOCKED becomes SEEKING when it disappears;
each change is reported. A receiver that is OFF has no such change. -/
def execReceiverStateChange (lane : Lane) (locks : Bool) (s : State) : Outcome State Fault Refusal :=
  whilePowered s (fun s =>
    if ownsRx s.role lane then
      match s.lanes.rx lane, locks with
      | .seeking, true => (s.setReceiver lane .locked).receiverReported
      | .locked, false => if s.dozesOn lane then s else (s.setReceiver lane .seeking).receiverReported
      | _, _ => s
    else s)

/-! ## Packets received (R112, R114) -/

/-- The RELAY's forwarding: out of the transmitter of the same lane, in the order received, at most two packets held; a third
finds no place (assumption 21). -/
def Transmitter.forward (p : Packet) (now : Nat) (t : Transmitter) : Transmitter :=
  if t.state ≠ .running then t
  else if t.sending.isNone then t.begin p now
  else if t.waiting = [] then { t with waiting := [p] }
  else t

/-- A RELAY in RUNNING forwards a good packet; outside it forwards nothing (R114). -/
def State.forwardPacket (lane : Lane) (p : Packet) (s : State) : State :=
  if s.running then { s with lanes := s.lanes.setTx lane ((s.lanes.tx lane).forward p s.clock.now) } else s

/-- The block that uses the packet's kind takes it, its times rebuilt against the tether time at arrival (R46, R112). -/
def State.packetArrives (k : PacketKind) (b : List Byte) (s : State) : State :=
  let t := s.clock.tether
  match k with
  | .slice =>
    s.sliceArrives (halfAt b 1) (byteAt b 3).toNat (rebuildTether t (fieldAt b 4 4)) ((b.drop 10).take (fieldAt b 8 2))
  | .audio => s.audioArrives (halfAt b 1) (rebuildTether t (fieldAt b 3 4)) (framesAt b 48 7)
  | .motion => s.recordArrives (motionOfBytes (b.drop 1) (rebuildTether t (fieldAt b 3 4)))
  | .mic => s.micArrives (rebuildTether t (fieldAt b 3 4)) (samplesAt b 48 7)
  | .frameShown => s.frameShownArrives ⟨halfAt b 1, rebuildTether t (fieldAt b 3 4), byteAt b 7⟩

/-- The lane counter of a direction (R116). -/
def packetCounter : Lane → Counter
  | .down => cPacketsDown
  | .up => cPacketsUp

/-- A whole packet at a LOCKED receiver: dropped and counted, forwarded, or handed to its block (R112, R114, R116). -/
def State.takePacket (lane : Lane) (bytes : List Byte) (s : State) : State :=
  match goodPacket lane bytes with
  | none => s.bump cBadPacket
  | some k =>
    if s.role = .relay then s.forwardPacket lane ⟨k, bytes⟩
    else (s.bump (packetCounter lane)).packetArrives k bytes

/-- The doze timer restarts at the end of each packet received on the down lane of a RELAY in RUNNING (R115). -/
def State.restartDoze (lane : Lane) (s : State) : State :=
  if s.role = .relay ∧ lane = .down ∧ s.running then
    { s with lanes := { s.lanes with dozing := false, dozeFrom := some s.clock.now } }
  else s

/-- LANE_PACKET_RECEIVED (R112): the end of a packet. A receiver that is not LOCKED discards it, uncounted (R111); a packet that
reaches the down lane of a dozing RELAY is the one lost on waking (R115). -/
def execLanePacketReceived (lane : Lane) (bytes : List Byte) (s : State) : Outcome State Fault Refusal :=
  whilePowered s (fun s =>
    if ownsRx s.role lane ∧ s.lanes.rx lane = .locked then
      if s.dozesOn lane then (s.bump cLostOnWake).restartDoze lane
      else (s.takePacket lane bytes).restartDoze lane
    else s)

/-! ## Packets sent (R113, R116) -/

/-- What a packet sent whole counts, and the slice's leaving of the send queue (R116, R123, R150). -/
def State.countSent (lane : Lane) (k : PacketKind) (s : State) : State :=
  let s1 := s.bump (packetCounter lane)
  if s.role = .source then
    match k with
    | .slice =>
      ({ s1 with sliceSource := { s1.sliceSource with sendQueue := s1.sliceSource.sendQueue.drop 1 } } : State).bump cSliceSent
    | .audio => s1.bump cBlocks
    | _ => s1
  else s1

/-- The transmitter is free again and takes the next packet; the SOURCE feeds it (R113, R123). -/
def State.freeTransmitter (lane : Lane) (s : State) : State :=
  let s1 : State := { s with lanes := s.lanes.setTx lane ((s.lanes.tx lane).takeNext s.clock.now) }
  if s.role = .source then s1.feedSlices else s1

/-- LANE_PACKET_SENT (R113): the packet being sent has been sent whole. -/
def execLanePacketSent (lane : Lane) (s : State) : Outcome State Fault Refusal :=
  whilePowered s (fun s =>
    match (s.lanes.tx lane).sending with
    | none => s
    | some p =>
      ((s.advanceTo ((s.lanes.tx lane).startedAt + packetMicros s.lanes.grade p.bytes.length)).countSent lane
        p.kind).freeTransmitter lane)

/-! ## Doze (R115) -/

/-- DOZE_TIMER_EXPIRY (R115): 20 ms without a packet on the down lane. -/
def execDozeTimerExpiry (s : State) : Outcome State Fault Refusal :=
  whilePowered s (fun s =>
    if s.lanes.dozing then s
    else
      runOut s.lanes.dozeFrom dozeTime s (fun _ s => { s with lanes := { s.lanes with dozing := true } }))

/-- LOST_ON_WAKE (R115): the start of a packet wakes the RELAY; the packet is lost, and the doze timer restarts at its end. -/
def execLostOnWake (length : Nat) (s : State) : Outcome State Fault Refusal :=
  whilePowered s (fun s =>
    if s.lanes.dozing then
      ((s.advance (packetMicros s.lanes.grade length)).bump cLostOnWake).restartDoze .down
    else s)

end Sys2Proof.Machine
end

