-- ==== Sys2Proof/Machine/HostPort.lean ====
section
/-! DEFINITION. The host port (chapter 10): the reading of a request frame (R175, section 11.4), its own requests STATUS_READ (R179),
COUNTER_READ (R178), RESTART (R177) and an unknown code (R176), and the release of the selection (R175). -/

namespace Sys2Proof.Machine

open Host (Outcome)

/-! ## Request frames (R175, section 11.4) -/

/-- The length of the frame a request code fixes, the code byte included; an unknown code is a frame of one byte (section 11.4). -/
def requestLength (code : Byte) : Nat :=
  match code.toNat with
  | 1 => 2
  | 2 => 4
  | 4 => 2
  | 8 => 2
  | 10 => 6
  | _ => 1

/-- The request of a whole frame: the code picks the command, and the bytes after it are its arguments by offset; bytes after the frame
are not read (R175, section 11.4). -/
def requestOf (code : Byte) (args : List Byte) : Instr :=
  match code.toNat with
  | 1 => .itemRead (byteAt args 0)
  | 2 => .itemWrite (byteAt args 0) (halfAt args 1)
  | 3 => .statusRead
  | 4 => .counterRead (byteAt args 0)
  | 5 => .rosterRead
  | 6 => .allowanceRead
  | 7 => .laneRead
  | 8 => .motionDrain (byteAt args 0)
  | 9 => .framesRead
  | 10 => .remoteStart (byteAt args 0) (byteAt args 1) (byteAt args 2) (halfAt args 3)
  | 11 => .remoteResult
  | 12 => .restart
  | _ => .unknownRequest code

/-- The request taken in a selection from the bytes received in it: none until the last byte of the frame its first byte fixes (R175). -/
def readRequest : List Byte → Option Instr
  | [] => none
  | code :: args => if args.length + 1 < requestLength code then none else some (requestOf code args)

/-- The commands a selection without a reset brings, from the bytes the host clocks in it (R175): the request, if its frame is whole, and
the release, with the number of bytes clocked after the frame. A partial frame is discarded. -/
def selectionCommands (bytes : List Byte) : List Instr :=
  match readRequest bytes with
  | none => [.hostDeselect ⟨0, 0⟩]
  | some c => [c, .hostDeselect ⟨bytes.length - requestLength (byteAt bytes 0), 0⟩]

/-! ## The host port's own requests -/

/-- STATUS_READ (R179): the flags as they stand; a sticky flag whose condition does not hold is cleared. -/
def execStatusRead (s : State) : Outcome State Fault Refusal :=
  onRequest s (fun s =>
    ({ s with host := { s.host with sticky := s.host.sticky &&& s.keptFlags } } : State).withReply .ok
      (leBytes 4 s.flagWord.toNat))

/-- The counters of a group, two bytes each. -/
def counterBytes (l : List Nat) : List Byte := l.flatMap (leBytes 2)

/-- COUNTER_READ (R178): every counter of the group, each set to zero. -/
def execCounterRead (group : Byte) (s : State) : Outcome State Fault Refusal :=
  onRequest s (fun s =>
    let g := group.toNat
    if 4 < g then s.withReply .badArgument []
    else
      let l := s.counters.group g
      ({ s with counters := s.counters.setGroup g (l.map (fun _ => 0)) } : State).withReply .ok (counterBytes l))

/-- The first RESTART queues its notice and starts the 50 ms timer; a further one leaves the timer as it runs (R177). -/
def State.requestRestart (s : State) : State :=
  match s.host.restartFrom with
  | some _ => s
  | none =>
    ({ s with host := { s.host with restartFrom := some s.clock.now } } : State).offerNotice noticeLeaving 0

/-- RESTART (R177). -/
def execRestart (s : State) : Outcome State Fault Refusal :=
  onRequest s (fun s => s.requestRestart.withReply .ok [])

/-- UNKNOWN_REQUEST (R176): answered UNKNOWN, nothing else changes. The twelve known codes are other commands. -/
def execUnknownRequest (code : Byte) (s : State) : Outcome State Fault Refusal :=
  if code.toNat = 0 ∨ 12 < code.toNat then onRequest s (fun s => s.withReply .unknown [])
  else .refused .knownRequestCode

/-- What the host took of a reply: its bytes, and zero bytes after its end (R175). -/
def clockedBytes (n : Nat) (reply : List Byte) : List Byte := reply.take n ++ List.replicate (n - reply.length) 0

/-- What the host took in the selection now released: of a reply cut off by a reset the bytes clocked before it, and zero bytes for the
rest of the selection (R175). -/
def HostPort.clockedOut (c : Clocking) (h : HostPort) : List Byte :=
  match h.cut with
  | none => clockedBytes c.total h.reply
  | some r => clockedBytes (min c.beforeReset c.total) r ++ List.replicate (c.total - c.beforeReset) 0

/-- HOST_DESELECT (R175): the rest of the reply is lost, and the next selection begins a new transaction. The selection input lies
outside the die: its release counts at a node without power too (assumption 8). -/
def execHostDeselect (clocked : Clocking) (s : State) : Outcome State Fault Refusal :=
  .next { s with host := { s.host with
    clocked := s.host.clockedOut clocked, reply := [], taken := false, cut := none } }

end Sys2Proof.Machine
end

