-- ==== Sys2Proof/Machine/Dispatch.lean ====
section
/-! DEFINITION. One arm per command of the opcode table, each a direct call of its meaning. -/

namespace Sys2Proof.Machine

def exec (i : Instr) (s : State) : Host.Outcome State Fault Refusal :=
  match i with
  | .fullReset straps => Sys2Proof.Machine.execFullReset straps s
  | .characterReceived data parity stopOk => Sys2Proof.Machine.execCharacterReceived data parity stopOk s
  | .gap => Sys2Proof.Machine.execGap s
  | .carrierDetect present => Sys2Proof.Machine.execCarrierDetect present s
  | .quietWaitExpiry => Sys2Proof.Machine.execQuietWaitExpiry s
  | .sendComplete => Sys2Proof.Machine.execSendComplete s
  | .stuckDrop => Sys2Proof.Machine.execStuckDrop s
  | .joinTimerExpiry => Sys2Proof.Machine.execJoinTimerExpiry s
  | .peerLeft peer => Sys2Proof.Machine.execPeerLeft peer s
  | .beaconPeriod => Sys2Proof.Machine.execBeaconPeriod s
  | .slewTick => Sys2Proof.Machine.execSlewTick s
  | .offerClaimPeriod which => Sys2Proof.Machine.execOfferClaimPeriod which s
  | .supplyReadyChange high => Sys2Proof.Machine.execSupplyReadyChange high s
  | .railPresentChange milliVolts => Sys2Proof.Machine.execRailPresentChange milliVolts s
  | .tripHoldExpiry => Sys2Proof.Machine.execTripHoldExpiry s
  | .returnDelayExpiry delay => Sys2Proof.Machine.execReturnDelayExpiry delay s
  | .raiseTimerExpiry load => Sys2Proof.Machine.execRaiseTimerExpiry load s
  | .railMeasurement milliVolts => Sys2Proof.Machine.execRailMeasurement milliVolts s
  | .clearTimerExpiry => Sys2Proof.Machine.execClearTimerExpiry s
  | .supplyGraceExpiry => Sys2Proof.Machine.execSupplyGraceExpiry s
  | .deliveredCurrentMeasurement milliAmps => Sys2Proof.Machine.execDeliveredCurrentMeasurement milliAmps s
  | .tripTimerExpiry => Sys2Proof.Machine.execTripTimerExpiry s
  | .offTimeExpiry => Sys2Proof.Machine.execOffTimeExpiry s
  | .settleTimerExpiry => Sys2Proof.Machine.execSettleTimerExpiry s
  | .listenTimerExpiry => Sys2Proof.Machine.execListenTimerExpiry s
  | .confirmTimerExpiry => Sys2Proof.Machine.execConfirmTimerExpiry s
  | .baseForcedExpiry => Sys2Proof.Machine.execBaseForcedExpiry s
  | .receiverStateChange lane locks => Sys2Proof.Machine.execReceiverStateChange lane locks s
  | .trainingTimerExpiry => Sys2Proof.Machine.execTrainingTimerExpiry s
  | .lanePacketReceived lane bytes => Sys2Proof.Machine.execLanePacketReceived lane bytes s
  | .lanePacketSent lane => Sys2Proof.Machine.execLanePacketSent lane s
  | .dozeTimerExpiry => Sys2Proof.Machine.execDozeTimerExpiry s
  | .lostOnWake length => Sys2Proof.Machine.execLostOnWake length s
  | .sliceSubmit start index bytes => Sys2Proof.Machine.execSliceSubmit start index bytes s
  | .sliceScan => Sys2Proof.Machine.execSliceScan s
  | .sensorWriteComplete => Sys2Proof.Machine.execSensorWriteComplete s
  | .dataReadyEdge => Sys2Proof.Machine.execDataReadyEdge s
  | .sensorReadComplete raw => Sys2Proof.Machine.execSensorReadComplete raw s
  | .sensorStall => Sys2Proof.Machine.execSensorStall s
  | .motionFallbackExpiry => Sys2Proof.Machine.execMotionFallbackExpiry s
  | .motionDrain count => Sys2Proof.Machine.execMotionDrain count s
  | .audioFrameInput left right => Sys2Proof.Machine.execAudioFrameInput left right s
  | .presentationTimeReached => Sys2Proof.Machine.execPresentationTimeReached s
  | .outputFramePeriod => Sys2Proof.Machine.execOutputFramePeriod s
  | .slipTimerExpiry => Sys2Proof.Machine.execSlipTimerExpiry s
  | .micCapture sample => Sys2Proof.Machine.execMicCapture sample s
  | .micOutputSample => Sys2Proof.Machine.execMicOutputSample s
  | .remoteRestartTimerExpiry => Sys2Proof.Machine.execRemoteRestartTimerExpiry s
  | .remoteStart target operation item value => Sys2Proof.Machine.execRemoteStart target operation item value s
  | .deadlineExpiry => Sys2Proof.Machine.execDeadlineExpiry s
  | .remoteResult => Sys2Proof.Machine.execRemoteResult s
  | .itemRead item => Sys2Proof.Machine.execItemRead item s
  | .itemWrite item value => Sys2Proof.Machine.execItemWrite item value s
  | .statusRead => Sys2Proof.Machine.execStatusRead s
  | .counterRead group => Sys2Proof.Machine.execCounterRead group s
  | .rosterRead => Sys2Proof.Machine.execRosterRead s
  | .allowanceRead => Sys2Proof.Machine.execAllowanceRead s
  | .laneRead => Sys2Proof.Machine.execLaneRead s
  | .framesRead => Sys2Proof.Machine.execFramesRead s
  | .restart => Sys2Proof.Machine.execRestart s
  | .restartTimerExpiry => Sys2Proof.Machine.execRestartTimerExpiry s
  | .unknownRequest code => Sys2Proof.Machine.execUnknownRequest code s
  | .hostDeselect clocked => Sys2Proof.Machine.execHostDeselect clocked s
  | .railPowerLoss => Sys2Proof.Machine.execRailPowerLoss s
  | .characterMissing => Sys2Proof.Machine.execCharacterMissing s

end Sys2Proof.Machine
end

