-- ==== Sys2Proof/Safety.lean ====
section
/-! DEFINITION. What a sound state of the node is: the bounds the spec states for every queue, buffer, clock, counter and
level, as one invariant in named parts. -/

namespace Sys2Proof.Machine

/-- Every counter lies in 0 to 65,535, and each group has its number of counters (R2, R23, R116, R129, R146, R162). -/
structure Counters.Bounded (k : Counters) : Prop where
  rail    : k.rail.length = 11 ∧ ∀ v ∈ k.rail, v ≤ 65535
  lane    : k.lane.length = 5 ∧ ∀ v ∈ k.lane, v ≤ 65535
  picture : k.picture.length = 7 ∧ ∀ v ∈ k.picture, v ≤ 65535
  motion  : k.motion.length = 6 ∧ ∀ v ∈ k.motion, v ≤ 65535
  audio   : k.audio.length = 8 ∧ ∀ v ∈ k.audio, v ≤ 65535

/-- The tether clock lies in 0 to 2^48 − 1 and the pending slew in 0 to 63 (R45). -/
structure Clock.Bounded (c : Clock) : Prop where
  tether : c.tether ≤ tetherMax
  slew   : c.slew ≤ 63

/-- The microphone queue holds at most 960 samples, as whole blocks of 48; only the oldest may be partly sent, and a block sent
whole has left (R161). -/
structure AudioSource.MicSound (a : AudioSource) : Prop where
  count  : a.micCount ≤ 960
  filled : ∀ b ∈ a.micQueue, b.samples ≠ []
  whole  : ∀ b ∈ a.micQueue.drop 1, b.samples.length = 48

/-- The HEADSET has 12 slots and 12 places at its panel port, and the scan position stands at one of them (R118, R124, R125). -/
structure SliceHeadset.Sized (h : SliceHeadset) : Prop where
  slots : h.slots.length = 12
  panel : h.panel.length = 12
  index : h.index ≤ 11

/-- A transmitter of a node of this role holds at most one waiting packet of each kind (R113), at a RELAY one in all (R114). -/
structure Transmitter.Bounded (r : Role) (t : Transmitter) : Prop where
  kinds : t.waiting.Pairwise (fun p q => p.kind ≠ q.kind)
  relay : r = .relay → t.waiting.length ≤ 1

/-- The bounded counters, queues, buffers and levels of the node (R2, R13, R81, R113, R114, R123, R124, R125, R128, R144, R151, R161,
R164, R174), and what stays inactive at a node that is no HEADSET (R118, R131). -/
structure State.Bounded (s : State) : Prop where
  counters  : s.counters.Bounded
  railQueue : s.rail.size ≤ 8
  droop     : s.power.droop ≤ 4
  sendQueue : s.sliceSource.sendQueue.length ≤ 4
  frames    : s.sliceSource.frames.length ≤ 4
  slices    : s.sliceHeadset.Sized
  motion    : s.motionSource.queue.length ≤ 64
  playback  : s.audioHeadset.frameCount ≤ 480
  mic       : s.audioSource.MicSound
  stale     : s.remote.stale ≤ 65535
  items     : s.items.length = 31
  waiting   : ∀ l, (s.lanes.tx l).Bounded s.role
  anchor    : s.role ≠ .headset → s.sliceHeadset.anchor = none
  sensor    : s.role ≠ .headset → s.motionHeadset.port = .off ∧ s.motionHeadset.reading = none

/-- Commands one after another, as long as each answers a next state. -/
def runAll : List Instr → State → Host.Outcome State Fault Refusal
  | [], s => .next s
  | c :: rest, s =>
    match exec c s with
    | .next t => runAll rest t
    | .fault r => .fault r
    | .refused r => .refused r

/-- Characters as they arrive undamaged: the parity bit makes the ones odd, the stop bit stands (R3). -/
def soundChars (l : List Byte) : List Instr :=
  l.map (fun b => .characterReceived b (countOnes 8 b % 2 == 0) true)

/-- The front command of the queue is a full reset. -/
def State.fullResetNext (s : State) : Bool :=
  match s.pending with
  | .fullReset _ :: _ => true
  | _ => false

/-- A character that completes an undamaged ASK to write an item, aimed at this node by another and served there (R7, R11, R166, R167). -/
def State.completesItemWrite (data : Byte) (parity stopOk : Bool) (s : State) : Bool :=
  match s.rail.rx with
  | .hunting => false
  | .assembling a =>
    let chars := a.chars ++ [data]
    let p := burstPayload chars
    s.powered && s.rail.sending.isNone && !garbled data parity stopOk && decide (burstChars chars ≤ chars.length) && checkOk chars
      && decide (headerKind (byteAt chars 0) = some .ask) && decide (p.length = 6)
      && decide ((byteAt p 0).toNat = s.straps.addr.toNat) && decide (headerAddr (byteAt chars 0) ≠ s.straps.addr)
      && decide (byteAt p 2 = 2) && decide (s.roster.join ≠ .listenOnly) && s.remote.restartFrom.isNone

/-- The front command is a full reset, an ITEM_WRITE, or the last character of an accepted ASK to write an item (R164, R165). -/
def State.itemsMayChange (s : State) : Bool :=
  match s.pending with
  | .fullReset _ :: _ => true
  | .itemWrite _ _ :: _ => true
  | .characterReceived data parity stopOk :: _ => s.completesItemWrite data parity stopOk
  | _ => false

/-- The requests of the host port (R176). -/
def hostRequest : Instr → Bool
  | .itemRead _ => true
  | .itemWrite _ _ => true
  | .statusRead => true
  | .counterRead _ => true
  | .rosterRead => true
  | .allowanceRead => true
  | .laneRead => true
  | .motionDrain _ => true
  | .framesRead => true
  | .remoteStart _ _ _ _ => true
  | .remoteResult => true
  | .restart => true
  | .unknownRequest _ => true
  | _ => false

/-- Only what the power manager, the load planner and the lane agreement controller reach has changed, with the time at which it
did: their own blocks, the lane engine, the self entry, what the data blocks hold while the lane runs, and sticky flags (R37,
R40, R66, R95). No burst has been offered and nothing counted. -/
def State.PathFrame (s t : State) : Prop :=
  t = { s with
    clock := t.clock, power := t.power, loads := t.loads, agree := t.agree, lanes := t.lanes
    roster := { s.roster with self := t.roster.self }
    sliceSource := t.sliceSource, sliceHeadset := t.sliceHeadset, motionHeadset := t.motionHeadset
    audioHeadset := t.audioHeadset
    host := { s.host with sticky := t.host.sticky } }

/-- The same, where bursts may have been offered to the transmit queue and events counted. -/
def State.PathRailFrame (s t : State) : Prop :=
  t = { s with
    clock := t.clock, rail := t.rail, power := t.power, loads := t.loads, agree := t.agree, lanes := t.lanes
    roster := { s.roster with self := t.roster.self }
    sliceSource := t.sliceSource, sliceHeadset := t.sliceHeadset, motionHeadset := t.motionHeadset
    audioHeadset := t.audioHeadset
    host := { s.host with sticky := t.host.sticky }, counters := t.counters }

/-- The power manager has formed delays, mode set, ceiling and cap again, between `s` and the end of the event `t`. At a RELAY or
HEADSET a grade is a candidate while its floor total fits the cap and it is not above the effective ceiling (R67): one that is none
loses its delay, one that has become one starts its timer (R68); the set is empty while parked, G1 alone while BASE_FORCED holds, else
G1 and the grades whose delay is complete (R69); the planner has the cap (R66). At a SOURCE the set is every grade up to its effective
ceiling, and G1 alone while BASE_FORCED holds (R70). -/
def State.SetFormed (s t : State) : Prop :=
  let forced := t.agree.baseForcedFrom.isSome
  (t.tetherPowered = true →
    (∀ g, g ≠ .g1 →
      let fits := totalCost t.role (floorLevels t.role (gradeNum g)) ≤ t.effectiveCap ∧ gradeNum g ≤ gradeNum t.effectiveCeiling
      (¬ fits → t.power.delay g = .idle) ∧
      (fits → t.power.delay g = (if s.power.delay g = .idle then .running t.clock.now else s.power.delay g))) ∧
    t.power.modeSet = (if t.parked then [] else if forced then [.g1]
      else .g1 :: [Grade.g2, .g3, .g4].filter (fun g => t.power.delay g == .done)) ∧
    t.power.modeCeiling = t.effectiveCeiling ∧ t.loads.cap = t.effectiveCap) ∧
  (t.role = .source →
    t.power.modeSet = (if forced then [.g1] else gradesUpTo t.effectiveCeiling) ∧ t.power.modeCeiling = t.effectiveCeiling)

/-- What the power manager has done, between `s` and the end of the event `t`, with the offers and claims of the roster as it stands in
`t`, where `changed` says that one of them changed. With a supplier entry left the computation has run: its list stands and
SUPPLY_SHORT is set in the short case (R58, R63, R64); at a RELAY or HEADSET the grace is cancelled and SUPPLY_LOST over. With none
left the list is kept, and the grace starts unless it runs or SUPPLY_LOST is active (R86). The cap in force and the mode set are formed
again (R63, R66). Where nothing changed, nothing is run. -/
def State.SupplyFollows (s : State) (changed : Bool) (t : State) : Prop :=
  let list := computeAllowances t.roster
  let run := changed && t.roster.hasSupplier
  t.power.allowances = (if run then some list else s.power.allowances) ∧
  t.sticky .supplyShort = (s.sticky .supplyShort || (run && list.short)) ∧
  t.power.lostActive = (s.power.lostActive && !(run && s.tetherPowered)) ∧
  t.power.graceFrom =
    (if changed = false ∨ s.tetherPowered = false then s.power.graceFrom
     else if run then none
     else if s.power.graceFrom ≠ none ∨ s.power.lostActive = true then s.power.graceFrom
     else some t.clock.now) ∧
  (changed = true → s.SetFormed t)

/-- The settled offer and claim have been announced, between `s` and the end of the event `t`: while the join state is ACTIVE each that
changed is offered as its burst in this event, and its 400 ms start from zero; one that did not, and every change in another join
state, is not (R56, R57). Nothing else has been offered. -/
def State.Announced (s t : State) : Prop :=
  let offer := if s.roster.join = .active ∧ t.roster.self.offer ≠ s.roster.self.offer then t.roster.self.offer else none
  let claim := if s.roster.join = .active ∧ t.roster.self.claim ≠ s.roster.self.claim then t.roster.self.claim else none
  let u : State := { s with clock := t.clock }
  let v := match offer with
    | some o => u.offerBurst .offer (leBytes 2 o.current ++ [o.state])
    | none => u
  let w := match claim with
    | some c => v.offerBurst .claim (leBytes 2 c.floor ++ leBytes 2 c.want ++ [BitVec.ofNat 8 c.cls])
    | none => v
  t.rail = w.rail ∧ t.counters = w.counters ∧
  t.power.offerFrom = (if offer.isSome then some t.clock.now else s.power.offerFrom) ∧
  t.power.claimFrom = (if claim.isSome then some t.clock.now else s.power.claimFrom)

/-- What a SOURCE's copy of the schedule has become between `s` and the end of the event `t`: the anchor of the HEADSET entry of lowest
station address that holds one, none while none does; a change of the copy has closed any open submission, and without one the
submission stands unless RUNNING was left (R119, R123). The frame-shown records and the slice input's last answer stand. -/
def State.ScheduleFollows (s t : State) : Prop :=
  let held := t.roster.entries.filterMap (fun e => if e.role = some .headset then e.anchor else none)
  (s.role ≠ .source → t.sliceSource = s.sliceSource) ∧
  (s.role = .source →
    t.sliceSource.schedule = held.head? ∧ t.sliceSource.frames = s.sliceSource.frames ∧
    t.sliceSource.answer = s.sliceSource.answer ∧
    (s.sliceSource.schedule ≠ held.head? → t.sliceSource.submission = none) ∧
    (s.sliceSource.schedule = held.head? → t.running = s.running → t.sliceSource.submission = s.sliceSource.submission))

/-- What a change of agreement state or chosen grade has handed on between `s` and the end of its event `t` (R95). The lane engine is
ordered by the table of R111, at OFF while the node is parked: in TRAINING each owned transmitter TRAINING and each owned receiver
SEEKING, at the chosen grade; in RUNNING the transmitters RUNNING; else all OFF, and outside RUNNING no packet is held. The self entry's
summary is the state with the chosen grade in TRAINING and RUNNING (R40). At a RELAY or HEADSET the lane stands at its pinned level
(R76). On leaving RUNNING a SOURCE's send queue is emptied and its submission closed (R123), a HEADSET's fallback timer starts from zero
(R141), and doze ends (R115); on entry the fallback timer stops, and a RELAY is AWAKE with its doze timer at zero. -/
def State.HandedOn (s t : State) : Prop :=
  let ordered : AgreeState := if t.parked then .halted else t.agree.state
  let graded := t.agree.state = .training ∨ t.agree.state = .running
  (∀ l, ownsTx t.role l = true →
    (t.lanes.tx l).state = (if ordered = .training then .training else if ordered = .running then .running else .off) ∧
    (ordered ≠ .running → (t.lanes.tx l).sending = none ∧ (t.lanes.tx l).waiting = [])) ∧
  (∀ l, ownsRx t.role l = true → ordered ≠ .running →
    t.lanes.rx l = (if ordered = .training then .seeking else .off)) ∧
  (ordered = .training ∨ ordered = .running → t.lanes.grade = t.agree.chosen) ∧
  t.roster.self.summary = some (laneSummary t.agree.state.code (if graded then optGradeCode t.agree.chosen else 0)) ∧
  (t.tetherPowered = true →
    t.loads.current.lane = t.loads.target.lane ∧
    t.loads.target.lane = (if t.parked then 0 else if graded then (t.agree.chosen.map gradeNum).getD 1 else 1)) ∧
  (t.running = false → t.lanes.dozing = false ∧ t.lanes.dozeFrom = none) ∧
  (s.running = true → t.running = false →
    (t.role = .source → t.sliceSource.sendQueue = [] ∧ t.sliceSource.submission = none) ∧
    (t.role = .headset → t.motionHeadset.fallbackFrom = some t.clock.now)) ∧
  (s.running = false → t.running = true →
    (t.role = .headset → t.motionHeadset.fallbackFrom = none) ∧
    (t.role = .relay → t.parked = false → t.lanes.dozing = false ∧ t.lanes.dozeFrom = some t.clock.now)) ∧
  (s.running = t.running →
    t.sliceSource.sendQueue = s.sliceSource.sendQueue ∧ t.motionHeadset.fallbackFrom = s.motionHeadset.fallbackFrom)

/-- SET_CHANGED and PATH_CHANGED are taken at a node of the picture path in every state except HALTED with reason NOT_JOINED or
LISTEN_ONLY (R96). -/
def Agree.takes (r : Role) (a : Agree) : Bool :=
  decide (r ≠ .battery) && !(decide (a.state = .halted) && (decide (a.reason = .notJoined) || decide (a.reason = .listenOnly)))

/-- HALTED for a reason; that it has no chosen grade is the model's inference (assumption 20). -/
def Agree.haltedFor (why : Reason) (a : Agree) : Agree :=
  { a with state := .halted, chosen := none, reason := why, stepFrom := none }

/-- The controller `a` after the opening of a round on a trigger, with the roster and the mode set of `t` (R96). -/
def Agree.opened (why : Reason) (t : State) (a : Agree) : Agree :=
  if t.roster.chainComplete = false then a.haltedFor .chainIncomplete
  else if t.power.modeSet = [] then a.haltedFor .ownSetEmpty
  else { a with state := .settle, round := a.round + 1, chosen := none, reason := why, stepFrom := some t.clock.now }

/-- After a change of the own mode set: an entry into HALTED where the set has become empty, as on parking (R80, R107), else the opening
of a round (R96). -/
def Agree.afterSet (changed : Bool) (t : State) (a : Agree) : Agree :=
  if changed = false ∨ a.takes t.role = false then a
  else if t.power.modeSet = [] then a.haltedFor .ownSetEmpty
  else a.opened .setChanged t

/-- After a path change: the opening of a round (R93, R96). -/
def Agree.afterPath (changed : Bool) (t : State) (a : Agree) : Agree :=
  if changed = false ∨ a.takes t.role = false then a else a.opened .pathChanged t

/-- What the lane agreement controller has done between `s` and the end of the event `t`, where `path` says that an entry was added to
the picture path or removed from it: a change of the own mode set or its ceiling is taken first and then the path change, the model's
order (assumption 18); each that is taken hands on what R95 says, and where none is the controller stands. That a change of the
ceiling alone counts as a change of an empty set too is the model's choice (assumption 40). -/
def State.AgreeFollows (s : State) (path : Bool) (t : State) : Prop :=
  let set := decide (t.power.modeSet ≠ s.power.modeSet) || decide (t.power.modeCeiling ≠ s.power.modeCeiling)
  t.agree = (s.agree.afterSet set t).afterPath path t ∧
  ((set || path) = true → s.agree.takes s.role = true → s.HandedOn t)

/-- What the SOURCE's down-lane transmitter has become by being fed from the send queue `q` (R113, R123): while it runs and no slice
waits, the oldest queued slice not yet sent is offered to it; a free one takes that slice at once, and the next one waits. -/
def Transmitter.Fed (x : Transmitter) (q : List SendSlice) (now : Nat) (y : Transmitter) : Prop :=
  let packets := q.map slicePacket
  (x.state ≠ .running ∨ (∃ w ∈ x.waiting, w.kind = .slice) → y = x) ∧
  (x.state = .running → (∀ w ∈ x.waiting, w.kind ≠ .slice) →
    (∀ p, x.sending = some p →
      y = { x with waiting := x.waiting ++ (packets.drop (if p.kind = .slice then 1 else 0)).take 1 }) ∧
    (x.sending = none → packets = [] → y = x) ∧
    (∀ p rest, x.sending = none → packets = p :: rest →
      y = { x with sending := some p, startedAt := now, waiting := x.waiting ++ rest.take 1 }))

/-- The roster's form (R33): peers in strictly rising address order, at most six, none at the node's own address or at 0; the self
entry carries the sampled address and role and no last-heard value (R40), and its mode set the current round until LISTEN is entered
(R108). -/
structure State.RosterSound (s : State) : Prop where
  rising : s.roster.peers.Pairwise (fun a b => a.addr.toNat < b.addr.toNat)
  count  : s.roster.peers.length ≤ 6
  others : ∀ e ∈ s.roster.peers, e.addr ≠ 0 ∧ e.addr ≠ s.straps.addr
  heard  : ∀ e ∈ s.roster.peers, e.lastHeard.isSome
  self   : s.roster.self.addr = s.straps.addr ∧ s.roster.self.role = some s.straps.role ∧ s.roster.self.lastHeard = none
  round  : s.agree.listened = false → ∀ m, s.roster.self.modeSet = some m → m.round = s.agree.round

/-- The queue's form (R13, R14): in order of class, with at most one waiting entry of each replaceable kind. -/
structure Rail.Ordered (r : Rail) : Prop where
  classes : r.queue.Pairwise (fun a b => a.kind.cls ≤ b.kind.cls)
  single  : ∀ k : BurstKind, k.replaceable → (r.queue.filter (fun e => e.kind == k)).length ≤ 1

/-- The loads' form (R76, R77): no sheddable load above its target, its raise timer running exactly while it is below, and the lane
at its pinned level. -/
structure Loads.Settled (l : Loads) : Prop where
  lane   : l.current.lane = l.target.lane
  panel  : l.current.panel ≤ l.target.panel ∧ (l.panelFrom.isSome ↔ l.current.panel < l.target.panel)
  audio  : l.current.audio ≤ l.target.audio ∧ (l.audioFrom.isSome ↔ l.current.audio < l.target.audio)
  motion : l.current.motion ≤ l.target.motion ∧ (l.motionFrom.isSome ↔ l.current.motion < l.target.motion)

end Sys2Proof.Machine
end

