-- ==== Sys2Proof/WellFormed.lean ====
section
/-! DEFINITION. Which commands an interface of the TN64 can carry. The operand types already bound most
operands; the checks here are the two ranges the types do not hold. -/

namespace Sys2Proof

/-- A slice submitted carries 0 to 65,535 bytes (R120). -/
def sliceLengthOk (bytes : List Byte) : Bool := decide (bytes.length ≤ 65535)

/-- The twelve request codes of section 11.4 are 1 to 12; any other code is an unknown one (R176). -/
def unknownCode (code : Byte) : Bool := decide (code.toNat = 0 ∨ 12 < code.toNat)

/-- G1 has no return-delay timer: R68 keeps one for each of G2, G3 and G4. -/
def delayedGrade : Grade → Bool
  | .g1 => false
  | .g2 => true
  | .g3 => true
  | .g4 => true

/-- A command that its interface can carry. Every other constructor's operands are well formed by type. -/
def Instr.wellFormed : Instr → Bool
  | .sliceSubmit _ _ bytes => sliceLengthOk bytes
  | .unknownRequest code => unknownCode code
  | .returnDelayExpiry d => delayedGrade d.grade
  | _ => true

end Sys2Proof
end

