-- ==== Sys2Proof/Certificates/Slice0/Obligations.lean ====
section
/-! DEFINITION. The statements about the node, for the provers. Where a statement rests on a convention of the model (the time an
expiry happens at, the idle µs), its docstring names the log entry. -/

open Sys2Proof Sys2Proof.Machine

/-! ## The queue of commands and the whole machine -/

/-- The command at the front of the queue runs on the state with the queue's rest. On an empty queue, by the model's choice
(assumption 2), 1 µs of local time passes at a node with power, both clocks running, and a node without power does not change. -/
def Obligations.FrontCommandRuns : Prop :=
  (∀ (c : Instr) (rest : List Instr) (s : State), step { s with pending := c :: rest } = exec c { s with pending := rest }) ∧
  ∀ s : State, s.pending = [] →
    step s = .next (if s.powered then
      { s with clock := { s.clock with now := s.clock.now + 1, tether := min (s.clock.tether + 1) tetherMax } } else s)

/-- Every command that an interface can carry answers a next state from every state; an 'unknown request' with one of the twelve
known codes is refused by name (assumption 9). -/
def Obligations.EveryCommandAnswers : Prop :=
  (∀ (c : Instr) (s : State), c.wellFormed = true → ∃ t, exec c s = .next t) ∧
  (∀ (code : Byte) (s : State), 1 ≤ code.toNat → code.toNat ≤ 12 → exec (.unknownRequest code) s = .refused .knownRequestCode)

/-- The loss of rail power takes the power of a RELAY or HEADSET and of no other node (R92). A node without power changes nothing but
the input levels outside its die and, as the host releases it, the host's selection, until full reset (assumption 8). -/
def Obligations.UnpoweredNodeStops : Prop :=
  (∀ s : State, s.powered = true → s.tetherPowered = false → exec .railPowerLoss s = .next s) ∧
  (∀ s : State, s.powered = true → s.tetherPowered = true → ∃ t, exec .railPowerLoss s = .next t ∧ t.powered = false ∧
    t.rail.sending = none ∧ t.straps = s.straps ∧ t.clock = s.clock ∧ t.items = s.items ∧ t.pending = s.pending ∧
    t.host = { s.host with
      reply := [], cut := if s.host.taken then some (s.host.cut.getD s.host.reply) else none }) ∧
  ∀ (c : Instr) (s : State), s.powered = false → (∀ pins, c ≠ .fullReset pins) → c.wellFormed = true →
    ∃ t, exec c s = .next t ∧ ((∀ n, c ≠ .hostDeselect n) → t.host = s.host) ∧
      t = { s with
        rail := { s.rail with carrierIn := t.rail.carrierIn, quietFrom := t.rail.quietFrom }
        power := { s.power with supplyReady := t.power.supplyReady, railPresent := t.power.railPresent }
        host := { s.host with
          reply := t.host.reply, clocked := t.host.clocked, taken := t.host.taken, cut := t.host.cut } }

/-- The state after reset has the form every step keeps. -/
def Obligations.ResetStateIsSound : Prop :=
  State.reset.Bounded ∧ State.reset.clock.Bounded ∧ State.reset.RosterSound ∧ State.reset.rail.Ordered ∧
    State.reset.loads.Settled

/-- Every step keeps the counters at or below 65,535 and the node's queues, buffers and levels within their sizes: the transmit queue,
the slice and frame lists, the slice buffer, the motion and audio queues, and at each transmitter at most one waiting packet of each
kind, at a RELAY one in all (R113, R114). A node that is no HEADSET keeps no scan anchor and reads no sensor. -/
def Obligations.BoundsAreKept : Prop :=
  ∀ s t : State, s.Bounded → step s = .next t → t.Bounded

/-- No step but a full reset takes either clock back, and the tether clock and its slew stay in their ranges. -/
def Obligations.ClocksNeverRunBack : Prop :=
  ∀ s t : State, s.clock.Bounded → s.fullResetNext = false → step s = .next t →
    t.clock.Bounded ∧ s.clock.now ≤ t.clock.now ∧ s.clock.tether ≤ t.clock.tether

/-- Every step but a full reset leaves a silent listen-only node listen-only and silent: no join runs, nothing waits, nothing is sent. -/
def Obligations.ListenOnlyStaysSilent : Prop :=
  ∀ s t : State, s.roster.join = .listenOnly → s.roster.joinFrom = none → s.rail.queue = [] → s.rail.sending = none →
    s.fullResetNext = false → step s = .next t →
    t.roster.join = .listenOnly ∧ t.roster.joinFrom = none ∧ t.rail.queue = [] ∧ t.rail.sending = none

/-- Straps change at a full reset alone; items at a full reset, an ITEM_WRITE of the host, or the last character of an accepted ASK to
write one. -/
def Obligations.StrapsAndItemsAreHeld : Prop :=
  ∀ s t : State, step s = .next t →
    (s.fullResetNext = false → t.straps = s.straps) ∧ (s.itemsMayChange = false → t.items = s.items)

/-- Every step keeps the roster's form, and the current round in the own mode set until LISTEN is entered (R108). -/
def Obligations.RosterFormIsKept : Prop :=
  ∀ s t : State, s.RosterSound → step s = .next t → t.RosterSound

/-- Every step keeps the transmit queue in class order with one waiting entry of each replaceable kind. -/
def Obligations.QueueOrderIsKept : Prop :=
  ∀ s t : State, s.rail.Ordered → step s = .next t → t.rail.Ordered

/-- Every step keeps the loads at or below their targets, each raise timer running exactly while its load is below. -/
def Obligations.LoadLevelsAreKept : Prop :=
  ∀ s t : State, s.loads.Settled → step s = .next t → t.loads.Settled

/-! ## The rail channel -/

/-- A burst of any kind and permitted length, framed with its check and heard without damage, character by character, is accepted
with its sender, payload and the times of its start mark, two characters after its beginning. The time a character takes is
assumption 1's, the bit order of the check's two characters assumption 12's. -/
def Obligations.BurstIsHeardWhole : Prop :=
  ∀ (s : State) (a : Addr) (k : BurstKind) (p : List Byte), s.powered = true → s.rail.sending = none → s.rail.rx = .hunting →
    k.lengthOk p.length = true →
    runAll (soundChars (burstFrame a k p)) s =
      .next (({ s.advance (176 * (7 + p.length)) with rail := { s.rail with courtesy := false } } : State).burstAccepted
        ⟨a, k, p, min (s.clock.tether + 352) tetherMax, s.clock.now + 352⟩)

/-- While hunting, a character changes only the time, but for an undamaged start mark, which begins a burst with the times of its
start bit and clears the courtesy flag (R7, R18); no gap is due. A gap abandons a burst and is counted (R8), at the first µs with
more than 352 µs since the last stop bit; a character that comes after an overdue gap finds it taken (assumption 10). The times
of characters and gaps are assumption 1's. -/
def Obligations.StartMarksAndGapsBoundBursts : Prop :=
  ∀ s : State, s.powered = true →
    (s.rail.rx = .hunting →
      exec .gap s = .next s ∧
      ∀ (d : Byte) (p ok : Bool), s.rail.sending = none →
        exec (.characterReceived d p ok) s = .next
          (if garbled d p ok = false ∧ d = 0xC3 then
            { s.advance 176 with rail := { s.rail with
                courtesy := false
                rx := .assembling { chars := [], latchedTether := s.clock.tether, latchedLocal := s.clock.now
                                    lastEnd := s.clock.now + 176 } } }
          else s.advance 176)) ∧
    ∀ a, s.rail.rx = .assembling a →
      exec .gap s = .next
        { s.advanceTo (a.lastEnd + 353) with
          rail := { s.rail with rx := .hunting }, counters := s.counters.add cGap 1 } ∧
      ∀ (d : Byte) (p ok : Bool), s.rail.sending = none → a.lastEnd + 352 < s.clock.now →
        exec (.characterReceived d p ok) s = exec (.characterReceived d p ok)
          { s with rail := { s.rail with rx := .hunting }, counters := s.counters.add cGap 1 }

/-- R9: while assembling, a garbled character abandons the burst and is counted; during the hunt it is not. -/
def Obligations.GarbledAbandonsBurst : Prop :=
  ∀ (s : State) (d : Byte) (p ok : Bool), s.powered = true → s.rail.sending = none → garbled d p ok = true →
    (∀ a, s.rail.rx = .assembling a → s.clock.now ≤ a.lastEnd + 352 →
      ∃ t, exec (.characterReceived d p ok) s = .next t ∧ t.rail = { s.rail with rx := .hunting } ∧
        t.counters = s.counters.add cGarbled 1 ∧
        t = { s with clock := t.clock, rail := t.rail, counters := t.counters }) ∧
    (s.rail.rx = .hunting →
      ∃ t, exec (.characterReceived d p ok) s = .next t ∧ t = { s with clock := t.clock })

/-- R10: a length character above 24 abandons the burst at once. -/
def Obligations.LongLengthAbandonsBurst : Prop :=
  ∀ (s : State) (d : Byte) (p ok : Bool) (a : Assembly), s.powered = true → s.rail.sending = none →
    s.rail.rx = .assembling a → a.chars.length = 1 → s.clock.now ≤ a.lastEnd + 352 → garbled d p ok = false →
    24 < d.toNat →
    ∃ t, exec (.characterReceived d p ok) s = .next t ∧ t.rail = { s.rail with rx := .hunting } ∧
      t.counters = s.counters.add cBadLength 1 ∧
      t = { s with clock := t.clock, rail := t.rail, counters := t.counters }

/-- R11: the second check character brings the judgement, in its order: check, kind, length; each failure counts one counter, and
a burst that passes is accepted. In every case the receiver hunts again. An accepted burst counts as RECEIVED and is handed first to
the roster and tether clock, then to the blocks R6 names for its kind (R12): a NOTICE to the power manager, an ASK or ANSWER to the
remote request controller, a MOTION to the motion controller of a SOURCE, any other kind to none beyond the roster and what the
roster tells. The 176 µs the character takes are the model's clock (assumption 1), the bit order of the check assumption 12's, that
content from sender address 0 and from the own address is still handed on assumption 16's. -/
def Obligations.WholeBurstIsJudged : Prop :=
  (∀ (s : State) (h : Heard),
    let heard := ({ s with counters := s.counters.add cReceived 1 } : State).rosterHears h
    s.burstAccepted h = heard.contentArrives h ∧
    (h.kind = .beacon ∨ h.kind = .offer ∨ h.kind = .claim ∨ h.kind = .modeset ∨ h.kind = .confirm →
      s.burstAccepted h = heard) ∧
    (h.kind = .motion → s.role ≠ .source → s.burstAccepted h = heard) ∧
    (h.kind = .motion → s.role = .source →
      s.burstAccepted h = heard.recordArrives (motionOfBytes h.payload (rebuildTether h.tether (fieldAt h.payload 2 4)))) ∧
    (h.kind = .notice → s.burstAccepted h = heard.noticeArrives h.sender (byteAt h.payload 0) (byteAt h.payload 1)) ∧
    (h.kind = .ask → s.burstAccepted h = heard.askArrives h.sender h.payload) ∧
    (h.kind = .answer → s.burstAccepted h = heard.answerArrives h.sender h.payload)) ∧
  ∀ (s : State) (d : Byte) (p ok : Bool) (a : Assembly), s.powered = true → s.rail.sending = none →
    s.rail.rx = .assembling a → s.clock.now ≤ a.lastEnd + 352 → garbled d p ok = false →
    (byteAt a.chars 1).toNat ≤ 24 → a.chars.length = 3 + (byteAt a.chars 1).toNat →
    let chars := a.chars ++ [d]
    let n := 2 + (byteAt chars 1).toNat
    let u : State := { s.advance 176 with rail := { s.rail with rx := .hunting } }
    exec (.characterReceived d p ok) s = .next
      (if chars.drop n ≠ leBytes 2 (crc16 (chars.take n)).toNat then { u with counters := s.counters.add cCheckError 1 }
      else
        match headerKind (byteAt chars 0) with
        | none => { u with counters := s.counters.add cUnknownKind 1 }
        | some k =>
          if k.lengthOk (n - 2) = false then { u with counters := s.counters.add cBadLength 1 }
          else u.burstAccepted
            ⟨headerAddr (byteAt chars 0), k, (chars.drop 2).take (n - 2), a.latchedTether, a.latchedLocal⟩)

/-- While sending, a character heard as sent goes on; one that differs, is garbled or is missing is a clash (R20): the sending stops,
CLASH is counted, the courtesy flag is cleared and the receiver hunts. Below the 8th clash the entry, with one attempt more, goes
to the head of its class, or the newer waiting entry of its replaceable kind does in its place. The 8th discards it: GIVE_UP is
counted and set, and an ASK's queued request ends with GIVE_UP (R21). Choices of the model: a character takes 176 µs (assumption 1),
while sending the receiver compares and assembles nothing (assumption 11), the 8th clash merges nothing (assumption 29). -/
def Obligations.SentCharactersAreCompared : Prop :=
  ∀ (s : State) (x : Sending), s.powered = true → s.rail.sending = some x →
    (∀ (d : Byte) (p ok : Bool), x.frame[x.heard]? = some d → garbled d p ok = false →
      exec (.characterReceived d p ok) s = .next
        { s.advance 176 with rail := { s.rail with sending := some { x with heard := x.heard + 1 } } }) ∧
    ∀ c : Instr,
      (c = .characterMissing ∨ ∃ (d sent : Byte) (p ok : Bool), c = .characterReceived d p ok ∧
        x.frame[x.heard]? = some sent ∧ (garbled d p ok = true ∨ d ≠ sent)) →
      ∃ t, exec c s = .next t ∧ t.rail.sending = none ∧ t.rail.rx = .hunting ∧ t.rail.courtesy = false ∧
        (x.entry.attempts < 7 →
          t.rail.queue =
            (match (if x.entry.kind.replaceable then s.rail.queue.find? (fun y => y.kind == x.entry.kind) else none) with
             | none =>
               s.rail.queue.takeWhile (fun y => y.kind.cls < x.entry.kind.cls) ++
                 { x.entry with attempts := x.entry.attempts + 1 } ::
                   s.rail.queue.dropWhile (fun y => y.kind.cls < x.entry.kind.cls)
             | some n =>
               let q := s.rail.queue.filter (fun y => y.id != n.id)
               q.takeWhile (fun y => y.kind.cls < x.entry.kind.cls) ++
                 { n with attempts := x.entry.attempts + 1 } :: q.dropWhile (fun y => y.kind.cls < x.entry.kind.cls)) ∧
          t.counters = s.counters.add cClash 1 ∧
          t = { s with clock := t.clock, rail := t.rail, counters := t.counters }) ∧
        (7 ≤ x.entry.attempts →
          t.rail.queue = s.rail.queue ∧ t.counters = (s.counters.add cClash 1).add cGiveUp 1 ∧ t.sticky .giveUp = true ∧
          (if x.entry.kind = .ask ∧ s.remote.state = .queued then
            t.remote = { s.remote with state := .giveUp, deadlineFrom := none } ∧ t.sticky .remoteDone = true
           else t.remote = s.remote) ∧
          t = { s with clock := t.clock, rail := t.rail, counters := t.counters, remote := t.remote
                       host := { s.host with sticky := t.host.sticky } })

/-- Other senders' keying starts and ends the quiet time (R4, R17), at a node with power or without. The head entry begins to be sent
when the quiet time reaches its wait (R17, R19), framed with the node's address and, for a BEACON, with the tether time two
characters on; nothing begins while the transmitter is held, carrier is present or no entry waits. Choices of the model: the time of
the expiry (assumption 1), the stamp as the tether time the start mark will have (assumption 14), CARRIER_DETECT as the keying of
others (assumption 15), followed without power too (assumption 8). -/
def Obligations.QuietTimeGatesSending : Prop :=
  (∀ (s : State) (present : Bool),
    exec (.carrierDetect present) s = .next { s with rail := { s.rail with
      carrierIn := present
      quietFrom := if s.rail.carrierIn = true ∧ present = false ∧ s.rail.sending = none then s.clock.now
        else s.rail.quietFrom } }) ∧
  ∀ s : State, s.powered = true →
    (s.roster.join ≠ .active ∨ s.rail.carrierIn = true ∨ s.rail.sending ≠ none ∨ s.rail.queue = [] →
      exec .quietWaitExpiry s = .next s) ∧
    ∀ (e : QEntry) (rest : List QEntry), s.roster.join = .active → s.rail.carrierIn = false → s.rail.sending = none →
      s.rail.queue = e :: rest →
      let u := s.advanceTo (s.rail.quietFrom + (1056 + s.straps.addr.toNat * 176 + e.attempts * 1408 +
        (if s.rail.courtesy then 1408 else 0)))
      let stamp := min (u.clock.tether + 352 +
        (if 0 < s.clock.slew ∧ s.clock.slewFrom + 1000 ≤ u.clock.now + 352 then 1 else 0)) tetherMax
      exec .quietWaitExpiry s = .next { u with rail := { s.rail with
        queue := rest
        stuck := none
        sending := some {
          entry := e
          frame := burstFrame s.straps.addr e.kind
            (if e.kind = .beacon then leBytes 4 stamp ++ e.payload.drop 4 else e.payload)
          startedAt := u.clock.now
          heard := 0 } } }

/-- A burst sent whole, but for the ANSWER of a served RESTART, leaves the queue (R19): SENT and the courtesy flag, the quiet time from
now unless others key, the next head's stuck timer from now; an ASK's request now awaits its ANSWER (R170). Choices of the model: the
time of the end (assumption 1), whatever was heard of it (assumption 11), the stuck timer from the end (assumption 13). -/
def Obligations.SendingCompletes : Prop :=
  ∀ (s : State) (x : Sending), s.powered = true → s.rail.sending = some x →
    (x.entry.kind = .ask ∨ s.remote.restartFrom = none ∨ s.remote.restartAnswer ≠ some x.entry.id) →
    ∃ t, exec .sendComplete s = .next t ∧
      t.clock = (s.advanceTo (x.startedAt + 176 * x.frame.length)).clock ∧
      t.rail.sending = none ∧ t.rail.courtesy = true ∧ t.rail.rx = .hunting ∧ t.rail.queue = s.rail.queue ∧
      t.rail.quietFrom = (if s.rail.carrierIn then s.rail.quietFrom else t.clock.now) ∧
      (∀ e rest, s.rail.stuck = none → s.roster.join = .active → s.rail.queue = e :: rest →
        t.rail.stuck = some (e.id, t.clock.now)) ∧
      t.counters = s.counters.add cSent 1 ∧
      t.remote = (if x.entry.kind = .ask ∧ s.remote.state = .queued then
        { s.remote with state := .awaiting, deadlineFrom := some t.clock.now } else s.remote) ∧
      t = { s with clock := t.clock, rail := t.rail, counters := t.counters, remote := t.remote }

/-- The head that has stood 500 ms is discarded (R22): STUCK_DROP and MEDIUM_STUCK, the next entry is head with its own timer, and an
ASK's queued request ends with GIVE_UP. The time of the expiry is assumption 1's, the timer's start for the next head assumption
13's. -/
def Obligations.StuckHeadIsDropped : Prop :=
  ∀ (s : State) (i t0 : Nat) (e : QEntry) (rest : List QEntry), s.powered = true → s.rail.stuck = some (i, t0) →
    s.rail.queue = e :: rest →
    ∃ t, exec .stuckDrop s = .next t ∧ t.clock = (s.advanceTo (t0 + 500000)).clock ∧ t.rail.queue = rest ∧
      (∀ h l, rest = h :: l → h.id ≠ i → s.roster.join = .active → s.rail.sending = none →
        t.rail.stuck = some (h.id, t.clock.now)) ∧
      t.counters = s.counters.add cStuckDrop 1 ∧ t.sticky .mediumStuck = true ∧
      (if e.kind = .ask ∧ s.remote.state = .queued then
        t.remote = { s.remote with state := .giveUp, deadlineFrom := none } ∧ t.sticky .remoteDone = true
       else t.remote = s.remote) ∧
      t = { s with clock := t.clock, rail := t.rail, counters := t.counters, remote := t.remote
                   host := { s.host with sticky := t.host.sticky } }

/-- What an offered burst does to the transmit queue (R14, R15, R16): nothing at a listen-only node; in the place of a waiting one
of its replaceable kind, whose payload alone changes; else at the end of its class with attempt count 0, after the newest waiting BEACON or MOTION has made
room in a queue of 8; else it is refused and counted. -/
def Obligations.OfferedBurstIsQueued : Prop :=
  ∀ (s : State) (k : BurstKind) (p : List Byte),
    let waits := k.replaceable = true ∧ ∃ e ∈ s.rail.queue, e.kind = k
    let last (q : List QEntry) := q.takeWhile (fun x => x.kind.cls ≤ k.cls) ++
      ⟨s.rail.nextId, k, p, 0⟩ :: q.dropWhile (fun x => x.kind.cls ≤ k.cls)
    (s.roster.join = .listenOnly → s.offerBurst k p = s) ∧
    (s.roster.join ≠ .listenOnly → waits →
      (∃ before e behind, s.rail.queue = before ++ e :: behind ∧ e.kind = k ∧ (∀ x ∈ before, x.kind ≠ k) ∧
          (s.offerBurst k p).rail.queue = before ++ { e with payload := p } :: behind) ∧
        s.offerBurst k p = { s with rail := { s.rail with queue := (s.offerBurst k p).rail.queue } }) ∧
    (s.roster.join ≠ .listenOnly → ¬ waits → s.rail.size < 8 →
      (s.offerBurst k p).rail.queue = last s.rail.queue ∧
        s.offerBurst k p = { s with rail := { s.rail with
          queue := last s.rail.queue, nextId := s.rail.nextId + 1, stuck := (s.offerBurst k p).rail.stuck } }) ∧
    (s.roster.join ≠ .listenOnly → ¬ waits → 8 ≤ s.rail.size → ∀ e, newestPeriodic s.rail.queue = some e →
      (e.kind = .beacon ∨ e.kind = .motion) ∧ e ∈ s.rail.queue ∧
        (∀ x ∈ s.rail.queue, x.kind = .beacon ∨ x.kind = .motion → x.id ≤ e.id) ∧
        (s.offerBurst k p).rail.queue = last (s.rail.queue.filter (fun x => x.id != e.id)) ∧
        (s.offerBurst k p).counters = s.counters) ∧
    (s.roster.join ≠ .listenOnly → ¬ waits → 8 ≤ s.rail.size → newestPeriodic s.rail.queue = none →
      (∀ x ∈ s.rail.queue, x.kind ≠ .beacon ∧ x.kind ≠ .motion) ∧ (s.offerBurst k p).rail = s.rail ∧
        (s.offerBurst k p).counters = s.counters.add cQueueFull 1 ∧
        (s.offerBurst k p).remote =
          (if k = .ask ∧ s.remote.state = .queued then { s.remote with state := .giveUp, deadlineFrom := none } else s.remote))

/-! ## Joining, roster and tether clock -/

/-- At the end of the join (R28) the node is ACTIVE with its BEACON period running; its first bursts wait in class order among those
queued while it was JOINING (R13, R16), which stay as they stood: the offer and the claim before the BEACON, each behind what waits of
its class, a BATTERY's offer before its claim by the model's choice (assumption 38); in a queue without room they are taken in turn as
any offered burst is (R15). A picture-path node opens a
round, or halts when its chain is incomplete or its mode set empty (R96), and its own mode set holds the new round if LISTEN was not
entered since the reset (R108). The time of the expiry is assumption 1's. -/
def Obligations.JoinEndsActive : Prop :=
  ∀ (s : State) (t0 : Nat), s.powered = true → s.roster.join = .joining → s.roster.joinFrom = some t0 →
    s.rail.sending = none → (∀ e ∈ s.rail.queue, e.kind ≠ .beacon ∧ e.kind ≠ .offer ∧ e.kind ≠ .claim) →
    s.roster.self.offer.isSome = atSupplier s.role → s.roster.self.claim.isSome = !atSource s.role →
    let first : List BurstKind := match s.role with
      | .source => [.beacon, .offer]
      | .relay => [.beacon, .claim]
      | .headset => [.beacon, .claim]
      | .battery => [.beacon, .offer, .claim]
    let behind (q : List BurstKind) (k : BurstKind) : List BurstKind :=
      q.takeWhile (fun x => x.cls ≤ k.cls) ++ k :: q.dropWhile (fun x => x.cls ≤ k.cls)
    let payload (k : BurstKind) : List Byte := match k with
      | .beacon => s.beaconPayload
      | .offer => (s.roster.self.offer.map offerPayload).getD []
      | _ => (s.roster.self.claim.map claimPayload).getD []
    let offered : State := first.foldl (fun u k => u.offerBurst k (payload k)) s
    ∃ t, exec .joinTimerExpiry s = .next t ∧ t.clock = (s.advanceTo (t0 + 250000)).clock ∧
      t.roster.join = .active ∧ t.roster.joinFrom = none ∧ t.roster.beaconFrom = some t.clock.now ∧
      (s.rail.queue.length + first.length ≤ 8 →
        t.rail.queue.map QEntry.kind = first.foldl behind (s.rail.queue.map QEntry.kind) ∧
        t.rail.queue.filter (fun e => !first.contains e.kind) = s.rail.queue ∧ t.counters = s.counters) ∧
      t.rail.queue = offered.rail.queue ∧ t.counters = offered.counters ∧
      (s.role = .battery → t.agree = s.agree) ∧
      (s.role ≠ .battery → s.roster.chainComplete = false →
        t.agree.state = .halted ∧ t.agree.reason = .chainIncomplete ∧ t.agree.round = s.agree.round) ∧
      (s.role ≠ .battery → s.roster.chainComplete = true → s.power.modeSet = [] →
        t.agree.state = .halted ∧ t.agree.reason = .ownSetEmpty ∧ t.agree.round = s.agree.round) ∧
      (s.role ≠ .battery → s.roster.chainComplete = true → s.power.modeSet ≠ [] →
        t.agree = { s.agree with state := .settle, round := s.agree.round + 1, chosen := none, reason := .joinDone
                                 stepFrom := some t.clock.now } ∧
        ∀ m, s.roster.self.modeSet = some m → t.roster.self.modeSet =
          some (if s.agree.listened then m else { m with round := s.agree.round + 1 })) ∧
      t = { s with
        clock := t.clock, rail := t.rail
        roster := { t.roster with peers := s.roster.peers }
        power := { s.power with offerFrom := t.power.offerFrom, claimFrom := t.power.claimFrom }
        loads := t.loads, agree := t.agree, lanes := t.lanes, sliceSource := t.sliceSource
        motionHeadset := t.motionHeadset, counters := t.counters }

/-- A peer not heard for 350 ms is removed from the roster, with PEER_LEFT (R38), and so is one that sends NOTICE LEAVING, at once (R39);
what the removal is told to stays within the path of power and agreement (R37): the allowance computation, the grace, the cap and the
mode set follow an offer or claim removed (R58, R63, R64, R86), a SOURCE's schedule copy an anchor removed (R119). The removal of a
picture-path entry is a path change (R93): at a node that takes triggers it opens a round with PATH_CHANGED, or halts for an incomplete
chain or an empty own set (R96), after the round that a changed mode set opens (assumption 18). A NOTICE LEAVING from an address
with no entry changes nothing. The time of the expiry is assumption 1's, no grade in HALTED assumption 20's, a change of the ceiling
alone assumption 40's. -/
def Obligations.SilentPeerIsRemoved : Prop :=
  let removed (s : State) (a : Addr) (e : Entry) (t : State) : Prop :=
    s.SupplyFollows (e.offer.isSome || e.claim.isSome) t ∧ s.ScheduleFollows t ∧ s.AgreeFollows e.onPath t ∧
    t.roster.find a = none ∧ t.roster.peers = s.roster.peers.filter (fun x => x.addr != a) ∧ t.sticky .peerLeft = true ∧
      State.PathFrame { s with roster := { s.roster with peers := s.roster.peers.filter (fun x => x.addr != a) } } t
  (∀ (s : State) (a : Addr) (e : Entry) (t0 : Nat), s.powered = true → s.roster.find a = some e → e.lastHeard = some t0 →
    ∃ t, exec (.peerLeft a) s = .next t ∧ t.clock = (s.advanceTo (t0 + 350000)).clock ∧ removed s a e t) ∧
  ∀ (s : State) (h : Heard), h.kind = .notice → byteAt h.payload 0 = 4 → h.sender ≠ 0 → h.sender ≠ s.straps.addr →
    (s.roster.find h.sender = none → s.rosterHears h = s ∧ s.contentArrives h = s) ∧
    ∀ e, s.roster.find h.sender = some e →
      let t := s.rosterHears h
      removed s h.sender e t ∧ t.clock = s.clock ∧ t.contentArrives h = t

/-- A burst from a peer's address enters or refreshes that address's entry (R35, R36): its latched local time, and what its kind
carries; a new entry sets PEER_JOINED. No other entry changes. A NOTICE LEAVING is not such a burst (R39). A changed offer or claim
runs the allowance computation over the roster as it then stands, while a supplier entry is in it: its list stands, the short case
sets SUPPLY_SHORT, the grace is cancelled and the cap formed again; with no supplier entry left the list is kept and the grace starts
(R58, R63, R64, R86). A SOURCE's copy of the schedule becomes the anchor of the lowest-addressed HEADSET entry that holds one, and a
change of it closes the open submission (R119). A BEACON that adds the entry to the picture path or takes it off is a path change (R93):
at a node that takes triggers it opens a round with PATH_CHANGED, or halts for an incomplete chain or an empty own set (R96), after the
round that a changed mode set opens (assumption 18); what a MODESET or CONFIRM does to the round is SettleEndsInListen's. No grade in
HALTED is assumption 20's, a change of the ceiling alone assumption 40's. -/
def Obligations.BurstUpdatesItsSendersEntry : Prop :=
  ∀ (s : State) (h : Heard), s.RosterSound → h.sender ≠ 0 → h.sender ≠ s.straps.addr →
    ¬ (h.kind = .notice ∧ byteAt h.payload 0 = 4) → (s.roster.peers.length < 6 ∨ s.roster.find h.sender ≠ none) →
    let t := s.rosterTakes h
    t.roster.find h.sender =
      some (Entry.take h { (s.roster.find h.sender).getD (newEntry h.sender) with lastHeard := some h.local' }) ∧
    (∀ a, a ≠ h.sender → t.roster.find a = s.roster.find a) ∧
    (s.roster.find h.sender = none → t.sticky .peerJoined = true) ∧
    (let old := (s.roster.find h.sender).getD (newEntry h.sender)
     let new := Entry.take h old
     s.SupplyFollows (decide (old.offer ≠ new.offer) || decide (old.claim ≠ new.claim)) t ∧
     (h.kind ≠ .modeset → h.kind ≠ .confirm → s.AgreeFollows (decide (old.onPath ≠ new.onPath)) t)) ∧
    s.ScheduleFollows t ∧
    (∀ e a, s.role = .source → e ∈ t.roster.entries → e.role = some .headset → e.anchor = some a →
      (∀ x ∈ t.roster.entries, x.role = some .headset → x.anchor ≠ none → e.addr.toNat ≤ x.addr.toNat) →
      t.sliceSource.schedule = some a) ∧
    t.roster.join = s.roster.join ∧ t.straps = s.straps ∧ t.clock = s.clock ∧ t.items = s.items ∧
    t.motionSource = s.motionSource ∧ t.audioSource = s.audioSource ∧ t.remote = s.remote

/-- What a node announces, its peers store as it stood: the payloads of OFFER, CLAIM, MODESET and CONFIRM read back as the fields they
were formed from, where the entry's role permits them (R34, R36); an entry whose role does not stays as it is. A BEACON of usable
form sets role and lane summary, what the new role does not permit goes, and the anchor is kept, rebuilt or removed by the period
code; any other BEACON leaves the entry as it is (R34, R44). -/
def Obligations.AnnouncementsReadBack : Prop :=
  ∀ (e : Entry) (a : Addr) (lt ll : Nat),
    (∀ o : Offer, o.current ≤ 65535 →
      Entry.take ⟨a, .offer, offerPayload o, lt, ll⟩ e =
        if e.role = some .relay ∨ e.role = some .headset then e else { e with offer := some o }) ∧
    (∀ c : Claim, c.floor ≤ 65535 → c.want ≤ 65535 → c.cls ≤ 255 →
      Entry.take ⟨a, .claim, claimPayload c, lt, ll⟩ e =
        if e.role = some .source then e else { e with claim := some c }) ∧
    (∀ (r : Half) (c : Grade) (l : List Grade),
      Entry.take ⟨a, .modeset, modeSetPayload r c l, lt, ll⟩ e =
        if e.role = some .battery then e else { e with modeSet := some ⟨r, l.map gradeCode, gradeCode c⟩ }) ∧
    (∀ (r : Half) (g : Grade),
      Entry.take ⟨a, .confirm, confirmPayload r (some g), lt, ll⟩ e =
        if e.role = some .battery then e else { e with confirm := some ⟨r, gradeCode g⟩ }) ∧
    ∀ p : List Byte,
      let t := Entry.take ⟨a, .beacon, p, lt, ll⟩ e
      let usable (r : Role) := byteAt p 4 = r.code ∧ p.length = (if r = .headset then 11 else 6)
      ((∀ r, ¬ usable r) → t = e) ∧
      ∀ r, usable r →
        (∃ anchor, t = { e with
          role := some r, summary := some (byteAt p 5)
          offer := if r = .source ∨ r = .battery then e.offer else none
          claim := if r = .source then none else e.claim
          modeSet := if r = .battery then none else e.modeSet
          confirm := if r = .battery then none else e.confirm
          anchor := anchor }) ∧
        (r ≠ .headset → t.anchor = none) ∧
        (r = .headset →
          let code := (byteAt p 10).toNat
          let field := fieldAt p 6 4
          (code ≠ 1 → code ≠ 2 → t.anchor = none) ∧
          (code = 1 ∨ code = 2 →
            (∀ x, e.anchor = some x → x.time % 2 ^ 32 = field → t.anchor = some ⟨x.time, decide (code = 2)⟩) ∧
            ((∀ x, e.anchor = some x → x.time % 2 ^ 32 ≠ field) →
              t.anchor = some ⟨rebuildTether lt field, decide (code = 2)⟩)))

/-- A node that hears a burst from its own address becomes listen-only (R30): ADDRESS_CLASH, the join timer and the periods stopped,
the sending stopped and the queue emptied uncounted, an ASK's queued request ended with GIVE_UP (R16), the peers untouched. So does a
SOURCE that hears a usable BEACON of a SOURCE at a lower address, with ROLE_CLASH, and its roster takes the BEACON still (R31); a
SOURCE at a higher address and any other role clash not. A burst that is no clash goes to the roster and a BEACON of usable form then
to the tether clock, with the latched tether time and its stamp (R35, R47); one from sender address 0 changes nothing. At a node already listen-only only the flag is set, a ROLE_CLASH there by
the model's inference (assumption 19). That a BEACON from sender address 0 counts as a lower one and moves no clock is the model's
inference (assumption 16); that the clash is judged before the BEACON enters the roster, so that no round changes, its choice
(assumption 18). -/
def Obligations.AddressClashSilencesNode : Prop :=
  ∀ (s : State) (h : Heard),
    let t := s.rosterHears h
    let flagged (f : Flag) : State := { s with host := { s.host with sticky := s.host.sticky ||| f.bit } }
    let silenced (u : State) : Prop :=
      u.roster.join = .listenOnly ∧ u.roster.joinFrom = none ∧ u.roster.beaconFrom = none ∧ u.rail.queue = [] ∧
      u.rail.sending = none ∧ u.counters = s.counters ∧ u.power.offerFrom = none ∧ u.power.claimFrom = none ∧
      (s.remote.state = .queued → u.remote.state = .giveUp) ∧ (s.remote.state ≠ .queued → u.remote = s.remote) ∧
      (s.role ≠ .battery → u.agree.state = .halted ∧ u.agree.reason = .listenOnly ∧ u.agree.round = s.agree.round) ∧
      u.straps = s.straps ∧ u.items = s.items ∧ u.motionSource = s.motionSource ∧ u.audioSource = s.audioSource
    let roleClash := s.role = .source ∧ h.kind = .beacon ∧ beaconRole h.payload = some .source ∧
      h.sender.toNat < s.straps.addr.toNat
    let stored (u : State) : State :=
      if h.sender = 0 then u else (u.rosterTakes h).clockHears h.tether (fieldAt h.payload 0 4)
    (h.sender = s.straps.addr → s.straps.addr ≠ 0 →
      (s.roster.join ≠ .listenOnly →
        silenced t ∧ t.sticky .addressClash = true ∧ t.roster.peers = s.roster.peers ∧ t.clock = s.clock) ∧
      (s.roster.join = .listenOnly → t = flagged .addressClash)) ∧
    (roleClash →
      (s.roster.join ≠ .listenOnly →
        silenced t ∧ t.sticky .roleClash = true ∧ t.sticky .addressClash = s.sticky .addressClash ∧
        (h.sender = 0 → t.roster.peers = s.roster.peers) ∧
        (h.sender ≠ 0 → s.RosterSound → s.roster.peers.length < 6 ∨ s.roster.find h.sender ≠ none →
          t.roster.find h.sender = some (Entry.take h
            { (s.roster.find h.sender).getD (newEntry h.sender) with lastHeard := some h.local' }))) ∧
      (s.roster.join = .listenOnly → t = stored (flagged .roleClash))) ∧
    (¬ roleClash → h.sender = 0 → t = s) ∧
    (¬ roleClash → h.sender ≠ 0 → h.sender ≠ s.straps.addr →
      let usable (r : Role) := byteAt h.payload 4 = r.code ∧ h.payload.length = (if r = .headset then 11 else 6)
      (∀ r, h.kind = .beacon → usable r → t = (s.rosterTakes h).clockHears h.tether (fieldAt h.payload 0 4)) ∧
      (h.kind ≠ .beacon ∨ (∀ r, ¬ usable r) → t = s.rosterTakes h)) ∧
    (¬ roleClash → t.sticky .roleClash = s.sticky .roleClash ∧
      (h.sender ≠ s.straps.addr ∨ s.straps.addr = 0 → t.roster.join = s.roster.join ∧
        t.sticky .addressClash = s.sticky .addressClash))

/-- A usable BEACON's stamp against the latched tether time (R47): 64 µs or more ahead steps the clock and ends slewing, 1 to 63 raises
the pending slew, else nothing changes. Only a HEADSET's slice and audio controllers act on a step: one below the slice interval
scans the index it passed, a longer one moves the scan position to the first frame from now and counts the frame's rest as SKIPPED
(R126); a block the step made late leaves the playback queue, and a waiting output may start (R157). A slew tick (R48) moves the
clock by one extra µs and the slew down by one. The size of a step and the frame in progress are assumption 27's, the time of a tick
assumption 1's. -/
def Obligations.TetherClockIsSteered : Prop :=
  (∀ (s : State) (latched field : Nat),
    let stamp := rebuildTether latched field
    let t := s.clockHears latched field
    let size := stamp - latched
    (latched + 64 ≤ stamp →
      t.clock = { s.clock with tether := min (s.clock.tether + size) tetherMax, slew := 0 } ∧
      (s.role ≠ .headset → t = { s with clock := t.clock }) ∧
      t = { s with clock := t.clock, lanes := t.lanes, sliceHeadset := t.sliceHeadset, audioHeadset := t.audioHeadset
                   counters := { s.counters with picture := t.counters.picture, audio := t.counters.audio } } ∧
      (s.role = .headset → s.powered = true →
        let now := t.clock.tether
        let h := s.sliceHeadset
        let p := if s.straps.refresh120 then 8333 else 11111
        let scanAsBefore := t.sliceHeadset = h ∧ t.lanes = s.lanes ∧ t.counters.picture = s.counters.picture
        (h.anchor = none → scanAsBefore) ∧
        (∀ a, h.anchor = some a →
          (size < p / 12 → now < a + h.frame * p + h.index * p / 12 → scanAsBefore) ∧
          (size < p / 12 → a + h.frame * p + h.index * p / 12 ≤ now →
            ∃ u, exec .sliceScan { s with clock := t.clock } = .next u ∧ t.sliceHeadset = u.sliceHeadset ∧
              t.lanes = u.lanes ∧ t.counters.picture = u.counters.picture) ∧
          (p / 12 ≤ size →
            ∃ n, t.sliceHeadset = { h with frame := n, index := 0, notFresh := 0 } ∧
              now ≤ a + n * p ∧ (∀ m, m < n → a + m * p < now) ∧ t.lanes = s.lanes ∧
              t.counters.picture = (s.counters.add cSkipped (if h.index = 0 then 0 else 12 - h.index)).picture)) ∧
        (let a := s.audioHeadset
         let audioAsBefore := t.audioHeadset = a ∧ t.counters.audio = s.counters.audio
         (a.queue = [] → audioAsBefore) ∧ (∀ j, a.output = .ramping j → audioAsBefore) ∧
         (∀ b rest, a.output = .playing → a.queue = b :: rest → now ≤ b.lastTime → audioAsBefore) ∧
         (∀ b rest, a.queue = b :: rest → a.output = .waiting ∨ (a.output = .playing ∧ b.lastTime < now) →
           ∃ late kept, a.queue = late ++ kept ∧ (∀ x ∈ late, x.lastTime < now) ∧
             (∀ x ∈ late, 48 ≤ x.frames.length ∨ (a.output = .playing ∧ x = b)) ∧ (a.output = .playing → late ≠ []) ∧
             (∀ x l, kept = x :: l → x.frames.length < 48 ∨ now ≤ x.lastTime) ∧
             (late = [] → t.counters.audio = s.counters.audio) ∧
             (late ≠ [] → t.counters.audio[1]? = (s.counters.audio[1]?).map (fun v => min (v + late.length) 65535)) ∧
             (a.output = .playing → t.audioHeadset = { a with queue := kept, twice := false }) ∧
             (a.output = .waiting →
               ((∀ x l, kept = x :: l → now < x.headTime) → t.audioHeadset = { a with queue := kept }) ∧
               (∀ x l, kept = x :: l → x.headTime ≤ now → t.audioHeadset = { a with
                 queue := kept, output := .playing, slipFrom := some t.clock.now, twice := false, underrun := false })))))) ∧
    (latched < stamp → stamp < latched + 64 →
      t.clock.slew = max s.clock.slew size ∧ t.clock.tether = s.clock.tether ∧ t.clock.now = s.clock.now ∧
      t = { s with clock := t.clock }) ∧
    (stamp ≤ latched → t = s)) ∧
  ∀ s : State, s.powered = true →
    (s.clock.slew = 0 → exec .slewTick s = .next s) ∧
    (0 < s.clock.slew →
      let u := s.advanceTo (s.clock.slewFrom + 1000)
      exec .slewTick s = .next { u with clock := {
        now := u.clock.now, tether := min (u.clock.tether + 1) tetherMax, slew := s.clock.slew - 1
        slewFrom := s.clock.slewFrom + 1000 } })

/-- A 32-bit field rebuilt to 48 bits (R46): of the values from 0 to 2^48 − 1 with the field's low 32 bits, the nearest to the
reference, the later of two equally near. -/
def Obligations.RebuiltTimeIsNearest : Prop :=
  ∀ reference field : Nat, reference ≤ 2 ^ 48 - 1 → field < 2 ^ 32 →
    let v := rebuildTether reference field
    v ≤ 2 ^ 48 - 1 ∧ v % 2 ^ 32 = field ∧
      ∀ w, w ≤ 2 ^ 48 - 1 → w % 2 ^ 32 = field →
        distance reference v ≤ distance reference w ∧ (distance reference v = distance reference w → w ≤ v)

/-- A BEACON, an OFFER and a CLAIM are offered each time their own period runs out, and the period starts again (R43, R57): the BEACON's
from the time it was due, the others' from the offering (assumption 1). -/
def Obligations.PeriodicBurstsAreOffered : Prop :=
  ∀ (s : State) (t0 : Nat), s.powered = true → s.roster.join = .active →
    (s.roster.beaconFrom = some t0 →
      exec .beaconPeriod s = .next
        (({ s.advanceTo (t0 + 100000) with roster := { s.roster with beaconFrom := some (t0 + 100000) } } : State).offerBurst .beacon
          ([0, 0, 0, 0, s.role.code, s.roster.self.summary.getD 7] ++
            (if s.role = .headset then
              (match s.roster.self.anchor with
               | some a => leBytes 4 a.time ++ [if a.period120 then 2 else 1]
               | none => [0, 0, 0, 0, 0])
             else [])))) ∧
    (∀ o, s.power.offerFrom = some t0 → s.roster.self.offer = some o →
      let u := s.advanceTo (t0 + 400000)
      exec (.offerClaimPeriod .offer) s = .next
        (({ u with power := { s.power with offerFrom := some u.clock.now } } : State).offerBurst .offer
          (leBytes 2 o.current ++ [o.state]))) ∧
    (∀ c, s.power.claimFrom = some t0 → s.roster.self.claim = some c →
      let u := s.advanceTo (t0 + 400000)
      exec (.offerClaimPeriod .claim) s = .next
        (({ u with power := { s.power with claimFrom := some u.clock.now } } : State).offerBurst .claim
          (leBytes 2 c.floor ++ leBytes 2 c.want ++ [BitVec.ofNat 8 c.cls])))

/-! ## Offers, claims and allowances -/

/-- A BATTERY's supplier state follows its two inputs outside TRIP_HOLD (R51), and its own offer with it; in TRIP_HOLD a change of
supply-ready alone moves nothing, the rail's fall is noted, its rise after a fall and the 2,000 ms end the hold into the state the
inputs give. An accepted NOTICE TRIP puts it into TRIP_HOLD from any state, with an offer of 0, the hold's timer afresh and no fall
seen (R51, R83). A changed offer of its own is announced at once while ACTIVE, its period restarted (R56, R57), and runs the computation
(R58, R63, R64). The time of the expiry is assumption 1's. -/
def Obligations.BatteryStateFollowsInputs : Prop :=
  (∀ (s : State) (sender : Addr) (p : List Byte) (lt ll : Nat), s.role = .battery → byteAt p 0 = 2 →
    let t := s.contentArrives ⟨sender, .notice, p, lt, ll⟩
    t.power.supplier = some .tripHold ∧ t.power.holdFrom = some s.clock.now ∧ t.power.fallSeen = false ∧
      t.power.lastTrip = ⟨sender, byteAt p 1⟩ ∧ t.sticky .tripped = true ∧
      t.roster.self.offer = some ⟨0, SupplierState.tripHold.code⟩ ∧ t.clock = s.clock ∧
      s.SupplyFollows (decide (s.roster.self.offer ≠ t.roster.self.offer)) t ∧ s.Announced t ∧ t.agree = s.agree ∧
      s.PathRailFrame t) ∧
  ∀ s : State, s.powered = true → s.role = .battery →
    let given (ready present : Bool) : SupplierState :=
      if ready = false then .notReady else if present then .injecting else .noRail
    let follows (c : Instr) (ready present : Bool) : Prop :=
      ∃ t, exec c s = .next t ∧ t.power.supplier = some (given ready present) ∧ t.power.supplyReady = ready ∧
        t.power.railPresent = present ∧
        t.roster.self.offer = some ⟨if given ready present = .injecting then s.offerLevel else 0, (given ready present).code⟩ ∧
        s.SupplyFollows (decide (s.roster.self.offer ≠ t.roster.self.offer)) t ∧ s.Announced t ∧ t.agree = s.agree ∧
        s.PathRailFrame t
    (s.power.supplier ≠ some .tripHold →
      (∀ ready, follows (.supplyReadyChange ready) ready s.power.railPresent) ∧
      (∀ mv, follows (.railPresentChange mv) s.power.supplyReady (decide (2000 ≤ mv))) ∧
      exec .tripHoldExpiry s = .next s) ∧
    (s.power.supplier = some .tripHold →
      (∀ ready, exec (.supplyReadyChange ready) s = .next { s with power := { s.power with supplyReady := ready } }) ∧
      (∀ mv, s.power.railPresent = true → mv < 2000 →
        exec (.railPresentChange mv) s = .next { s with power := { s.power with railPresent := false, fallSeen := true } }) ∧
      (∀ mv, s.power.railPresent = false → 2000 ≤ mv → s.power.fallSeen = false →
        exec (.railPresentChange mv) s = .next { s with power := { s.power with railPresent := true } }) ∧
      (∀ mv, s.power.railPresent = false → 2000 ≤ mv → s.power.fallSeen = true →
        follows (.railPresentChange mv) s.power.supplyReady true) ∧
      (∀ t0, s.power.holdFrom = some t0 →
        follows .tripHoldExpiry s.power.supplyReady s.power.railPresent ∧
        ∀ t, exec .tripHoldExpiry s = .next t → t.power.holdFrom = none ∧ t.clock = (s.advanceTo (t0 + 2000000)).clock))

/-- R59: the totals the computation forms first; with one SOURCE (at most 3,000 mA) and up to two BATTERY nodes (at most 1,500 mA) at
most 6,000 mA in all. -/
def Obligations.TotalsAreFormed : Prop :=
  ∀ r : Roster,
    let l := computeAllowances r
    l.total = (r.entries.map (fun e => match e.offer with | some o => o.current | none => 0)).sum ∧
    16 * l.reserve < l.total + 16 ∧ l.total ≤ 16 * l.reserve ∧ l.budget = l.total - l.reserve ∧
    (l.reserve = 0 ↔ l.total = 0) ∧
    (let offers := r.entries.filterMap (fun e => e.offer.map Offer.current)
     offers.length ≤ 3 → (∀ x ∈ offers, x ≤ 3000) → (offers.filter (fun x => decide (1500 < x))).length ≤ 1 → l.total ≤ 6000)

/-- The allowances of a computation (R60, R61, R62): every claimant, its claim read as R55 has it, is granted, in address order; supply
short parks all at 15 mA; else claimants are parked in parking order, class 2 first and the highest address first, until the committed
sum first fits; then the surplus goes to the unparked by class, class 0 first, each its want where the class's demand fits and else its
floor and its share, rounded down. The sum stays within the budget. That the list shows a received class above 2 as class 2 is the
model's choice (assumption 45). -/
def Obligations.AllowancesFitTheBudget : Prop :=
  ∀ r : Roster,
    let l := computeAllowances r
    let cs := r.entries.filterMap (fun e => e.claim.map (fun c =>
      (⟨e.addr, min c.cls 2, c.floor, max c.want c.floor⟩ : Claimant)))
    let order := [2, 1, 0].flatMap (fun k => (cs.filter (fun c => c.cls == k)).reverse)
    l.grants.map (fun g => (g.addr, g.cls)) = cs.map (fun c => (c.addr, c.cls)) ∧
    (l.short = true ↔ l.budget < 15 * cs.length) ∧
    (l.short = true → ∀ g ∈ l.grants, g.parked = true ∧ g.allowance = 15) ∧
    (l.short = false →
      (l.grants.map Grant.allowance).sum ≤ l.budget ∧
      let out (n : Nat) (c : Claimant) : Bool := ((order.take n).map Claimant.addr).contains c.addr
      let committed (n : Nat) : Nat := (cs.map (fun c => if out n c then 15 else c.floor)).sum
      ∃ n, n ≤ order.length ∧ committed n ≤ l.budget ∧ (∀ m, m < n → l.budget < committed m) ∧
        let demand (k : Nat) : Nat := ((cs.filter (fun c => c.cls == k && !out n c)).map (fun c => c.want - c.floor)).sum
        let surplus (k : Nat) : Nat :=
          l.budget - committed n - (if 0 < k then demand 0 else 0) - (if 1 < k then demand 1 else 0)
        ∀ p ∈ l.grants.zip cs,
          p.1.parked = out n p.2 ∧
          (p.1.parked = true → p.1.allowance = 15) ∧
          (p.1.parked = false →
            p.1.allowance = (if demand p.2.cls ≤ surplus p.2.cls then p.2.want
              else p.2.floor + surplus p.2.cls * (p.2.want - p.2.floor) / demand p.2.cls) ∧
            p.2.floor ≤ p.1.allowance ∧ p.1.allowance ≤ p.2.want))

/-- The effective cap (R65), by its four cases, and its bounds. The floors in it are those of the claims (R54): none at a SOURCE, 15 mA of
both at a BATTERY in class 2; at a RELAY and a HEADSET the base and the loads at their floor levels, and a want with the loads at
their wanted levels, the lane at the effective ceiling, in classes 0 and 1 (R72, R73). -/
def Obligations.EffectiveCapByCases : Prop :=
  (∀ s : State,
    let ceiling := gradeNum s.effectiveCeiling
    let cost (l : List Nat) (level : Nat) : Nat := l.getD level 0
    (s.role = .source → s.ownClaim = none) ∧
    (s.role = .battery → s.ownClaim = some ⟨15, 15, 2⟩) ∧
    (s.role = .relay → s.ownClaim = some ⟨40 + 60, 40 + cost [0, 60, 85, 110, 135] ceiling, 0⟩) ∧
    (s.role = .headset → s.item itemPanelWant ≤ 4 → s.item itemAudioWant ≤ 3 → s.item itemMotionWant ≤ 3 →
      s.ownClaim = some ⟨120 + 80 + 250 + 0 + 6, 120 + cost [0, 80, 110, 140, 170] ceiling +
        cost [0, 250, 400, 550, 700] (s.item itemPanelWant) + cost [0, 20, 45, 90] (s.item itemAudioWant) +
        cost [0, 4, 6, 9] (s.item itemMotionWant), 1⟩)) ∧
  ∀ s : State, s.tetherPowered = true →
    let floor := if s.role = .relay then 100 else 456
    (s.parked = true → s.effectiveCap = 15) ∧
    (s.parked = false → s.floorsHold = true → s.effectiveCap = floor) ∧
    (s.parked = false → s.floorsHold = false → s.power.allowances = none → s.effectiveCap = floor) ∧
    (∀ g, s.parked = false → s.floorsHold = false → s.ownGrant = some g →
      s.effectiveCap = g.allowance - s.power.droop * (g.allowance - floor) / 4) ∧
    (∀ g, s.parked = false → s.ownGrant = some g → floor ≤ g.allowance → s.power.droop ≤ 4 →
      floor ≤ s.effectiveCap ∧ s.effectiveCap ≤ g.allowance)

/-- The targets of a HEADSET that is not parked (R75, R76): the lane at its pinned level, no load above its wanted level; the wanted
levels where they fit the cap; a load is lowered only when those before it in shed order stand at their floors; and the total fits
the cap unless every sheddable load stands at or below its floor. A total is the base cost and the cost of each load's level, by the
tables of R72 and R73; a RELAY's one target is its pinned level. Parked, every target is 0, every level falls to 0 at once and the
whole panel is dark (R80; the joining of level and panel is assumption 43). -/
def Obligations.TargetsFitTheCap : Prop :=
  (∀ l : Levels, l.lane ≤ 4 → l.panel ≤ 4 → l.audio ≤ 3 → l.motion ≤ 3 →
    let cost (table : List Nat) (level : Nat) : Nat := table.getD level 0
    totalCost .relay l = 40 + cost [0, 60, 85, 110, 135] l.lane ∧
    totalCost .headset l = 120 + cost [0, 80, 110, 140, 170] l.lane + cost [0, 250, 400, 550, 700] l.panel +
      cost [0, 20, 45, 90] l.audio + cost [0, 4, 6, 9] l.motion) ∧
  (∀ s : State, s.role = .relay → s.parked = false → s.targets = ⟨s.pinnedLane, 0, 0, 0⟩) ∧
  (∀ s : State, s.tetherPowered = true → s.parked = true →
    s.targets = ⟨0, 0, 0, 0⟩ ∧ s.plan.loads.current = ⟨0, 0, 0, 0⟩ ∧ ∀ place ∈ s.plan.panelPort, place = none) ∧
  ∀ s : State, s.role = .headset → s.parked = false → s.item itemPanelWant ≤ 4 → s.item itemAudioWant ≤ 3 →
    s.item itemMotionWant ≤ 3 →
    let w : Levels := ⟨s.pinnedLane, s.item itemPanelWant, s.item itemAudioWant, s.item itemMotionWant⟩
    let l := s.targets
    l.lane = s.pinnedLane ∧ l.panel ≤ w.panel ∧ l.audio ≤ w.audio ∧ l.motion ≤ w.motion ∧
    (totalCost .headset w ≤ s.loads.cap → l = w) ∧
    (totalCost .headset l ≤ s.loads.cap ∨ (l.panel ≤ 1 ∧ l.audio = 0 ∧ l.motion ≤ 2)) ∧
    ∀ pre post k, shedOrder (s.item itemShedOrder) = pre ++ k :: post → l.get k < w.get k →
      loadFloor k ≤ l.get k ∧ ∀ j ∈ pre, l.get j ≤ loadFloor j

/-! ## Loads, droop and supply faults -/

/-- Return delays and raises are paced. A grade still a candidate after 2,000 ms has completed its delay and stands in the mode set,
BASE_FORCED aside (R68, R69); one that is none loses it; an expiry taken first in the event that cancels it changes no set and hands
nothing on (R68, assumption 22). A changed set opens a round with SET_CHANGED, or halts where it has become empty (R96, R107). A load
below its target rises one level after 50 ms, its timer starting again while it is still below (R77). The times of the expiries are
assumption 1's, no grade in HALTED assumption 20's, a change of the ceiling alone assumption 40's. -/
def Obligations.RisesArePaced : Prop :=
  (∀ (s : State) (g : Grade) (t0 : Nat), s.powered = true → s.tetherPowered = true → s.power.delay g = .running t0 →
    exec (.returnDelayExpiry ⟨g, true⟩) s = .next { s.advanceTo (t0 + 2000000) with power := s.power.setDelay g .idle } ∧
    ∃ t, exec (.returnDelayExpiry ⟨g, false⟩) s = .next t ∧ t.clock = (s.advanceTo (t0 + 2000000)).clock ∧
      (candidate s.role s.effectiveCap s.effectiveCeiling g = true →
        t.power.delay g = .done ∧ (s.agree.baseForcedFrom = none → g ∈ t.power.modeSet)) ∧
      (candidate s.role s.effectiveCap s.effectiveCeiling g = false → t.power.delay g = .idle) ∧
      State.SetFormed { s with power := s.power.setDelay g .done } t ∧ s.AgreeFollows false t ∧ s.PathFrame t) ∧
  ∀ (s : State) (k : Load) (t0 : Nat), s.powered = true → s.loads.timer k = some t0 →
    ∃ t, exec (.raiseTimerExpiry k) s = .next t ∧ t.clock = (s.advanceTo (t0 + 50000)).clock ∧
      (s.loads.current.get k < s.loads.target.get k →
        t.loads = ({ s.loads with current := s.loads.current.set k (s.loads.current.get k + 1) } : Loads).setTimer k
          (if s.loads.current.get k + 1 < s.loads.target.get k then some t.clock.now else none)) ∧
      (s.loads.target.get k ≤ s.loads.current.get k → t.loads = s.loads.setTimer k none) ∧
      t = { s with clock := t.clock, loads := t.loads, motionHeadset := t.motionHeadset }

/-- One measurement of the rail (R81, R85): the droop level, the good run, the DROOP_CRIT fault with its notice, and the cap
and the mode set formed again (R66): a changed set opens a round with SET_CHANGED, and one that has become empty, as at a node that
parks, halts with OWN_SET_EMPTY (R96, R107). The clear timer's end clears the fault (R85), and the grace's end makes SUPPLY_LOST active (R86). An accepted NOTICE acts by its
kind and the node's role, and the last of each kind is kept (R83): OVERDRAW raises the droop level of a RELAY or HEADSET, TRIP and
CRITICAL set their flags. Times by assumption 1, no grade in HALTED assumption 20's, a change of the ceiling alone assumption 40's. -/
def Obligations.RailIsMonitored : Prop :=
  (∀ (s : State) (sender : Addr) (p : List Byte) (lt ll : Nat),
    let t := s.contentArrives ⟨sender, .notice, p, lt, ll⟩
    let heard : NoticeRecord := ⟨sender, byteAt p 1⟩
    let kind := (byteAt p 0).toNat
    (kind = 1 → s.tetherPowered = false → t = { s with power := { s.power with lastOverdraw := heard } }) ∧
    (kind = 1 → s.tetherPowered = true →
      t.power.droop = min (s.power.droop + 1) 4 ∧ t.power.goodRun = 0 ∧ t.power.lastOverdraw = heard ∧
        s.SetFormed t ∧ s.AgreeFollows false t ∧ t.clock = s.clock ∧ s.PathFrame t) ∧
    (kind = 2 → t.power.lastTrip = heard ∧ t.sticky .tripped = true ∧
      (s.role ≠ .battery → t = { s with
        power := { s.power with lastTrip := heard }, host := { s.host with sticky := t.host.sticky } })) ∧
    (kind = 3 → t.sticky .peerCritical = true ∧
      t = { s with power := { s.power with lastCritical := heard }, host := { s.host with sticky := t.host.sticky } }) ∧
    (kind = 0 ∨ 3 < kind → t = s)) ∧
  ∀ (s : State) (t0 : Nat), s.powered = true → s.tetherPowered = true →
    (∀ mv, s.power.measureFrom = some t0 →
      ∃ t, exec (.railMeasurement mv) s = .next t ∧ t.clock = (s.advanceTo (t0 + 10000)).clock ∧
        t.power.measureFrom = some (t0 + 10000) ∧ s.SetFormed t ∧ s.AgreeFollows false t ∧ s.PathRailFrame t ∧
        (mv < s.item itemDroopLow →
          t.power.droop = min (s.power.droop + 1) 4 ∧ t.power.goodRun = 0 ∧ t.power.lastLow = true ∧
          t.power.clearFrom = none ∧ t.sticky .droopLow = true) ∧
        (s.item itemDroopLow ≤ mv →
          t.power.droop = (if s.power.goodRun + 1 < 8 then s.power.droop else s.power.droop - 1) ∧
          t.power.goodRun = (if s.power.goodRun + 1 < 8 then s.power.goodRun + 1 else 0) ∧ t.power.lastLow = false ∧
          (s.power.critActive = true → s.power.clearFrom = none → t.power.clearFrom = some t.clock.now)) ∧
        (mv < s.item itemDroopCrit → s.power.critActive = false →
          t.power.critActive = true ∧ t.sticky .droopCrit = true ∧
          let u := (s.advanceTo (t0 + 10000)).offerBurst .notice [3, BitVec.ofNat 8 (min (mv / 100) 255)]
          t.rail = u.rail ∧ t.counters = u.counters) ∧
        (s.item itemDroopCrit ≤ mv ∨ s.power.critActive = true →
          t.power.critActive = s.power.critActive ∧ t.rail = s.rail ∧ t.counters = s.counters)) ∧
    (s.power.clearFrom = some t0 →
      ∃ t, exec .clearTimerExpiry s = .next t ∧ t.clock = (s.advanceTo (t0 + 1000000)).clock ∧
        t.power.critActive = false ∧ t.power.clearFrom = none ∧ s.SetFormed t ∧ s.AgreeFollows false t ∧ s.PathFrame t) ∧
    (s.power.graceFrom = some t0 →
      ∃ t, exec .supplyGraceExpiry s = .next t ∧ t.clock = (s.advanceTo (t0 + 1000000)).clock ∧
        t.power.lostActive = true ∧ t.power.graceFrom = none ∧ t.sticky .supplyLost = true ∧
        s.SetFormed t ∧ s.AgreeFollows false t ∧ s.PathFrame t)

/-- One measurement of the delivered current at a SOURCE in RAIL_ON with no trip in progress (R88, R89): the over-run count; at 3 or more
OVERDRAW, with its NOTICE of the current in steps of 16 mA unless one was offered in the last 100 ms (assumption 25); beyond five
fourths of the offer or at a count of 10 a trip with its NOTICE, of detail 1 or 2, free when both hold (assumption 17), entered in the
history and latched at its third within 60 s (R90). That the overdraw is noted before the trip is assumption 39's, the time of the
measurement assumption 1's. -/
def Obligations.DeliveredCurrentIsJudged : Prop :=
  ∀ (s : State) (t0 mA : Nat), s.powered = true → s.power.supplier = some .railOn → s.power.trip = .none →
    s.power.measureFrom = some t0 →
    let n := if s.offeredCurrent < mA then s.power.overrun + 1 else 0
    let sharp := 5 * s.offeredCurrent < 4 * mA
    let trips := sharp ∨ 10 ≤ n
    ∃ t, exec (.deliveredCurrentMeasurement mA) s = .next t ∧ t.clock = (s.advanceTo (t0 + 10000)).clock ∧
      t.power.supplier = some .railOn ∧ (3 ≤ n → t.sticky .overdraw = true) ∧
      t = { s with clock := t.clock, rail := t.rail, power := t.power, counters := t.counters
                   host := { s.host with sticky := t.host.sticky } } ∧
      (let noted := 3 ≤ n ∧ ∀ t1, s.power.overdrawAt = some t1 → t1 + 100000 ≤ t.clock.now
       t.power.overdrawAt = (if noted then some t.clock.now else s.power.overdrawAt) ∧
       ∃ detail : Byte, (sharp → n < 10 → detail = 1) ∧ (¬ sharp → 10 ≤ n → detail = 2) ∧ (detail = 1 ∨ detail = 2) ∧
         let u := s.advanceTo (t0 + 10000)
         let v := if noted then u.offerBurst .notice [1, BitVec.ofNat 8 (min (mA / 16) 255)] else u
         let w := if trips then v.offerBurst .notice [2, detail] else v
         t.rail = w.rail ∧ t.counters = w.counters) ∧
      (¬ trips → t.power.overrun = n ∧ t.power.measureFrom = some (t0 + 10000) ∧ t.power.trip = .none ∧
        t.power.tripHistory = s.power.tripHistory) ∧
      (trips →
        let h := s.power.tripHistory.filter (fun x => decide (t.clock.now < x + 60000000)) ++ [t.clock.now]
        t.power.tripHistory = h ∧ t.power.trip = .pending t.clock.now (decide (3 ≤ h.length)) ∧ t.power.overrun = 0 ∧
        t.power.measureFrom = none ∧ t.sticky .tripped = true ∧ (3 ≤ h.length → t.sticky .railLatched = true))

/-- The switch of a SOURCE (R89, R90): 20 ms after a trip it opens, into RAIL_OFF or, latched, into RAIL_LATCHED, with an offer of 0; at
the end of the off-time it closes into RAIL_ON with the offer level. A changed offer of its own is announced at once while ACTIVE, its
period restarted (R56, R57), and runs the computation (R58), which forms the mode set again (R66). The times of the expiries are
assumption 1's, no grade in HALTED assumption 20's, a change of the ceiling alone assumption 40's. -/
def Obligations.SwitchOpensAndCloses : Prop :=
  (∀ (s : State) (t0 : Nat) (latch : Bool), s.powered = true → s.power.trip = .pending t0 latch →
    ∃ t, exec .tripTimerExpiry s = .next t ∧ t.clock = (s.advanceTo (t0 + 20000)).clock ∧
      t.power.supplier = some (if latch then .railLatched else .railOff) ∧
      t.power.trip = (if latch then .none else .offTime t.clock.now) ∧
      t.roster.self.offer = some ⟨0, if latch then 2 else 1⟩ ∧
      s.SupplyFollows (decide (s.roster.self.offer ≠ t.roster.self.offer)) t ∧ s.Announced t ∧ s.AgreeFollows false t ∧
      s.PathRailFrame t) ∧
  ∀ (s : State) (t0 : Nat), s.powered = true → s.power.trip = .offTime t0 →
    ∃ t, exec .offTimeExpiry s = .next t ∧ t.clock = (s.advanceTo (t0 + 1000000)).clock ∧
      t.power.supplier = some .railOn ∧ t.power.trip = .none ∧ t.power.overrun = 0 ∧
      t.power.measureFrom = some t.clock.now ∧ t.roster.self.offer = some ⟨s.offerLevel, 0⟩ ∧
      s.SupplyFollows (decide (s.roster.self.offer ≠ t.roster.self.offer)) t ∧ s.Announced t ∧ s.AgreeFollows false t ∧
      s.PathRailFrame t

/-! ## Lane agreement -/

/-- A later round heard is adopted (R97): the current round becomes it, in the own mode set too if LISTEN was not entered since the
reset (R108), and the node settles afresh, halts when its chain is incomplete, or stays HALTED where R97 says so; an earlier round
and one that is neither are ignored, and so is a burst of the current round in a step that does not gather its kind, or a MODESET while
another set is missing. A stored MODESET or CONFIRM of a peer is what is told. The settle timer's end is an entry into LISTEN (R98, R99): the round is written into the own mode
set, the MODESET is offered and the step waits while some peer on the path has no mode set of the round; when every set is held the
step ends at once. Each change of state hands on what R95 says (State.HandedOn), the data blocks of R115, R123 and R141 among it. That HALTED has no chosen grade is assumption 20's inference, the time of the expiry assumption 1's. -/
def Obligations.SettleEndsInListen : Prop :=
  (∀ (s : State) (isConfirm : Bool) (r : Half),
    let t := s.roundHeard isConfirm r
    let stays := s.agree.state = .halted ∧
      (s.agree.reason = .notJoined ∨ s.agree.reason = .listenOnly ∨ s.agree.reason = .chainIncomplete)
    (s.onPath = false ∨ (later r s.agree.round = false ∧ r ≠ s.agree.round) → t = s) ∧
    (r = s.agree.round → (s.agree.state = .listen → isConfirm = true ∨
        ∃ e ∈ s.roster.path, Entry.heldSet s.agree.round e = none) →
      (s.agree.state = .confirming → isConfirm = false) → t = s) ∧
    (s.onPath = true → later r s.agree.round = true →
      t.clock = s.clock ∧ s.PathFrame t ∧
      (∀ m, s.roster.self.modeSet = some m →
        t.roster.self.modeSet = some (if s.agree.listened then m else { m with round := r })) ∧
      (stays → t.agree = { s.agree with round := r } ∧
        t = { s with agree := t.agree, roster := { s.roster with self := t.roster.self } }) ∧
      (¬ stays → s.roster.chainComplete = false → t.agree = { s.agree with
        round := r, state := .halted, chosen := none, reason := .chainIncomplete, stepFrom := none }) ∧
      (¬ stays → s.HandedOn t) ∧
      (¬ stays → s.roster.chainComplete = true → t.agree = { s.agree with
        round := r, state := .settle, chosen := none, reason := .adopted, stepFrom := some s.clock.now }))) ∧
  (∀ (s : State) (h : Heard), s.RosterSound → h.kind = .modeset ∨ h.kind = .confirm →
    s.roster.peers.length < 6 ∨ s.roster.find h.sender ≠ none →
    let e := (s.roster.find h.sender).getD (newEntry h.sender)
    modeSetPermitted e.role = true →
    let joined : State := if s.roster.find h.sender = none then s.raise .peerJoined else s
    let u := (joined.setPeers (putEntry (Entry.take h { e with lastHeard := some h.local' }) s.roster.peers)).syncSchedule
    s.rosterTakes h = u.roundHeard (h.kind == .confirm) (halfAt h.payload 0)) ∧
  ∀ (s : State) (t0 : Nat) (m : ModeSet), s.powered = true → s.agree.state = .settle → s.agree.stepFrom = some t0 →
    s.roster.self.modeSet = some m →
    ∃ t, exec .settleTimerExpiry s = .next t ∧ t.clock = (s.advanceTo (t0 + 80000)).clock ∧ s.PathRailFrame t ∧
      t.agree.listened = true ∧ s.HandedOn t ∧
      ((∃ e ∈ s.roster.peers, e.onPath = true ∧ Entry.heldSet s.agree.round e = none) →
        t.agree = { s.agree with state := .listen, chosen := none, stepFrom := some t.clock.now, listened := true } ∧
        t.roster.self.modeSet = some { m with round := s.agree.round } ∧
        (s.roster.join ≠ .listenOnly → s.rail.size < 8 → ∃ e ∈ t.rail.queue, e.kind = .modeset ∧
          e.payload = leBytes 2 s.agree.round.toNat ++ gradeCode s.effectiveCeiling :: s.power.modeSet.map gradeCode)) ∧
      ((∀ e ∈ s.roster.peers, e.onPath = true → (Entry.heldSet s.agree.round e).isSome) → t.agree.state ≠ .listen)

/-- The listen timer's end, and the last MODESET of the round heard in LISTEN, is the choice (R99, R100): a silent partner counts as G1
alone, and the highest grade in every set is chosen. An empty own set or no common grade halts. The chosen grade is confirmed (R101):
the CONFIRM stands in the self entry and is offered; CONFIRMs of the round already stored count at once, all matching into TRAINING
(R104), one of another grade into a failure. A CONFIRM of the round heard in CONFIRMING is judged with those stored (R101): the last
matching one enters TRAINING, one of another grade is a failure at once, and while one is missing the step waits. A failure raises the
failure count, at the fourth sets BASE_FORCED (R102), and opens the next round. Each change of state hands on what R95 says: entry into
TRAINING orders each owned transmitter TRAINING and each owned receiver SEEKING at the chosen grade, and holds them OFF while parked
(R111). That HALTED has no chosen grade is assumption 20's
inference, the time of the expiry assumption 1's. -/
def Obligations.ListenEndsInChoice : Prop :=
  ∀ s : State,
    let sets := s.roster.path.map (fun e => (Entry.heldSet s.agree.round e).getD [1])
    let confirms := (s.roster.peers.filter Entry.onPath).map (Entry.confirmOf s.agree.round)
    let failed (t : State) : Prop :=
      (s.agree.failures < 3 → s.roster.chainComplete = true → s.power.modeSet ≠ [] →
        t.agree = { s.agree with
          state := .settle, round := s.agree.round + 1, chosen := none, reason := .confirmFailed
          failures := s.agree.failures + 1, stepFrom := some t.clock.now }) ∧
      (3 ≤ s.agree.failures →
        t.agree.failures = 0 ∧ t.agree.baseForcedFrom = some t.clock.now ∧ t.sticky .baseForced = true) ∧
      (s.roster.chainComplete = false →
        t.agree.state = .halted ∧ t.agree.reason = .chainIncomplete ∧ t.agree.round = s.agree.round)
    let training (t : State) (g : Grade) : Prop :=
      t.parked = s.parked ∧
      (s.parked = false → t.lanes.grade = some g ∧
        (s.tetherPowered = true → t.loads.current.lane = gradeNum g ∧ t.loads.target.lane = gradeNum g) ∧
        ∀ l, (ownsTx s.role l = true → (t.lanes.tx l).state = .training) ∧ (ownsRx s.role l = true → t.lanes.rx l = .seeking)) ∧
      (s.parked = true →
        ∀ l, (ownsTx s.role l = true → (t.lanes.tx l).state = .off) ∧ (ownsRx s.role l = true → t.lanes.rx l = .off))
    let chosen (t : State) : Prop :=
      s.PathRailFrame t ∧ s.HandedOn t ∧
      (s.power.modeSet = [] →
        t.agree = { s.agree with state := .halted, chosen := none, reason := .ownSetEmpty, stepFrom := none }) ∧
      (s.power.modeSet ≠ [] → (∀ g, ∃ l ∈ sets, gradeCode g ∉ l) →
        t.agree = { s.agree with state := .halted, chosen := none, reason := .noCommonGrade, stepFrom := none }) ∧
      ∀ g, s.power.modeSet ≠ [] → (∀ l ∈ sets, gradeCode g ∈ l) →
        (∀ h, gradeNum g < gradeNum h → ∃ l ∈ sets, gradeCode h ∉ l) →
        ((∀ c ∈ confirms, c = none ∨ c = some (gradeCode g)) →
          t.agree = { s.agree with
            state := if none ∈ confirms then .confirming else .training, chosen := some g, stepFrom := some t.clock.now } ∧
          (none ∉ confirms → training t g) ∧
          t.roster.self.confirm = some ⟨s.agree.round, gradeCode g⟩ ∧
          (s.roster.join ≠ .listenOnly → s.rail.size < 8 → ∃ e ∈ t.rail.queue, e.kind = .confirm ∧
            e.payload = leBytes 2 s.agree.round.toNat ++ [gradeCode g])) ∧
        ((∃ c ∈ confirms, c ≠ none ∧ c ≠ some (gradeCode g)) → failed t)
    (∀ t0, s.powered = true → s.agree.state = .listen → s.agree.stepFrom = some t0 →
      ∃ t, exec .listenTimerExpiry s = .next t ∧ t.clock = (s.advanceTo (t0 + 150000)).clock ∧ chosen t) ∧
    (s.onPath = true → s.agree.state = .listen → (∀ e ∈ s.roster.path, (Entry.heldSet s.agree.round e).isSome) →
      let t := s.roundHeard false s.agree.round
      t.clock = s.clock ∧ chosen t) ∧
    ∀ g, s.onPath = true → s.agree.state = .confirming → s.agree.chosen = some g →
      let t := s.roundHeard true s.agree.round
      let heard := s.roster.path.map (Entry.confirmOf s.agree.round)
      ((∀ c ∈ heard, c = some (gradeCode g)) → t.clock = s.clock ∧ s.PathFrame t ∧
        t.agree = { s.agree with state := .training, stepFrom := some s.clock.now } ∧ training t g ∧ s.HandedOn t) ∧
      ((∃ c ∈ heard, c ≠ none ∧ c ≠ some (gradeCode g)) → t.clock = s.clock ∧ s.PathFrame t ∧ failed t ∧ s.HandedOn t) ∧
      ((∀ c ∈ heard, c = none ∨ c = some (gradeCode g)) → none ∈ heard → t = s)

/-- A failed step opens the next round. The end of CONFIRMING (R101, R102) raises the failure count and at the fourth sets BASE_FORCED,
whose end (R103) forms the mode set again, with every grade that has completed its delay and is still a candidate, and a larger set
opens a round with SET_CHANGED (R96); where a fourth failure falls at the same moment, it is set again for 10,000 ms (in one event that
opens the failure's one round, assumption 44). The end of TRAINING (R105) is counted and flagged, raises the lane-fault count, and at
every third lowers the ceiling to one grade below the one that failed. An incomplete chain halts instead (R96). Either way the change
of state hands on what R95 says. A claim that the lowered ceiling changes is announced and runs the computation (R57, R58). The times of
the expiries are assumption 1's, no grade in HALTED assumption 20's, a change of the ceiling alone assumption 40's. -/
def Obligations.FailedStepsOpenARound : Prop :=
  ∀ (s : State) (t0 : Nat), s.powered = true → s.onPath = true →
    (s.agree.state = .confirming → s.agree.stepFrom = some t0 →
      ∃ t, exec .confirmTimerExpiry s = .next t ∧ t.clock = (s.advanceTo (t0 + 150000)).clock ∧ s.PathFrame t ∧ s.HandedOn t ∧
        let settled (f : Nat) (b : Option Nat) : Agree := { s.agree with
          state := .settle, round := s.agree.round + 1, chosen := none, reason := .confirmFailed, failures := f
          stepFrom := some t.clock.now, baseForcedFrom := b }
        (s.agree.failures < 3 → s.roster.chainComplete = true → s.power.modeSet ≠ [] →
          t.agree = settled (s.agree.failures + 1) s.agree.baseForcedFrom) ∧
        (3 ≤ s.agree.failures →
          t.agree.failures = 0 ∧ t.agree.baseForcedFrom = some t.clock.now ∧ t.sticky .baseForced = true ∧
          t.power.modeSet = (if s.parked then [] else [.g1]) ∧
          (s.roster.chainComplete = true → s.parked = false → t.agree = settled 0 (some t.clock.now))) ∧
        (s.roster.chainComplete = false →
          t.agree.state = .halted ∧ t.agree.reason = .chainIncomplete ∧ t.agree.round = s.agree.round)) ∧
    (s.agree.state = .training → s.agree.stepFrom = some t0 →
      let n := min (s.agree.laneFaults + 1) 65535
      ∃ t, exec .trainingTimerExpiry s = .next t ∧ t.clock = (s.advanceTo (t0 + 50000)).clock ∧ s.PathRailFrame t ∧
        s.HandedOn t ∧ t.sticky .laneFault = true ∧ t.agree.laneFaults = n ∧ t.agree.failures = s.agree.failures ∧
        t.agree.baseForcedFrom = s.agree.baseForcedFrom ∧
        (let u : State := { s with counters := s.counters.add cLaneFault 1 }
         u.Announced t ∧ u.SetFormed t ∧ u.SupplyFollows (decide (s.roster.self.claim ≠ t.roster.self.claim)) t) ∧
        (n % 3 ≠ 0 → t.agree.lowered = s.agree.lowered ∧ t.parked = s.parked ∧ t.roster.self.claim = s.roster.self.claim) ∧
        (n % 3 = 0 → ∀ g, s.agree.chosen = some g →
          t.agree.lowered = (match gradeBelow g with | some b => some b | none => s.agree.lowered)) ∧
        (s.roster.chainComplete = true → t.parked = false → t.agree.state = .settle ∧ t.agree.reason = .trainFailed ∧
          t.agree.round = s.agree.round + 1 ∧ t.agree.chosen = none ∧ t.agree.stepFrom = some t.clock.now) ∧
        (s.roster.chainComplete = true → t.parked = true → t.agree.state = .halted ∧ t.agree.reason = .ownSetEmpty ∧
          t.agree.round = s.agree.round) ∧
        (s.roster.chainComplete = false → t.agree.state = .halted ∧ t.agree.reason = .chainIncomplete ∧
          t.agree.round = s.agree.round)) ∧
    (s.agree.baseForcedFrom = some t0 →
      let due := s.advanceTo (t0 + 10000000)
      let ended (t : State) : Prop :=
        let u : State := { s with agree := { s.agree with baseForcedFrom := none } }
        t.clock = due.clock ∧ t.agree.baseForcedFrom = none ∧ u.SetFormed t ∧ u.AgreeFollows false t ∧ s.PathFrame t
      let ranOut (span : Nat) : Prop := ∃ t1, s.agree.stepFrom = some t1 ∧ t1 + span ≤ due.clock.now
      let joined (c : Instr) : Prop :=
        ∃ u t, exec c due = .next u ∧ exec .baseForcedExpiry s = .next t ∧
          (u.agree.baseForcedFrom = some due.clock.now → t = u) ∧ (u.agree.baseForcedFrom ≠ some due.clock.now → ended t)
      (s.agree.state = .settle → ranOut 80000 → joined .settleTimerExpiry) ∧
      (s.agree.state = .listen → ranOut 150000 → joined .listenTimerExpiry) ∧
      (s.agree.state = .confirming → ranOut 150000 → joined .confirmTimerExpiry ∧
        (3 ≤ s.agree.failures → ∃ t, exec .baseForcedExpiry s = .next t ∧ t.clock = due.clock ∧
          t.agree.baseForcedFrom = some t.clock.now ∧ t.agree.failures = 0 ∧ t.sticky .baseForced = true ∧ s.HandedOn t)) ∧
      (¬ ((s.agree.state = .settle ∧ ranOut 80000) ∨
          ((s.agree.state = .listen ∨ s.agree.state = .confirming) ∧ ranOut 150000)) →
        ∃ t, exec .baseForcedExpiry s = .next t ∧ ended t))

/-- A receiver's change (R111): none at a receiver the role lacks, at one that is OFF, in the state it is already in, or on the down lane
of a dozing RELAY (R115). The lock that completes TRAINING enters RUNNING (R104): the counts go to 0, MODE_CHANGED marks a new
grade, the transmitters run and a HEADSET sets its anchor two frame periods ahead (R118). A loss in RUNNING opens a round (R96). Each
change of state hands on what R95 says. That a
loss reported by the receiver of a dozing RELAY is not taken is the model's inference (assumption 23). -/
def Obligations.ReceiversDriveTheRound : Prop :=
  ∀ (s : State) (lane : Lane), s.powered = true →
    let seen (r : RxState) : State := { s with lanes := s.lanes.setRx lane r }
    (∀ b, ownsRx s.role lane = false ∨ s.lanes.rx lane = .off → exec (.receiverStateChange lane b) s = .next s) ∧
    (s.lanes.rx lane = .seeking → exec (.receiverStateChange lane false) s = .next s) ∧
    (s.lanes.rx lane = .locked → exec (.receiverStateChange lane true) s = .next s) ∧
    (ownsRx s.role lane = true → s.lanes.rx lane = .seeking → s.agree.state ≠ .running →
      (s.agree.state ≠ .training ∨ (seen .locked).locked = false →
        exec (.receiverStateChange lane true) s = .next (seen .locked)) ∧
      (s.agree.state = .training → (seen .locked).locked = true →
        ∃ t, exec (.receiverStateChange lane true) s = .next t ∧ t.clock = s.clock ∧ s.PathFrame t ∧ s.HandedOn t ∧
          t.agree = { s.agree with
            state := .running, failures := 0, laneFaults := 0, lastRun := s.agree.chosen, stepFrom := none } ∧
          (s.agree.lastRun ≠ s.agree.chosen → t.sticky .modeChanged = true) ∧
          (s.agree.lastRun = s.agree.chosen → t.host = s.host) ∧
          (s.parked = false → ∀ l, ownsTx s.role l = true → (t.lanes.tx l).state = .running) ∧
          (s.role = .headset → s.sliceHeadset.anchor = none →
            let a := s.clock.tether + 2 * (if s.straps.refresh120 then 8333 else 11111)
            t.sliceHeadset.anchor = some a ∧ t.roster.self.anchor = some ⟨a, s.straps.refresh120⟩) ∧
          (s.role ≠ .headset ∨ s.sliceHeadset.anchor ≠ none → t.sliceHeadset = s.sliceHeadset))) ∧
    (ownsRx s.role lane = true → s.lanes.rx lane = .locked →
      (s.lanes.dozing = true → lane = .down → exec (.receiverStateChange lane false) s = .next s) ∧
      (s.lanes.dozing = false ∨ lane = .up →
        (s.agree.state ≠ .running → exec (.receiverStateChange lane false) s = .next (seen .seeking)) ∧
        (s.agree.state = .running → s.roster.chainComplete = true → s.power.modeSet ≠ [] →
          ∃ t, exec (.receiverStateChange lane false) s = .next t ∧ t.clock = s.clock ∧ s.PathFrame t ∧ s.HandedOn t ∧
            t.agree = { s.agree with
              state := .settle, round := s.agree.round + 1, chosen := none, reason := .lockLost
              stepFrom := some t.clock.now } ∧
            ∀ l, (ownsTx s.role l = true → (t.lanes.tx l).state = .off ∧ (t.lanes.tx l).sending = none) ∧
              (ownsRx s.role l = true → t.lanes.rx l = .off))))

/-! ## The lane engine -/

/-- A packet of each kind, formed as its sender forms it, is good at the node it is for and hands over every field it was formed from,
its time rebuilt against the tether time at arrival (R46, R112, R184), in any agreement state by the model's inference
(assumption 24). A MOTION burst (R141) hands a SOURCE's motion queue the record it was formed from, its stamp rebuilt against the
burst's latched tether time (R46, R143), and no other node anything. The SOURCE keeps the 4 latest frame-shown records in order of
arrival (R128). The CRC-32's bit and byte order is assumption 12's. -/
def Obligations.LanePacketsArriveWhole : Prop :=
  (∀ (s : State) (r : MotionRecord) (a : Addr) (lt ll : Nat),
    let t := s.contentArrives ⟨a, .motion, motionPayload r, lt, ll⟩
    (motionPayload r).length = 20 ∧ (s.role ≠ .source → t = s) ∧
    (s.role = .source → t = s.recordArrives { r with stamp := rebuildTether lt r.stamp })) ∧
  (∀ (s : State) (r : FrameShown),
    let l := s.sliceSource.frames
    s.frameShownArrives r = { s with sliceSource := { s.sliceSource with
      frames := (s.frameShownArrives r).sliceSource.frames } } ∧
    (l.length < 4 → (s.frameShownArrives r).sliceSource.frames = l ++ [r]) ∧
    ∀ oldest rest, l = oldest :: rest → l.length = 4 → (s.frameShownArrives r).sliceSource.frames = rest ++ [r]) ∧
  ∀ s : State, s.powered = true →
    (s.role = .headset → s.lanes.downRx = .locked → s.lanes.dozing = false →
      (∀ q : SendSlice, 1 ≤ q.bytes.length → q.bytes.length ≤ 65535 → q.index ≤ 11 →
        exec (.lanePacketReceived .down (slicePacket q).bytes) s = .next
          ((s.bump cPacketsDown).sliceArrives q.frame q.index (rebuildTether s.clock.tether q.time) q.bytes)) ∧
      (∀ (seq : Half) (pt : Nat) (frames : List (Half × Half)), frames.length = 48 →
        exec (.lanePacketReceived .down (audioPacket seq pt frames).bytes) s = .next
          ((s.bump cPacketsDown).audioArrives seq (rebuildTether s.clock.tether pt) frames))) ∧
    (s.role = .source → s.lanes.upRx = .locked →
      (∀ r : MotionRecord,
        exec (.lanePacketReceived .up (makePacket .motion (motionPayload r)).bytes) s = .next
          ((s.bump cPacketsUp).recordArrives { r with stamp := rebuildTether s.clock.tether r.stamp })) ∧
      (∀ (seq : Half) (time : Nat) (samples : List Half), samples.length = 48 →
        exec (.lanePacketReceived .up (micPacket seq time samples).bytes) s = .next
          ((s.bump cPacketsUp).micArrives (rebuildTether s.clock.tether time) samples)) ∧
      (∀ (n : Half) (time : Nat) (rep : Byte), rep.toNat ≤ 12 →
        exec (.lanePacketReceived .up (makePacket .frameShown (leBytes 2 n.toNat ++ leBytes 4 time ++ [rep])).bytes) s = .next
          ((s.bump cPacketsUp).frameShownArrives ⟨n, rebuildTether s.clock.tether time, rep⟩)))

/-- A packet at a receiver (R112, R114): discarded uncounted where the receiver is missing or not LOCKED (R111); counted as BAD_PACKET
when it is not good; counted and handed to its block at an end node; at a RELAY in RUNNING sent on by the transmitter of its lane,
which holds one beside the one being sent (a third is dropped, assumption 21). A RELAY's doze timer restarts at each packet of the
down lane, its end is doze, and the packet that wakes it is lost (R115), a whole one lost unjudged (assumption 23); an end node takes
packets in any agreement state (assumption 24). The lost packet's time is assumption 31's, other times assumption 1's. -/
def Obligations.PacketsReceivedAreJudged : Prop :=
  ∀ (s : State) (lane : Lane) (b : List Byte), s.powered = true →
    let noted (u : State) : State :=
      if s.role = .relay ∧ lane = .down ∧ s.agree.state = .running then
        { u with lanes := { u.lanes with dozing := false, dozeFrom := some s.clock.now } }
      else u
    (ownsRx s.role lane = false ∨ s.lanes.rx lane ≠ .locked → exec (.lanePacketReceived lane b) s = .next s) ∧
    (ownsRx s.role lane = true → s.lanes.rx lane = .locked → s.lanes.dozing = false ∨ lane = .up →
      (goodPacket lane b = none →
        exec (.lanePacketReceived lane b) s = .next (noted { s with counters := s.counters.add cBadPacket 1 })) ∧
      ∀ k, goodPacket lane b = some k →
        (s.role ≠ .relay → exec (.lanePacketReceived lane b) s = .next
          ((s.bump (match lane with | .down => cPacketsDown | .up => cPacketsUp)).packetArrives k b)) ∧
        (s.role = .relay → s.agree.state ≠ .running → exec (.lanePacketReceived lane b) s = .next s) ∧
        (s.role = .relay → s.agree.state = .running → (s.lanes.tx lane).state = .running →
          let x := s.lanes.tx lane
          let after :=
            if x.sending = none then { x with sending := some ⟨k, b⟩, startedAt := s.clock.now }
            else if x.waiting = [] then { x with waiting := [⟨k, b⟩] } else x
          exec (.lanePacketReceived lane b) s = .next (noted { s with lanes := s.lanes.setTx lane after }))) ∧
    (s.role = .relay → s.agree.state = .running →
      (s.lanes.dozing = true →
        (s.lanes.downRx = .locked → exec (.lanePacketReceived .down b) s = .next { s with
          counters := s.counters.add cLostOnWake 1
          lanes := { s.lanes with dozing := false, dozeFrom := some s.clock.now } }) ∧
        ∀ n, exec (.lostOnWake n) s = .next { s.advance (packetMicros s.lanes.grade n) with
          counters := s.counters.add cLostOnWake 1
          lanes := { s.lanes with dozing := false, dozeFrom := some (s.clock.now + packetMicros s.lanes.grade n) } }) ∧
      (s.lanes.dozing = false →
        (∀ n, exec (.lostOnWake n) s = .next s) ∧
        ∀ t0, s.lanes.dozeFrom = some t0 → exec .dozeTimerExpiry s = .next
          { s.advanceTo (t0 + 20000) with lanes := { s.lanes with dozing := true } }))

/-- A packet sent whole is counted by its lane, a SOURCE's slice leaves the send queue as SENT and its audio block counts as BLOCKS (R116,
R123, R150). The transmitter takes a waiting packet, an audio block before a slice, a motion record before a frame-shown record before a
microphone block, or is free (R113); the down lane of a SOURCE is then fed from the send queue (R123). The length of a packet's time is assumption 31's, the time of the end assumption 1's. -/
def Obligations.PacketSentFreesItsTransmitter : Prop :=
  ∀ (s : State) (lane : Lane) (p : Packet), s.powered = true → (s.lanes.tx lane).sending = some p →
    let x := s.lanes.tx lane
    let base := s.counters.add (match lane with | .down => cPacketsDown | .up => cPacketsUp) 1
    ∃ t, exec (.lanePacketSent lane) s = .next t ∧
      t.clock = (s.advanceTo (x.startedAt + packetMicros s.lanes.grade p.bytes.length)).clock ∧
      t.counters = (if s.role = .source ∧ p.kind = .slice then base.add cSliceSent 1
        else if s.role = .source ∧ p.kind = .audio then base.add cBlocks 1 else base) ∧
      t.sliceSource.sendQueue =
        (if s.role = .source ∧ p.kind = .slice then s.sliceSource.sendQueue.drop 1 else s.sliceSource.sendQueue) ∧
      (let goesBefore (a b : PacketKind) : Prop :=
         (a = .audio ∧ b = .slice) ∨ (a = .motion ∧ (b = .frameShown ∨ b = .mic)) ∨ (a = .frameShown ∧ b = .mic)
       let becomes (y : Transmitter) : Prop :=
         (s.role ≠ .source → t.lanes = s.lanes.setTx lane y) ∧
         (s.role = .source → lane = .down → t.lanes = { s.lanes with downTx := t.lanes.downTx } ∧
           y.Fed t.sliceSource.sendQueue t.clock.now t.lanes.downTx) ∧
         (s.role = .source → lane = .up → t.lanes = { s.lanes with upTx := y, downTx := t.lanes.downTx } ∧
           s.lanes.downTx.Fed t.sliceSource.sendQueue t.clock.now t.lanes.downTx)
       (x.waiting = [] → becomes { x with sending := none }) ∧
       (x.waiting ≠ [] → ∃ q ∈ x.waiting, (∀ r ∈ x.waiting, ¬ goesBefore r.kind q.kind) ∧
         becomes { x with sending := some q, startedAt := t.clock.now, waiting := x.waiting.erase q })) ∧
      t = { s with clock := t.clock, counters := t.counters, lanes := t.lanes
                   sliceSource := { s.sliceSource with sendQueue := t.sliceSource.sendQueue } }

/-! ## Picture transport -/

/-- A slice at the slice input is judged in the order of R121, and an accepted one takes its frame, presentation time and place (R122),
and the down-lane transmitter is fed from the send queue: where no slice waits there, the oldest not yet sent is offered to it (R123).
Only a SOURCE has a slice input. -/
def Obligations.SubmittedSliceIsJudged : Prop :=
  ∀ (s : State) (start : Bool) (index : Byte) (b : List Byte), s.powered = true →
    let c : Instr := .sliceSubmit start index b
    let refused (sub : Option Submission) (code : Byte) (k : Counter) : State := { s with
      sliceSource := { s.sliceSource with answer := code, submission := sub }, counters := s.counters.add k 1 }
    let sub := s.sliceSource.submission
    (s.role ≠ .source → exec c s = .next s) ∧
    (s.role = .source → s.agree.state ≠ .running → exec c s = .next (refused sub 1 cNoLane)) ∧
    (s.role = .source → s.agree.state = .running → s.sliceSource.schedule = none → exec c s = .next (refused sub 2 cNoSchedule)) ∧
    ∀ a g, s.role = .source → s.agree.state = .running → s.sliceSource.schedule = some a → s.agree.chosen = some g →
      let k := index.toNat
      let budget := gradeNum g * (if a.period120 then 9216 else 12288)
      let ordered := (k = 0 ∧ start = true) ∨ (k ≠ 0 ∧ start = false ∧ ∃ u, sub = some u ∧ u.next = k)
      let left := if k = 0 then none else sub
      (¬ ordered → exec c s = .next (refused none 3 cOrder)) ∧
      (ordered → b.length = 0 ∨ budget < b.length → exec c s = .next (refused left 4 cOversize)) ∧
      (ordered → b.length ≠ 0 → b.length ≤ budget → 4 ≤ s.sliceSource.sendQueue.length →
        exec c s = .next (refused left 5 cBacklog)) ∧
      (ordered → b.length ≠ 0 → b.length ≤ budget → s.sliceSource.sendQueue.length < 4 →
        let p := if a.period120 then 8333 else 11111
        ∃ n t, exec c s = .next t ∧
          (k ≠ 0 → ∃ u, sub = some u ∧ n = u.frame) ∧
          (k = 0 → s.clock.tether + 1500 ≤ a.time + n * p ∧ ∀ m, m < n → a.time + m * p < s.clock.tether + 1500) ∧
          (let time := a.time + n * p + k * p / 12
           t.sliceSource = { s.sliceSource with
             sendQueue := s.sliceSource.sendQueue ++ [⟨BitVec.ofNat 16 n, k, time, b⟩]
             submission := if k = 11 then none else some ⟨n, k + 1⟩
             answer := 0 } ∧
           t.counters = (if time ≤ s.clock.tether then s.counters.add cSubmittedLate 1 else s.counters)) ∧
          s.lanes.downTx.Fed t.sliceSource.sendQueue t.clock.now t.lanes.downTx ∧
          t = { s with sliceSource := t.sliceSource, counters := t.counters, lanes := { s.lanes with downTx := t.lanes.downTx } })

/-- An arriving slice in the order of R124; and the scan of one index (R125, R127): the index's incoming slice of the frame is shown and
held, else the held one is shown again, else the place is dark; a passed-over one is freed and counted as LATE; after index 11 the frame-shown record
is made and the next frame begins. The panel gives what is shown at the brightness step of the panel drive's level, and is dark at level 0 (R78,
R125, assumption 43). The tether time of the scan is assumption 1's. -/
def Obligations.SliceBufferIsFilledAndScanned : Prop :=
  (∀ (s : State) (f : Half) (k pt : Nat) (b : List Byte),
    let x := s.sliceHeadset.slot k
    let t := s.sliceArrives f k pt b
    let counted (c : Counter) : State := { s with counters := s.counters.add c 1 }
    let stored (u : State) : State := { u with sliceHeadset := { s.sliceHeadset with
      slots := s.sliceHeadset.slots.set k ⟨x.held, some ⟨f, pt, b⟩⟩ } }
    (pt ≤ s.clock.tether → t = counted cSliceLate) ∧
    (s.clock.tether < pt → (∃ h, x.held = some h ∧ later f h.frame = false) → t = counted cStale) ∧
    (s.clock.tether < pt → (∀ h, x.held = some h → later f h.frame = true) →
      (x.incoming = none → t = stored s) ∧
      ∀ i, x.incoming = some i →
        (later f i.frame = true → t = stored (counted cSuperseded)) ∧ (later f i.frame = false → t = counted cStale))) ∧
  (∀ s : State, s.powered = true → s.sliceHeadset.anchor = none → exec .sliceScan s = .next s) ∧
  ∀ (s : State) (a : Nat), s.powered = true → s.sliceHeadset.anchor = some a → s.sliceHeadset.Sized →
    let n := s.sliceHeadset.frame
    let k := s.sliceHeadset.index
    let p := if s.straps.refresh120 then 8333 else 11111
    let time := a + n * p + k * p / 12
    let num : Half := BitVec.ofNat 16 n
    let x := s.sliceHeadset.slot k
    let fresh := ∃ i, x.incoming = some i ∧ i.frame = num
    let passed := ∃ i, x.incoming = some i ∧ later num i.frame = true
    time ≤ tetherMax →
    ∃ t, exec .sliceScan s = .next t ∧ t.clock = (s.advance (time - s.clock.tether)).clock ∧
      (∀ i, x.incoming = some i → i.frame = num →
        t.sliceHeadset.slot k = ⟨some i, none⟩ ∧ t.sliceHeadset.panel[k]? = some (some i.bytes)) ∧
      (¬ fresh →
        (passed → (t.sliceHeadset.slot k).incoming = none) ∧
        (¬ passed → (t.sliceHeadset.slot k).incoming = x.incoming) ∧
        (∀ h, x.held = some h → (t.sliceHeadset.slot k).held = some ⟨num, time, h.bytes⟩ ∧
          t.sliceHeadset.panel[k]? = some (some h.bytes)) ∧
        (x.held = none → (t.sliceHeadset.slot k).held = none ∧ t.sliceHeadset.panel[k]? = some none)) ∧
      (∀ j, j ≠ k → t.sliceHeadset.slot j = s.sliceHeadset.slot j ∧ t.sliceHeadset.panel[j]? = s.sliceHeadset.panel[j]?) ∧
      (∀ shown : Nat, (fresh → shown = s.sliceHeadset.notFresh) → (¬ fresh → shown = s.sliceHeadset.notFresh + 1) →
        (k < 11 → t.sliceHeadset.frame = n ∧ t.sliceHeadset.index = k + 1 ∧ t.sliceHeadset.notFresh = shown ∧
          t.lanes = s.lanes) ∧
        (k = 11 → t.sliceHeadset.frame = n + 1 ∧ t.sliceHeadset.index = 0 ∧ t.sliceHeadset.notFresh = 0 ∧
          (s.agree.state ≠ .running → t.lanes = s.lanes ∧
            t.counters.picture[6]? = (s.counters.picture[6]?).map (fun v => min (v + 1) 65535)) ∧
          (s.agree.state = .running →
            let fields := leBytes 2 (n % 65536) ++ leBytes 4 (a + n * p) ++ [BitVec.ofNat 8 shown]
            t.lanes = { s.lanes with upTx := s.lanes.upTx.offer (makePacket .frameShown fields) t.clock.now }))) ∧
      (fresh → t.counters.picture[0]? = (s.counters.picture[0]?).map (fun v => min (v + 1) 65535)) ∧
      (¬ fresh → t.counters.picture[0]? = s.counters.picture[0]?) ∧
      (passed → t.counters.picture[1]? = (s.counters.picture[1]?).map (fun v => min (v + 1) 65535)) ∧
      (¬ passed → t.counters.picture[1]? = s.counters.picture[1]?) ∧
      (¬ fresh → x.held ≠ none → s.agree.state = .running →
        t.counters.picture[4]? = (s.counters.picture[4]?).map (fun v => min (v + 1) 65535)) ∧
      (s.loads.current.panel = 0 → ∀ j : Nat, j < 12 → t.panelPort[j]? = some none) ∧
      (s.loads.current.panel ≠ 0 → ∀ j : Nat, t.panelPort[j]? =
        (t.sliceHeadset.panel[j]?).map (Option.map (fun bytes => (s.loads.current.panel, bytes)))) ∧
      t.sliceHeadset.anchor = s.sliceHeadset.anchor ∧
      t = { s with clock := t.clock, sliceHeadset := t.sliceHeadset, lanes := t.lanes
                   counters := { s.counters with picture := t.counters.picture } }

/-! ## Motion -/

/-- The sensor port (R131 to R134): at a HEADSET a change of the motion level, at a raise or when the planner moves the loads, starts the
write of the new level's setting at once, or is noted for the end of the write or read under way; a completed write fixes the rate level, marks a changed rate and leads to SAMPLING, to OFF for level 0,
or to one further write; an edge in SAMPLING restarts the stall timer and starts a read unless one is under way; four sample periods
without an edge are a stall. The time of the stall is assumption 1's. -/
def Obligations.SensorPortIsDriven : Prop :=
  ∀ s : State, s.powered = true →
    let m := s.motionHeadset
    let with' (m' : MotionHeadset) : State := { s with motionHeadset := m' }
    let written : MotionHeadset := { m with
      rateLevel := some m.writing, rateChanged := m.rateChanged || decide (m.rateLevel ≠ some m.writing) }
    let follows (t : State) : Prop :=
      let level := t.loads.current.motion
      (s.role ≠ .headset ∨ level = s.loads.current.motion → t.motionHeadset = m) ∧
      (s.role = .headset → level ≠ s.loads.current.motion →
        (m.port = .setting ∨ m.reading ≠ none → t.motionHeadset = { m with again := true }) ∧
        (m.port ≠ .setting → m.reading = none → t.motionHeadset = { m with
          port := .setting, writing := level, again := false, stallFrom := none, stalled := false }))
    (follows s.plan ∧ s.plan = { s with loads := s.plan.loads, motionHeadset := s.plan.motionHeadset }) ∧
    (∀ k t0, s.loads.timer k = some t0 → ∃ t, exec (.raiseTimerExpiry k) s = .next t ∧ follows t) ∧
    (m.port ≠ .setting → exec .sensorWriteComplete s = .next s) ∧
    (m.port = .setting → m.again = true → exec .sensorWriteComplete s = .next (with' { written with
      port := .setting, writing := s.loads.current.motion, again := false, stallFrom := none, stalled := false })) ∧
    (m.port = .setting → m.again = false → m.writing = 0 →
      exec .sensorWriteComplete s = .next (with' { written with port := .off })) ∧
    (m.port = .setting → m.again = false → m.writing ≠ 0 →
      exec .sensorWriteComplete s = .next (with' { written with port := .sampling, stallFrom := some s.clock.now })) ∧
    (m.port ≠ .sampling → exec .dataReadyEdge s = .next s) ∧
    (m.port = .sampling → exec .dataReadyEdge s = .next (with' { m with
      stallFrom := some s.clock.now, stalled := false
      reading := some (m.reading.getD ⟨s.clock.tether, s.item itemGroupDelay⟩) })) ∧
    ∀ t0 level, m.stallFrom = some t0 → m.rateLevel = some level → 1 ≤ level → level ≤ 3 →
      ∃ t, exec .sensorStall s = .next t ∧ t.sticky .sensorStall = true ∧
        t.clock = (s.advanceTo (t0 + (if level = 1 then 8000 else if level = 2 then 4000 else 2000))).clock ∧
        t = { s with clock := t.clock, host := { s.host with sticky := t.host.sticky }
                     motionHeadset := { m with stallFrom := none, stalled := true } }

/-- A completed read makes one record (R133, R135 to R140): the next sequence number, the edge's time less its group delay, the calibrated
axes with their clipped flags, RANGE when a magnitude passes its group's limit. In RUNNING it is offered up the lane, else it counts
as UNSENT and waits for the fallback, which offers it once, marked FALLBACK (R141). The time of the expiry is assumption 1's. -/
def Obligations.SampleBecomesRecord : Prop :=
  ∀ s : State, s.powered = true →
    let m := s.motionHeadset
    (∀ raw, m.reading = none → exec (.sensorReadComplete raw) s = .next s) ∧
    (∀ (raw : Axes) (r : SensorRead), m.reading = some r →
      let cal (n : Nat) (v : Half) := calibrate v (s.itemInt (12 + n)) (s.item (18 + n))
      let big (v : Half) (limit : Nat) := limit < v.toInt.natAbs
      ∃ (t : State) (z : MotionRecord), exec (.sensorReadComplete raw) s = .next t ∧
        z.sequence = m.sequence ∧ z.stamp = r.edge - r.delay ∧ z.rateChanged = m.rateChanged ∧ z.fallback = false ∧
        z.rate = BitVec.ofNat 2 (m.rateLevel.getD 0) ∧
        z.axes = ⟨(cal 0 raw.ax).1, (cal 1 raw.ay).1, (cal 2 raw.az).1, (cal 3 raw.rx).1, (cal 4 raw.ry).1, (cal 5 raw.rz).1⟩ ∧
        z.clipped = (s.calibrateAxes raw).2 ∧
        (z.range = true ↔ big z.axes.ax (s.item 24) ∨ big z.axes.ay (s.item 24) ∨ big z.axes.az (s.item 24) ∨
          big z.axes.rx (s.item 25) ∨ big z.axes.ry (s.item 25) ∨ big z.axes.rz (s.item 25)) ∧
        (z.range = true → t.sticky .motionRange = true) ∧
        t.motionHeadset.lastRecord = some (z, s.running) ∧
        (s.running = true → t.lanes = s.lanes.setTx .up
          (s.lanes.upTx.offer (makePacket .motion (motionPayload z)) s.clock.now)) ∧
        (s.running = false → t.lanes = s.lanes) ∧
        t.counters =
          (let c0 := if z.range then s.counters.add cRange 1 else s.counters
           let c1 := if s.running = false ∨ (s.lanes.upTx.sending ≠ none ∧ ∃ q ∈ s.lanes.upTx.waiting, q.kind = .motion)
             then c0.add cRecordUnsent 1 else c0
           c1.add cSamples 1) ∧
        (let done : MotionHeadset := { m with
           reading := none, sequence := m.sequence + 1, rateChanged := false, lastRecord := some (z, s.running) }
         t.motionHeadset = (if m.again then { done with
           port := .setting, writing := s.loads.current.motion, again := false, stallFrom := none, stalled := false }
          else done)) ∧
        t = { s with motionHeadset := t.motionHeadset, lanes := t.lanes, counters := t.counters
                     host := { s.host with sticky := t.host.sticky } }) ∧
    ∀ t0, m.fallbackFrom = some t0 →
      let u : State := { s.advanceTo (t0 + 50000) with motionHeadset := { m with fallbackFrom := some (t0 + 50000) } }
      (s.roster.join = .listenOnly ∨ (∀ z, m.lastRecord ≠ some (z, false)) → exec .motionFallbackExpiry s = .next u) ∧
      (s.roster.join ≠ .listenOnly → ∀ z, m.lastRecord = some (z, false) →
        exec .motionFallbackExpiry s = .next (({ u with
          motionHeadset := { u.motionHeadset with lastRecord := some (z, true) }
          counters := s.counters.add cFallbackSent 1 } : State).offerBurst .motion
            (motionPayload { z with fallback := true })))

/-- The calibrated value of a raw value and its clipped flag (R137), and the places of the flags in the flags word of a record (section
11.1): the clipped flags of the axes in their order in bits 0 to 5, RANGE 6, RATE_CHANGED 7, FALLBACK 8, the rate in bits 9 and 10. -/
def Obligations.CalibrationIsNearest : Prop :=
  (∀ (raw : Half) (offset : Int) (scale : Nat),
    let p := (raw.toInt - offset) * (scale : Int)
    ∃ q : Int, 2 * (16384 * q - p).natAbs ≤ 16384 ∧ (2 * (16384 * q - p).natAbs = 16384 → p.natAbs ≤ (16384 * q).natAbs) ∧
      (calibrate raw offset scale).1.toInt = max (-32768) (min q 32767) ∧
      ((calibrate raw offset scale).2 = true ↔ q < -32768 ∨ 32767 < q) ∧
      (scale = 0 → q = 0)) ∧
  (∀ z : MotionRecord,
    let w := motionFlags z
    w < 2048 ∧ (∀ k, k < 6 → w.testBit k = z.clipped.getLsbD k) ∧ w.testBit 6 = z.range ∧ w.testBit 7 = z.rateChanged ∧
      w.testBit 8 = z.fallback ∧ w / 512 = z.rate.toNat) ∧
  ∀ (s : State) (raw : Axes),
    let flag (n : Nat) (v : Half) := (calibrate v (s.itemInt (12 + n)) (s.item (18 + n))).2
    let f := (s.calibrateAxes raw).2
    f.getLsbD 0 = flag 0 raw.ax ∧ f.getLsbD 1 = flag 1 raw.ay ∧ f.getLsbD 2 = flag 2 raw.az ∧ f.getLsbD 3 = flag 3 raw.rx ∧
      f.getLsbD 4 = flag 4 raw.ry ∧ f.getLsbD 5 = flag 5 raw.rz

/-- The motion queue of the SOURCE: a record is judged by sequence and stamp (R143), an accepted one goes to the newest end, the oldest
making room at 64 (R144); a drain takes up to its count from the oldest end and leaves the newest kept (R145), and a count outside
1 to 8 is refused (R176), the refusal a status byte alone by the model's choice (assumption 26). -/
def Obligations.MotionQueueIsServed : Prop :=
  (∀ (s : State) (r : MotionRecord), s.motionSource.queue.length ≤ 64 →
    let q := s.motionSource.queue
    let t := s.recordArrives r
    let accepted := s.motionSource.newest = none ∨ ∃ seq stamp, s.motionSource.newest = some (seq, stamp) ∧ later r.sequence seq = true
    let newest := some (r.sequence, r.stamp)
    t = { s with motionSource := t.motionSource, counters := t.counters, host := { s.host with sticky := t.host.sticky } } ∧
    (accepted → q.length < 64 → t = { s with motionSource := ⟨q ++ [r], newest⟩ }) ∧
    (accepted → q.length = 64 → t.motionSource = ⟨q.drop 1 ++ [r], newest⟩ ∧
      t.counters = s.counters.add cMotionOverrun 1 ∧ t.sticky .motionOverrun = true) ∧
    ∀ seq stamp, s.motionSource.newest = some (seq, stamp) → later r.sequence seq = false →
      (stamp + 2000 < r.stamp → t.motionSource = ⟨[r], newest⟩ ∧
        (q = [] → t.counters = s.counters ∧ t.host = s.host) ∧
        (q ≠ [] → t.counters = s.counters.add cMotionOverrun q.length ∧ t.sticky .motionOverrun = true)) ∧
      (r.stamp ≤ stamp + 2000 → t = { s with counters := s.counters.add cOutOfOrder 1 })) ∧
  ∀ (s : State) (count : Byte), s.powered = true → s.host.taken = false →
    let n := count.toNat
    let q := s.motionSource.queue
    (n = 0 ∨ 8 < n → exec (.motionDrain count) s = .next { s with host := { s.host with reply := [6], taken := true } }) ∧
    (1 ≤ n → n ≤ 8 → s.role ≠ .source →
      exec (.motionDrain count) s = .next { s with host := { s.host with reply := [0, 0, 0], taken := true } }) ∧
    (1 ≤ n → n ≤ 8 → s.role = .source →
      let bytes := (q.take n).flatMap (fun r =>
        leBytes 2 r.sequence.toNat ++ leBytes 6 r.stamp ++ axesBytes r.axes ++ leBytes 2 (motionFlags r))
      let reply := 0 :: BitVec.ofNat 8 (min n q.length) :: BitVec.ofNat 8 (q.length - n) :: bytes
      bytes.length = 22 * min n q.length ∧
      exec (.motionDrain count) s = .next { s with
        motionSource := { s.motionSource with queue := q.drop n }, host := { s.host with reply := reply, taken := true } })

/-! ## Audio -/

/-- A block of 48 frames or samples is built and closed: at the SOURCE of its audio input (R149, R150), at a HEADSET that is not parked of
its microphone (R160). A closed block takes the next sequence number and its time, and goes out in RUNNING or counts as UNSENT,
as one it replaces does. Parking (R159) empties the playback queue and the microphone block uncounted and leaves the output WAITING at
silence, its slip timer stopped and the last sequence forgotten, the sequence numbers kept: so at the end of the supply grace with the
action PARK. On unparking the first sample falls at the start of a frame period not yet passed. A frame period begins at 1,000 × m +
⌊i × 1,000 ÷ 48⌋ µs, i from 0 to 47 (R148): the next one is the first of these not before a time. The time of a capture, the period after
the last one taken, is assumption 1's, a presentation time past 2^48 − 1 assumption 28's. -/
def Obligations.AudioBlocksAreBuilt : Prop :=
  let silenced (a : AudioHeadset) : AudioHeadset := { a with
    queue := [], lastSeq := none, output := .waiting, slipFrom := none, twice := false, frameOut := (0, 0), micBuild := []
    down := true }
  (∀ time taken : Nat,
    let period (m i : Nat) : Nat := 1000 * m + i * 1000 / 48
    let next := nextFramePeriod time
    time ≤ next ∧ (∃ i, i ≤ 47 ∧ next = period (next / 1000) i) ∧ (∀ m i, i ≤ 47 → time ≤ period m i → next ≤ period m i) ∧
    framePeriodAfter none time = next ∧ framePeriodAfter (some taken) time = nextFramePeriod (taken + 1)) ∧
  (∀ s : State, s.role = .headset → s.parked = true → s.audioHeadset.down = false →
    s.syncAudioPower = { s with audioHeadset := silenced s.audioHeadset }) ∧
  (∀ s : State, s.role ≠ .headset ∨ s.parked = s.audioHeadset.down → s.syncAudioPower = s) ∧
  (∀ (s : State) (t0 : Nat), s.powered = true → s.role = .headset → s.power.graceFrom = some t0 →
    s.item itemActionSupplyLost = 2 →
    ∃ t, exec .supplyGraceExpiry s = .next t ∧ t.parked = true ∧ t.counters = s.counters ∧
      t.audioHeadset = (if s.audioHeadset.down then s.audioHeadset else silenced s.audioHeadset)) ∧
  (∀ s : State, s.role = .headset → s.parked = false → s.audioHeadset.down = true →
    let t := s.syncAudioPower
    s.clock.now ≤ framePeriodAfter t.audioHeadset.capTaken s.clock.now ∧
      (∀ t0, s.audioHeadset.capTaken = some t0 → s.clock.now ≤ nextFramePeriod (t0 + 1) → t.audioHeadset.capTaken = some t0) ∧
      t = { s with audioHeadset := { s.audioHeadset with down := false, capTaken := t.audioHeadset.capTaken } }) ∧
  (∀ (s : State) (l r : Half), s.powered = true →
    let a := s.audioSource
    (s.role ≠ .source → exec (.audioFrameInput l r) s = .next s) ∧
    (s.role = .source → a.builder.length < 47 → exec (.audioFrameInput l r) s = .next
      { s with audioSource := { a with builder := a.builder ++ [(l, r)] } }) ∧
    (s.role = .source → a.builder.length = 47 →
      let u : State := { s with audioSource := { a with builder := [], sequence := a.sequence + 1 } }
      let packet := audioPacket a.sequence (s.clock.tether + s.item itemAudioLead) (a.builder ++ [(l, r)])
      let replaced := s.lanes.downTx.sending ≠ none ∧ ∃ q ∈ s.lanes.downTx.waiting, q.kind = .audio
      (s.agree.state ≠ .running → exec (.audioFrameInput l r) s = .next { u with counters := s.counters.add cBlockUnsent 1 }) ∧
      (s.agree.state = .running → ¬ replaced → exec (.audioFrameInput l r) s = .next { u with
        lanes := { s.lanes with downTx := s.lanes.downTx.offer packet s.clock.now } }) ∧
      (s.agree.state = .running → replaced → exec (.audioFrameInput l r) s = .next { u with
        lanes := { s.lanes with downTx := s.lanes.downTx.offer packet s.clock.now }
        counters := s.counters.add cBlockUnsent 1 }))) ∧
  ∀ (s : State) (v : Half), s.powered = true →
    (s.role ≠ .headset ∨ s.parked = true → exec (.micCapture v) s = .next s) ∧
    (s.role = .headset → s.parked = false →
      let a := s.audioHeadset
      let due := framePeriodAfter a.capTaken s.clock.now
      let u := s.advanceTo due
      let start := if a.micBuild = [] then u.clock.tether else a.micStart
      let taken : AudioHeadset := { a with capTaken := some due, micStart := start }
      (a.micBuild.length < 47 → exec (.micCapture v) s = .next
        { u with audioHeadset := { taken with micBuild := a.micBuild ++ [v] } }) ∧
      (a.micBuild.length = 47 →
        let w : State := { u with audioHeadset := { taken with micBuild := [], micSequence := a.micSequence + 1 } }
        let packet := micPacket a.micSequence start (a.micBuild ++ [v])
        let replaced := s.lanes.upTx.sending ≠ none ∧ ∃ q ∈ s.lanes.upTx.waiting, q.kind = .mic
        (s.agree.state ≠ .running → exec (.micCapture v) s = .next { w with counters := s.counters.add cBlockUnsent 1 }) ∧
        (s.agree.state = .running → ¬ replaced → exec (.micCapture v) s = .next { w with
          lanes := { s.lanes with upTx := s.lanes.upTx.offer packet u.clock.now } }) ∧
        (s.agree.state = .running → replaced → exec (.micCapture v) s = .next { w with
          lanes := { s.lanes with upTx := s.lanes.upTx.offer packet u.clock.now }
          counters := s.counters.add cBlockUnsent 1 })))

/-- An arriving playback block is late, overflows or is appended behind its fill (R151, R152), and starts a waiting output whose queue was
empty once its time has come (R153). An arriving microphone block is queued, at 960 samples in the place of the oldest, and the
SOURCE's output sends the oldest sample, with the capture time at the first of a block (R161). A fill time not below 0 is assumption
28's, the oldest block's discard where fewer than 48 places are left assumption 36's, the time of a sample assumption 1's. -/
def Obligations.AudioBlocksAreQueued : Prop :=
  (∀ (s : State) (seq : Half) (pt : Nat) (frames : List (Half × Half)), frames.length = 48 →
    let a := s.audioHeadset
    let gap := fun last : Half => (seq - last - 1).toNat
    let t := s.audioArrives seq pt frames
    ∀ k : Nat,
      (∀ last, a.lastSeq = some last → later seq last = true → a.queue ≠ [] → 1 ≤ gap last → gap last ≤ 4 → k = gap last) →
      ((a.lastSeq = none ∨ a.queue = [] ∨ ∃ last, a.lastSeq = some last ∧
        (later seq last = false ∨ gap last = 0 ∨ 4 < gap last)) → k = 0) →
      (pt + 979 < s.clock.tether → t = { s with counters := s.counters.add cBlockLate 1 }) ∧
      (s.clock.tether ≤ pt + 979 → 480 < a.frameCount + 48 + 48 * k →
        t = { s with counters := s.counters.add cOverflow 1 }) ∧
      (s.clock.tether ≤ pt + 979 → a.frameCount + 48 + 48 * k ≤ 480 →
        let queued : AudioHeadset := { a with
          lastSeq := some seq
          queue := a.queue ++
            (List.range k).map (fun i => ⟨none, pt - (k - i) * 1000, List.replicate 48 (0, 0)⟩) ++ [⟨some seq, pt, frames⟩] }
        t = { s with
          counters := s.counters.add cBlocks 1
          audioHeadset :=
            if a.queue = [] ∧ a.output = .waiting ∧ pt ≤ s.clock.tether then
              { queued with output := .playing, slipFrom := some s.clock.now, twice := false, underrun := false }
            else queued })) ∧
  (∀ (s : State) (time : Nat) (samples : List Half),
    let a := s.audioSource
    (a.micCount + samples.length ≤ 960 →
      s.micArrives time samples = { s with audioSource := { a with micQueue := a.micQueue ++ [⟨time, samples⟩] } }) ∧
    (960 < a.micCount + samples.length →
      s.micArrives time samples = { s with
        audioSource := { a with micQueue := a.micQueue.drop 1 ++ [⟨time, samples⟩] }
        counters := s.counters.add cMicOverrun 1 })) ∧
  ∀ s : State, s.powered = true →
    let a := s.audioSource
    let due := framePeriodAfter a.micTaken s.clock.now
    (s.role ≠ .source → exec .micOutputSample s = .next s) ∧
    (s.role = .source → a.micQueue = [] → exec .micOutputSample s = .next { s.advanceTo due with
      audioSource := { a with micOut := 0, micTime := none, micTaken := some due } }) ∧
    (s.role = .source → ∀ b rest v vs, a.micQueue = b :: rest → b.samples = v :: vs →
      exec .micOutputSample s = .next { s.advanceTo due with audioSource := { a with
        micOut := v, micTime := if 48 ≤ b.samples.length then some b.time else none, micTaken := some due
        micQueue := if vs = [] then rest else { b with samples := vs } :: rest } })

/-- One frame period of the output (R154, R155): silence in WAITING; in PLAYING the head frame, which leaves the queue unless it is to be
played twice; with no frame left an underrun, whose first frame is a free value (assumption 4); in RAMPING the next of 48 ramp
frames. A block used up leaves, and late ones behind it with it (R153). The presentation time starts playback (R153), and the
slip event marks, drops or leaves the head frame (R156). Times by assumption 1. -/
def Obligations.OutputFollowsTheQueue : Prop :=
  ∀ s : State, s.powered = true →
    let a := s.audioHeadset
    let due := framePeriodAfter a.outTaken s.clock.now
    let u := s.advanceTo due
    let volume := s.item itemVolume
    let level := s.loads.current.audio
    (s.role ≠ .headset → exec .outputFramePeriod s = .next s) ∧
    (s.role = .headset → a.output = .waiting → exec .outputFramePeriod s = .next
      { u with audioHeadset := { a with outTaken := some due, frameOut := (0, 0) } }) ∧
    (s.role = .headset → a.output = .playing → ∀ b rest f fs, a.queue = b :: rest → b.frames = f :: fs →
      let sent : AudioHeadset := { a with
        outTaken := some due, lastFrame := some f
        frameOut := (outputSample volume level f.1, outputSample volume level f.2) }
      (a.twice = true → exec .outputFramePeriod s = .next { u with audioHeadset := { sent with twice := false } }) ∧
      (a.twice = false → fs ≠ [] → exec .outputFramePeriod s = .next
        { u with audioHeadset := { sent with queue := { b with frames := fs } :: rest } }) ∧
      (a.twice = false → fs = [] → ∃ late, late ++ (dropLate u.clock.tether rest).2 = rest ∧
        (∀ x ∈ late, 48 ≤ x.frames.length ∧ x.lastTime < u.clock.tether) ∧
        (∀ x l, (dropLate u.clock.tether rest).2 = x :: l → x.frames.length < 48 ∨ u.clock.tether ≤ x.lastTime) ∧
        exec .outputFramePeriod s = .next { u with
          audioHeadset := { sent with queue := (dropLate u.clock.tether rest).2 }
          counters := if late = [] then s.counters else s.counters.add cBlockLate late.length })) ∧
    (s.role = .headset → a.output = .playing → a.queue = [] →
      ∃ t, exec .outputFramePeriod s = .next t ∧ t.sticky .audioUnderrun = true ∧ t.counters = s.counters.add cUnderrun 1 ∧
        (a.lastFrame ≠ none → t.audioHeadset.lastFrame = a.lastFrame) ∧ t.audioHeadset.lastFrame ≠ none ∧
        t.audioHeadset = { a with
          outTaken := some due, output := .ramping 0, slipFrom := none, twice := false, underrun := true
          frameOut := t.audioHeadset.frameOut, lastFrame := t.audioHeadset.lastFrame } ∧
        t = { u with audioHeadset := t.audioHeadset, counters := t.counters, freeCount := t.freeCount
                     host := { s.host with sticky := t.host.sticky } }) ∧
    (s.role = .headset → ∀ j f, a.output = .ramping j → a.lastFrame = some f →
      let sent : AudioHeadset := { a with
        outTaken := some due
        frameOut := (rampSample volume level (j + 1) f.1, rampSample volume level (j + 1) f.2) }
      (j < 47 → exec .outputFramePeriod s = .next { u with audioHeadset := { sent with output := .ramping (j + 1) } }) ∧
      (j = 47 → exec .outputFramePeriod s = .next
        ({ u with audioHeadset := { sent with output := .waiting } } : State).judgeHead)) ∧
    (a.output ≠ .waiting ∨ a.queue = [] → exec .presentationTimeReached s = .next s) ∧
    (∀ b rest, a.output = .waiting → a.queue = b :: rest → b.headTime ≤ tetherMax →
      let w := s.advance (b.headTime - s.clock.tether)
      exec .presentationTimeReached s = .next { w with audioHeadset := { a with
        output := .playing, slipFrom := some w.clock.now, twice := false, underrun := false } }) ∧
    ∀ t0, a.slipFrom = some t0 →
      let w := s.advanceTo (t0 + 64000)
      let timed : AudioHeadset := { a with slipFrom := some (t0 + 64000) }
      (a.queue = [] → exec .slipTimerExpiry s = .next { w with audioHeadset := timed }) ∧
      ∀ b rest, a.queue = b :: rest →
        (w.clock.tether + 42 ≤ b.headTime → exec .slipTimerExpiry s = .next { w with
          audioHeadset := { timed with twice := true }, counters := s.counters.add cSlipAdd 1 }) ∧
        (b.headTime + 42 ≤ w.clock.tether → exec .slipTimerExpiry s = .next
          ({ w with audioHeadset := { timed with twice := false }, counters := s.counters.add cSlipDrop 1 } : State).removeHeadFrame) ∧
        (w.clock.tether < b.headTime + 42 → b.headTime < w.clock.tether + 42 →
          exec .slipTimerExpiry s = .next { w with audioHeadset := timed })

/-- The output arithmetic (R155, R158), exact at every volume up to 256: a sample times the volume over 256, then over the gain limit,
each rounded toward zero; at level 0, and at the 48th ramp frame, silence; nothing is larger than its input. -/
def Obligations.OutputArithmeticIsExact : Prop :=
  ∀ (volume level j : Nat) (v : Half), volume ≤ 256 → j ≤ 48 →
    let stage1 := Int.tdiv (v.toInt * (volume : Int)) 256
    let stage2 :=
      if level = 0 then 0 else if level = 1 then Int.tdiv stage1 4 else if level = 2 then Int.tdiv stage1 2 else stage1
    (outputSample volume level v).toInt = stage2 ∧ stage2.natAbs ≤ v.toInt.natAbs ∧
    (rampSample volume level j v).toInt = Int.tdiv (stage2 * (48 - (j : Int))) 48 ∧
    (level = 0 → outputSample volume level v = 0) ∧ rampSample volume level 48 v = 0

/-! ## Remote requests, resets, items and the host port -/

/-- REMOTE_START is judged in its order (R169) and a request taken offers its ASK with the next tag; the deadline's end is TIMEOUT with
REMOTE_DONE (R171, R172); REMOTE_RESULT gives the state, the request's fields and STALE_ANSWER, clears the count and hands a final
result over once (R172, R174); the fields a result does not have are free values (assumption 6). A request is served once in a
selection (R175). The time of the expiry is assumption 1's. -/
def Obligations.RemoteRequestRunsItsCourse : Prop :=
  ∀ s : State, s.powered = true →
    let r := s.remote
    let busy := r.state = .queued ∨ r.state = .awaiting
    let replied (u : State) (b : List Byte) : State := { u with host := { u.host with reply := b, taken := true } }
    (∀ (target op item : Byte) (value : Half), s.host.taken = false →
      let c : Instr := .remoteStart target op item value
      let known := ∃ e ∈ s.roster.peers, e.addr.toNat = target.toNat
      let own := target.toNat = s.straps.addr.toNat
      (s.roster.join = .listenOnly → exec c s = .next (replied s [8])) ∧
      (s.roster.join ≠ .listenOnly → busy → exec c s = .next (replied s [9])) ∧
      (s.roster.join ≠ .listenOnly → ¬ busy → own → exec c s = .next (replied s [10])) ∧
      (s.roster.join ≠ .listenOnly → ¬ busy → ¬ own → ¬ known → exec c s = .next (replied s [11])) ∧
      (s.roster.join ≠ .listenOnly → ¬ busy → ¬ own → known →
        let taken : Remote := { r with
          state := .queued, target := target, tag := r.tag + 1, operation := op, item := item, value := value
          answerStatus := 0, answerValue := 0, deadlineFrom := none }
        exec c s = .next (replied (({ s with remote := taken } : State).offerBurst .ask
          ([target, r.tag + 1, op, item] ++ leBytes 2 value.toNat)) [7]))) ∧
    (∀ t0, r.deadlineFrom = some t0 →
      ∃ t, exec .deadlineExpiry s = .next t ∧ t.clock = (s.advanceTo (t0 + 300000)).clock ∧
        t.remote = { r with state := .timeout, deadlineFrom := none } ∧ t.sticky .remoteDone = true ∧
        t = { s with clock := t.clock, remote := t.remote, host := { s.host with sticky := t.host.sticky } }) ∧
    let sent := [r.target, r.tag, r.operation]
    let stale := leBytes 2 r.stale
    let read : State := { s with remote := { r with stale := 0 }, freeCount := s.freeCount + 1 }
    let spent : State := { read with remote := { r with stale := 0, state := .idle } }
    let free (i : Nat) : Byte := Config.unstatedField s.freeCount i
    s.host.taken = false →
    (r.state = .idle → exec .remoteResult s = .next
      (replied read ([12, free 0, free 1, free 2, free 3, free 4, free 5] ++ stale))) ∧
    (busy → exec .remoteResult s = .next (replied read (7 :: sent ++ [free 3, free 4, free 5] ++ stale))) ∧
    (r.state = .done → exec .remoteResult s = .next
      (replied spent (13 :: sent ++ [r.answerStatus] ++ leBytes 2 r.answerValue.toNat ++ stale))) ∧
    (r.state = .timeout → exec .remoteResult s = .next (replied spent (14 :: sent ++ [free 3, free 4, free 5] ++ stale))) ∧
    (r.state = .giveUp → exec .remoteResult s = .next (replied spent (15 :: sent ++ [free 3, free 4, free 5] ++ stale))) ∧
    (r.state = .restarted → exec .remoteResult s = .next (replied spent (16 :: sent ++ [free 3, free 4, free 5] ++ stale)))

/-- An accepted ASK aimed at this node is served and answered by its operation (R166 to R168), and none at a listen-only node, from its own
address or while a remote restart is pending; an accepted ANSWER to this node ends the request it matches with DONE and is otherwise
counted as stale (R171, R174); requester address 0 is a strap-faulted node's by the model's choice (assumption 42). -/
def Obligations.AsksAreServedAndAnswersMatched : Prop :=
  ∀ (s : State) (sender : Addr) (p : List Byte) (lt ll : Nat),
    let mine := (byteAt p 0).toNat = s.straps.addr.toNat
    let asked := s.contentArrives ⟨sender, .ask, p, lt, ll⟩
    let answer (u : State) (st : Status) (v : Half) : State :=
      u.offerBurst .answer ([BitVec.ofNat 8 sender.toNat, byteAt p 1, st.code] ++ leBytes 2 v.toNat)
    let item := (byteAt p 3).toNat
    let index := (halfAt p 4).toNat
    (¬ mine ∨ s.roster.join = .listenOnly ∨ sender = s.straps.addr ∨ s.remote.restartFrom ≠ none → asked = s) ∧
    (mine → s.roster.join ≠ .listenOnly → sender ≠ s.straps.addr → s.remote.restartFrom = none →
      (byteAt p 2 = 1 → asked = answer s (s.readItem item).1 (s.readItem item).2) ∧
      (byteAt p 2 = 2 →
        let w := s.writeItem item (halfAt p 4)
        asked = answer w.state w.status w.value) ∧
      (byteAt p 2 = 3 →
        ((s.counters.group item)[index]? = none → asked = answer s .noItem 0) ∧
        ∀ v, (s.counters.group item)[index]? = some v →
          asked = answer { s with counters := s.counters.setGroup item ((s.counters.group item).set index 0) } .ok
            (BitVec.ofNat 16 v)) ∧
      (byteAt p 2 = 4 →
        let due : Remote := { s.remote with restartFrom := some s.clock.now }
        let u := answer { s with remote := due } .ok 0
        (u.rail.nextId = s.rail.nextId → asked = u) ∧
        (u.rail.nextId ≠ s.rail.nextId → asked = { u with remote := { due with restartAnswer := some s.rail.nextId } })) ∧
      ((byteAt p 2).toNat = 0 ∨ 4 < (byteAt p 2).toNat → asked = answer s .unknown 0)) ∧
    let given := s.contentArrives ⟨sender, .answer, p, lt, ll⟩
    let matched := s.remote.state = .awaiting ∧ sender.toNat = s.remote.target.toNat ∧ byteAt p 1 = s.remote.tag
    (¬ mine → given = s) ∧
    (mine → matched →
      given.remote = { s.remote with
        state := .done, deadlineFrom := none, answerStatus := byteAt p 2, answerValue := halfAt p 3 } ∧
      given.sticky .remoteDone = true ∧
      given = { s with remote := given.remote, host := { s.host with sticky := given.host.sticky } }) ∧
    (mine → ¬ matched → given = { s with remote := { s.remote with stale := min (s.remote.stale + 1) 65535 } })

/-- Full reset and restart (section 5.7 of 00_scope.md). Full reset samples the straps and keeps nothing but the local time, the input
levels, the host's selection, and the model's queue of commands and count of free values; both start every block afresh, the last
notices, the schedule copy and the submission, the sensor port, the block builders and a BATTERY's state by its inputs among it (R51,
R83, R130, R142, R163); a restart, at the end of the host's 50 ms (R177), of the remote 200 ms or of the ANSWER to a served RESTART (R168), keeps
straps, items, clocks, counters, the round, the sequence numbers and the remote request's result, and of the sticky flags the three
of listen-only. The host's selection goes on over the reset, the rest of a reply lost (R175). The first RESTART request offers the notice and
starts its timer; a further one only answers (R177). The local time kept is assumption 35's, the values the spec does not state
assumption 30's; times by assumption 1. -/
def Obligations.ResetsRestoreTheirValues : Prop :=
  ∀ s : State,
    let renewed (t : State) : Prop :=
      t.powered = true ∧ t.pending = s.pending ∧
      t.rail = { rx := .hunting, queue := [], sending := none, nextId := 0, stuck := none, courtesy := false
                 carrierIn := s.rail.carrierIn, quietFrom := t.clock.now } ∧
      t.roster.peers = [] ∧ t.roster.beaconFrom = none ∧
      t.roster.joinFrom = (if t.roster.join = .listenOnly then none else some t.clock.now) ∧
      t.agree.state = .halted ∧ t.agree.chosen = none ∧ t.agree.failures = 0 ∧ t.agree.laneFaults = 0 ∧
      t.agree.baseForcedFrom = none ∧ t.agree.lowered = none ∧ t.agree.lastRun = none ∧
      t.agree.reason = (if t.roster.join = .listenOnly ∧ t.role ≠ .battery then .listenOnly else .notJoined) ∧
      t.roster.self.summary = (if t.role = .battery then none else some (laneSummary AgreeState.halted.code 0)) ∧
      (∀ l, (t.lanes.tx l).state = .off ∧ (t.lanes.tx l).sending = none ∧ (t.lanes.tx l).waiting = [] ∧ t.lanes.rx l = .off) ∧ t.lanes.dozing = false ∧
      t.power = {
        supplier := (match t.role with
          | .source => some .railOn
          | .battery => some (if s.power.supplyReady = false then .notReady else if s.power.railPresent then .injecting else .noRail)
          | _ => none)
        offerFrom := none, claimFrom := none, supplyReady := s.power.supplyReady, railPresent := s.power.railPresent
        holdFrom := none, fallSeen := false, allowances := none, droop := 0, goodRun := 0, lastLow := false
        measureFrom := if t.role = .battery then none else some t.clock.now
        critActive := false, clearFrom := none, lostActive := false
        graceFrom := if t.tetherPowered then some t.clock.now else none
        lastOverdraw := ⟨0, 0⟩, lastTrip := ⟨0, 0⟩, lastCritical := ⟨0, 0⟩
        modeSet := (match t.role with | .source => gradesUpTo t.effectiveCeiling | .battery => [] | _ => [.g1])
        modeCeiling := t.effectiveCeiling, delayG2 := .idle, delayG3 := .idle, delayG4 := .idle
        trip := .none, tripHistory := [], overrun := 0, overdrawAt := none } ∧
      (t.role = .relay → t.loads = { cap := 100, current := ⟨1, 0, 0, 0⟩, target := ⟨1, 0, 0, 0⟩, panelFrom := none
                                     audioFrom := none, motionFrom := none }) ∧
      (t.role = .headset → t.loads = { cap := 456, current := ⟨1, 1, 0, 2⟩, target := ⟨1, 1, 0, 2⟩, panelFrom := none
                                       audioFrom := none, motionFrom := none }) ∧
      (t.role = .source → t.roster.self.offer = some ⟨t.offerLevel, 0⟩) ∧
      (t.role = .battery → t.roster.self.offer =
        some (if s.power.supplyReady = false then ⟨0, 4⟩ else if s.power.railPresent then ⟨t.offerLevel, 3⟩ else ⟨0, 5⟩)) ∧
      t.roster.self.claim = t.ownClaim ∧
      t.sliceSource = { schedule := none, sendQueue := [], submission := none, frames := [], answer := 0 } ∧
      t.sliceHeadset = { slots := List.replicate 12 ⟨none, none⟩, anchor := none, frame := 0, index := 0, notFresh := 0
                         panel := List.replicate 12 none } ∧
      t.motionSource = ⟨[], none⟩ ∧
      t.motionHeadset = {
        port := if t.role = .headset then .setting else .off, writing := if t.role = .headset then 2 else 0, again := false
        rateLevel := none, rateChanged := false, reading := none, sequence := t.motionHeadset.sequence, stallFrom := none
        stalled := false, lastRecord := none, fallbackFrom := if t.role = .headset then some t.clock.now else none } ∧
      t.audioSource = { builder := [], sequence := t.audioSource.sequence, micQueue := [], micOut := 0, micTime := none
                        micTaken := none } ∧
      t.audioHeadset = {
        queue := [], lastSeq := none, output := .waiting, lastFrame := none, slipFrom := none, twice := false
        underrun := false, frameOut := (0, 0), outTaken := none, micBuild := [], micStart := 0
        micSequence := t.audioHeadset.micSequence, capTaken := none, down := false } ∧
      t.remote.restartFrom = none ∧ t.host.restartFrom = none ∧ t.host.reply = [] ∧ t.host.taken = s.host.taken ∧
      t.host.cut = (if s.host.taken then some (s.host.cut.getD s.host.reply) else none) ∧ t.agree.listened = false ∧
      (∀ m, t.roster.self.modeSet = some m → m.round = t.agree.round)
    (∀ pins, ∃ t, exec (.fullReset pins) s = .next t ∧ renewed t ∧ t.straps = decodeStraps pins ∧
      t.items = defaultItems t.straps ∧ t.clock = { now := s.clock.now, tether := 0, slew := 0, slewFrom := 0 } ∧
      t.counters = zeroCounters ∧ t.agree.round = 0 ∧ t.motionHeadset.sequence = 0 ∧ t.audioSource.sequence = 0 ∧
      t.audioHeadset.micSequence = 0 ∧ t.remote = freshRemote ∧
      t.roster.join = (if t.straps.addr = 0 then .listenOnly else .joining) ∧
      t.host.sticky = (if t.straps.addr = 0 then 1#28 else 0#28)) ∧
    (∀ (pins : BitVec 11) (u : State), u.clock.now = s.clock.now → u.rail.carrierIn = s.rail.carrierIn →
      u.power.supplyReady = s.power.supplyReady → u.power.railPresent = s.power.railPresent → u.host = s.host →
      u.freeCount = s.freeCount → u.pending = s.pending → exec (.fullReset pins) u = exec (.fullReset pins) s) ∧
    (s.powered = true →
      let restarted (c : Instr) (due : Nat) (counters : Counters) : Prop :=
        ∃ t, exec c s = .next t ∧ renewed t ∧ t.clock = (s.advanceTo due).clock ∧ t.counters = counters ∧
          t.straps = s.straps ∧ t.items = s.items ∧ t.agree.round = s.agree.round ∧
          t.motionHeadset.sequence = s.motionHeadset.sequence ∧ t.audioSource.sequence = s.audioSource.sequence ∧
          t.audioHeadset.micSequence = s.audioHeadset.micSequence ∧
          t.remote = { s.remote with
            state := if s.remote.state = .queued ∨ s.remote.state = .awaiting then .restarted else s.remote.state
            deadlineFrom := none, restartFrom := none, restartAnswer := none } ∧
          t.roster.join = (if s.roster.join = .listenOnly then .listenOnly else .joining) ∧
          t.host.sticky = s.host.sticky &&& 7#28
      (∀ t0, s.host.restartFrom = some t0 → restarted .restartTimerExpiry (t0 + 50000) s.counters) ∧
      (∀ t0, s.remote.restartFrom = some t0 → restarted .remoteRestartTimerExpiry (t0 + 200000) s.counters) ∧
      (∀ x t0, s.remote.restartFrom = some t0 → s.rail.sending = some x → x.entry.kind = .answer →
        s.remote.restartAnswer = some x.entry.id →
        restarted .sendComplete (x.startedAt + 176 * x.frame.length) (s.counters.add cSent 1)) ∧
      (s.host.taken = false → s.host.restartFrom = none →
        let u := ({ s with host := { s.host with restartFrom := some s.clock.now } } : State).offerBurst .notice [4, 0]
        exec .restart s = .next { u with host := { u.host with reply := [0], taken := true } }) ∧
      (∀ t0, s.host.taken = false → s.host.restartFrom = some t0 →
        exec .restart s = .next { s with host := { s.host with reply := [0], taken := true } }))

/-- Items are read and written in the order of R165: the number, the role, the read-only IDENT, the range, by the table of R164 (an OFFSET
item takes every 16-bit quantity), with the 100 mV that DROOP_LOW and DROOP_CRIT keep (R82, within the 100 mV by assumption 33). A
write holds its value and acts in its event. An own offer or claim it changes is announced while ACTIVE (R56, R57) and runs the
computation (R58); a wanted level or SHED_ORDER computes the targets again (R74), SHED_ORDER moves no claim; a ceiling or an action
of a supply fault forms the cap and the mode set again, and a set that changes or becomes empty, as on parking, moves the round (R84,
R96, R107; a change of the ceiling alone is assumption 40's, no grade in HALTED assumption 20's). RAIL_ENABLE holds no value: 1 clears
the trip history and any latch, 0 latches the rail, by a commanded trip with NOTICE TRIP of detail 3 where none is in progress (R90). -/
def Obligations.ItemsAreReadAndWritten : Prop :=
  ∀ (s : State) (n : Byte) (v : Half), s.powered = true → s.host.taken = false → s.items.length = 31 →
    let k := n.toNat
    let every : List Role := [.source, .relay, .headset, .battery]
    let table : List (Nat × Nat × Nat × List Role) :=
      [(0, 0, 3000, [.source, .battery]), (1, 1, 4, [.source, .relay, .headset]), (2, 1, 4, [.headset]), (3, 0, 3, [.headset]),
       (4, 2, if s.straps.motion2000 then 3 else 2, [.headset]), (5, 0, 5, [.headset]),
       (6, 8000, 11500, [.relay, .headset]), (7, 8000, 11500, [.relay, .headset]), (8, 0, 2, [.relay, .headset]),
       (9, 0, 2, [.relay, .headset]), (10, 0, 1, [.source]), (11, 0, 2000, [.headset])] ++
      (List.range 12).map (fun i => (12 + i, 0, 65535, [.headset])) ++
      [(24, 0, 32767, [.headset]), (25, 0, 32767, [.headset]), (26, 2000, 20000, [.source]), (27, 0, 256, [.headset]),
       (28, 0, 65535, every), (29, 0, 65535, every), (30, 0, 65535, every)]
    let replied (st : Status) (x : Nat) : State := { s with host := { s.host with reply := st.code :: leBytes 2 x, taken := true } }
    (30 < k → exec (.itemRead n) s = .next (replied .noItem 0) ∧ exec (.itemWrite n v) s = .next (replied .noItem 0)) ∧
    (k ≤ 30 → ∃ row ∈ table, row.1 = k) ∧
    ∀ row ∈ table, row.1 = k →
      let lo := row.2.1
      let hi := row.2.2.1
      (s.role ∉ row.2.2.2 →
        exec (.itemRead n) s = .next (replied .notApplicable 0) ∧ exec (.itemWrite n v) s = .next (replied .notApplicable 0)) ∧
      (s.role ∈ row.2.2.2 →
        (k ≠ 10 → k ≠ 30 → exec (.itemRead n) s = .next (replied .ok (s.item k))) ∧
        (k = 10 → exec (.itemRead n) s = .next (replied .ok (if s.power.latched then 0 else 1))) ∧
        (k = 30 →
          let ident := s.straps.addr.toNat + 16 * s.role.code.toNat + 256
          exec (.itemRead n) s = .next (replied .ok ident) ∧ exec (.itemWrite n v) s = .next (replied .refused ident)) ∧
        (k ≠ 10 → k ≠ 30 →
          let c := if v.toNat < lo then lo else if hi < v.toNat then hi else v.toNat
          let h := if k = 6 then max c (s.item 7 + 100) else if k = 7 then min c (s.item 6 - 100) else c
          ∃ t, exec (.itemWrite n v) s = .next t ∧ t.items = s.items.set k (BitVec.ofNat 16 h) ∧ t.clock = s.clock ∧
            t.host.reply = (if h = v.toNat then 0 else 1) :: leBytes 2 h ∧
            (k = 0 → t.roster.self.offer = t.ownOffer) ∧ (k = 1 → t.agree.lowered = none) ∧
            (1 ≤ k → k ≤ 4 → t.roster.self.claim = t.ownClaim) ∧
            (k ≤ 4 → s.SupplyFollows
              (decide (s.roster.self.offer ≠ t.roster.self.offer) || decide (s.roster.self.claim ≠ t.roster.self.claim)) t) ∧
            ((1 ≤ k ∧ k ≤ 4) ∨ k = 8 ∨ k = 9 → s.SetFormed t) ∧
            (k ≤ 4 ∨ k = 8 ∨ k = 9 →
              let u : State := if k = 1 then { s with agree := { s.agree with lowered := none } } else s
              s.Announced t ∧ u.AgreeFollows false t) ∧
            (2 ≤ k → k ≤ 5 → t.loads.target = t.targets) ∧
            (k = 5 →
              (let old := s.loads.current
               let new := t.loads.target
               t.loads.current = ⟨new.lane, min old.panel new.panel, min old.audio new.audio, min old.motion new.motion⟩) ∧
              t = { s with
                items := t.items, loads := t.loads, motionHeadset := t.motionHeadset
                host := { s.host with reply := t.host.reply, taken := true } }) ∧
            (6 ≤ k → k ≠ 8 → k ≠ 9 →
              t = { s with items := t.items, host := { s.host with reply := t.host.reply, taken := true } }) ∧
            State.PathRailFrame { s with items := t.items, host := { s.host with reply := t.host.reply, taken := true } } t) ∧
        (k = 10 →
          ∃ t, exec (.itemWrite n v) s = .next t ∧ t.clock = s.clock ∧
            t.host.reply = (if v.toNat ≤ 1 then 0 else 1) :: leBytes 2 (if t.power.latched then 0 else 1) ∧
            (v.toNat ≠ 0 → t.power.tripHistory = [] ∧
              (s.power.supplier = some .railLatched → t.power.supplier = some .railOn ∧ t.power.trip = .none ∧
                t.roster.self.offer = some ⟨s.offerLevel, 0⟩) ∧
              (s.power.supplier ≠ some .railLatched → t.power.supplier = s.power.supplier ∧
                t.power.trip = (match s.power.trip with | .pending t0 _ => .pending t0 false | x => x))) ∧
            (v.toNat = 0 → s.power.latched = true → t.power = s.power) ∧
            (v.toNat = 0 → s.power.latched = false → t.sticky .railLatched = true ∧
              (s.power.trip = .none →
                t.power = { s.power with trip := .pending s.clock.now true, overrun := 0, measureFrom := none } ∧
                t.sticky .tripped = true) ∧
              (∀ t0 l, s.power.trip = .pending t0 l → t.power = { s.power with trip := .pending t0 true }) ∧
              (∀ t0, s.power.trip = .offTime t0 → t.power.supplier = some .railLatched ∧ t.power.trip = .none ∧
                t.roster.self.offer = some ⟨0, 2⟩)) ∧
            (let u : State :=
               if v.toNat = 0 ∧ s.power.latched = false ∧ s.power.trip = .none then s.offerBurst .notice [2, 3] else s
             u.Announced t) ∧
            s.SupplyFollows (decide (s.roster.self.offer ≠ t.roster.self.offer)) t ∧ s.AgreeFollows false t ∧
            State.PathRailFrame { s with host := { s.host with reply := t.host.reply, taken := true } } t))

/-- The host's reads are answered in the layouts of section 11.4 and change nothing but what the rule says: a STATUS_READ clears each
sticky flag whose condition in the table of section 10.4 does not hold (R179; 'by that cause' at flags 0 to 2 is the flag itself, set by
that cause alone), a COUNTER_READ the counters of its group (R178); a ROSTER_READ gives every entry in address order, its fields at
their offsets, its age in whole ms, absent fields zero (R42); an ALLOWANCE_READ every field of the view, the claimants in their order and
the last notices, zeros where a field is absent (R71). Whether LANE_READ's ms are rounded up or down is open (assumption 5), its
BASE_FORCED byte and a time left of 0 are the model's choice (assumption 41). An unknown code is answered UNKNOWN (R176), a refusal a
status byte alone (assumption 26). The first byte the host sends is the request code, which picks the command and fixes the frame's
length; the request is taken at its last byte, a partial one not, and bytes after it are ignored (R175). A selection carries one
request; its release takes the reply's bytes, zeros after its end and, of a reply cut off by a reset, after that (R175, assumption 26).
The attention output is asserted while a flag is both set and unmasked (R181). -/
def Obligations.HostRequestsAreAnswered : Prop :=
  (∀ (a b c d e : Byte) (more : List Byte),
    let whole (frame : List Byte) (i : Instr) : Prop :=
      readRequest (frame ++ more) = some i ∧ i.wellFormed = true ∧ hostRequest i = true ∧
      selectionCommands (frame ++ more) = [i, .hostDeselect ⟨more.length, 0⟩] ∧
      ∀ n, n < frame.length → readRequest (frame.take n) = none ∧ selectionCommands (frame.take n) = [.hostDeselect ⟨0, 0⟩]
    let value (low high : Byte) : Half := BitVec.ofNat 16 (low.toNat + 256 * high.toNat)
    whole [1, a] (.itemRead a) ∧ whole [2, a, b, c] (.itemWrite a (value b c)) ∧ whole [3] .statusRead ∧
    whole [4, a] (.counterRead a) ∧ whole [5] .rosterRead ∧ whole [6] .allowanceRead ∧ whole [7] .laneRead ∧
    whole [8, a] (.motionDrain a) ∧ whole [9] .framesRead ∧
    whole [10, a, b, c, d, e] (.remoteStart a b c (value d e)) ∧ whole [11] .remoteResult ∧ whole [12] .restart ∧
    (a.toNat = 0 ∨ 12 < a.toNat → whole [a] (.unknownRequest a))) ∧
  ∀ s : State, s.powered = true →
    let replied (b : List Byte) : State := { s with host := { s.host with reply := b, taken := true } }
    (s.attn = true ↔ ∃ f : Flag, s.flag f = true ∧
      (if f.number < 16 then (s.item 28).testBit f.number else (s.item 29).testBit (f.number - 16)) = true) ∧
    (s.host.taken = true → ∀ c, hostRequest c = true → c.wellFormed = true → exec c s = .next s) ∧
    (∀ n : Clocking,
      let before := min n.beforeReset n.total
      exec (.hostDeselect n) s = .next { s with host := { s.host with
        reply := [], taken := false, cut := none
        clocked := match s.host.cut with
          | none => s.host.reply.take n.total ++ List.replicate (n.total - s.host.reply.length) 0
          | some r => r.take before ++ List.replicate (n.total - min before r.length) 0 } }) ∧
    (s.host.taken = false →
    (let stays (f : Flag) : Bool := match f with
       | .strapFault | .addressClash | .roleClash => decide (s.roster.join = .listenOnly)
       | .droopLow => s.power.lastLow
       | .droopCrit => s.power.critActive
       | .supplyShort => (s.power.allowances.map AllowanceList.short).getD false
       | .supplyLost => s.power.lostActive
       | .overdraw => decide (3 ≤ s.power.overrun)
       | .tripped => decide ((s.role = .source ∧ (s.power.trip ≠ .none ∨ s.power.supplier = some .railLatched)) ∨
           s.power.supplier = some .tripHold)
       | .railLatched => decide (s.power.supplier = some .railLatched) || (match s.power.trip with | .pending _ latch => latch | _ => false)
       | .baseForced => s.agree.baseForcedFrom.isSome
       | .sensorStall => s.motionHeadset.stalled
       | .motionRange => (s.motionHeadset.lastRecord.map (fun r => r.1.range)).getD false
       | .motionOverrun => decide (s.motionSource.queue.length = 64)
       | .audioUnderrun => s.audioHeadset.underrun
       | .remoteDone => decide (s.remote.state = .done ∨ s.remote.state = .timeout ∨ s.remote.state = .giveUp)
       | _ => false
     ∃ w kept : BitVec 28, (∀ f : Flag, w.getLsbD f.number = s.flag f) ∧
      (∀ f : Flag, kept.getLsbD f.number = (s.sticky f && stays f)) ∧
      exec .statusRead s = .next { s with host := { s.host with sticky := kept, reply := 0 :: leBytes 4 w.toNat, taken := true } }) ∧
    (∀ g : Byte, 4 < g.toNat → exec (.counterRead g) s = .next (replied [6])) ∧
    (∀ g : Byte, g.toNat ≤ 4 →
      let l := s.counters.group g.toNat
      exec (.counterRead g) s = .next { s with
        counters := s.counters.setGroup g.toNat (List.replicate l.length 0)
        host := { s.host with reply := 0 :: l.flatMap (leBytes 2), taken := true } }) ∧
    (∃ b : List Byte, exec .rosterRead s = .next (replied (0 :: b)) ∧ b.length = 9 + 32 * (s.roster.peers.length + 1) ∧
      b.take 9 = [s.roster.join.code] ++ leBytes 6 s.clock.tether ++
        [BitVec.ofNat 8 s.clock.slew, BitVec.ofNat 8 (s.roster.peers.length + 1)] ∧
      ∀ i e, s.roster.entries[i]? = some e →
        let x := (b.drop (9 + 32 * i)).take 32
        let present := byteAt x 2
        let absent (at_ count : Nat) : Prop := (x.drop at_).take count = List.replicate count 0
        x.length = 32 ∧ byteAt x 0 = BitVec.ofNat 8 e.addr.toNat ∧
        (e.role = none → byteAt x 1 = 0) ∧ (∀ r, e.role = some r → byteAt x 1 = r.code) ∧
        present.toNat < 128 ∧ present.getLsbD 0 = e.lastHeard.isSome ∧ present.getLsbD 1 = e.summary.isSome ∧
        present.getLsbD 2 = e.offer.isSome ∧ present.getLsbD 3 = e.claim.isSome ∧ present.getLsbD 4 = e.modeSet.isSome ∧
        present.getLsbD 5 = e.confirm.isSome ∧ present.getLsbD 6 = e.anchor.isSome ∧
        (e.lastHeard = none → absent 3 2) ∧
        (∀ t0, e.lastHeard = some t0 → fieldAt x 3 2 = (s.clock.now - t0) / 1000 % 65536) ∧
        (e.summary = none → absent 5 1) ∧ (∀ y, e.summary = some y → byteAt x 5 = y) ∧
        (e.offer = none → absent 6 3) ∧
        (∀ o, e.offer = some o → fieldAt x 6 2 = o.current % 65536 ∧ byteAt x 8 = o.state) ∧
        (e.claim = none → absent 9 5) ∧
        (∀ c, e.claim = some c → fieldAt x 9 2 = c.floor % 65536 ∧ fieldAt x 11 2 = c.want % 65536 ∧
          byteAt x 13 = BitVec.ofNat 8 c.cls) ∧
        (e.modeSet = none → absent 14 8) ∧
        (∀ m, e.modeSet = some m → fieldAt x 14 2 = m.round.toNat ∧ byteAt x 16 = BitVec.ofNat 8 m.grades.length ∧
          (∀ j, j < 4 → byteAt x (17 + j) = byteAt m.grades j) ∧ byteAt x 21 = m.ceiling) ∧
        (e.confirm = none → absent 22 3) ∧
        (∀ c, e.confirm = some c → fieldAt x 22 2 = c.round.toNat ∧ byteAt x 24 = c.grade) ∧
        (e.anchor = none → absent 25 7) ∧
        (∀ a, e.anchor = some a → fieldAt x 25 6 = a.time % 2 ^ 48 ∧ byteAt x 31 = (if a.period120 then 2 else 1))) ∧
    (∃ b : List Byte, exec .allowanceRead s = .next (replied (0 :: b)) ∧
      let grants := (s.power.allowances.map AllowanceList.grants).getD []
      let presence := byteAt b 0
      let notice (r : NoticeRecord) : List Byte := [BitVec.ofNat 8 r.sender.toNat, r.detail]
      b.length = 27 + 5 * grants.length ∧ presence.toNat < 32 ∧ presence.getLsbD 0 = s.power.allowances.isSome ∧
      presence.getLsbD 2 = s.tetherPowered ∧ presence.getLsbD 3 = s.tetherPowered ∧ presence.getLsbD 4 = s.onPath ∧
      (s.power.allowances = none → presence.getLsbD 1 = false ∧ fieldAt b 1 6 = 0) ∧
      (∀ l, s.power.allowances = some l → presence.getLsbD 1 = l.short ∧ fieldAt b 1 2 = min l.total 65535 ∧ fieldAt b 3 2 = min l.reserve 65535 ∧
        fieldAt b 5 2 = min l.budget 65535) ∧
      (s.tetherPowered = true → fieldAt b 7 2 = s.effectiveCap % 65536 ∧ fieldAt b 9 1 = s.power.droop % 256 ∧
        (b.drop 12).take 8 = [s.loads.current.lane, s.loads.target.lane, s.loads.current.panel, s.loads.target.panel,
          s.loads.current.audio, s.loads.target.audio, s.loads.current.motion, s.loads.target.motion].map (BitVec.ofNat 8)) ∧
      (s.tetherPowered = false → fieldAt b 7 3 = 0 ∧ (b.drop 12).take 8 = List.replicate 8 0) ∧
      (byteAt b 10).toNat < 16 ∧
      (∀ g, (byteAt b 10).getLsbD (gradeNum g - 1) = (s.onPath && s.power.modeSet.contains g)) ∧
      byteAt b 11 = (if s.onPath then gradeCode s.power.modeCeiling else 0) ∧
      byteAt b 20 = BitVec.ofNat 8 grants.length ∧
      (∀ i g, grants[i]? = some g → (b.drop (21 + 5 * i)).take 5 =
        [BitVec.ofNat 8 g.addr.toNat, BitVec.ofNat 8 g.cls] ++ leBytes 2 g.allowance ++ [if g.parked then 1 else 0]) ∧
      b.drop (21 + 5 * grants.length) =
        notice s.power.lastOverdraw ++ notice s.power.lastTrip ++ notice s.power.lastCritical) ∧
    (∃ ms : Nat,
      (s.agree.baseForcedFrom = none → ms = 0) ∧
      (∀ t0, s.agree.baseForcedFrom = some t0 →
        1000 * ms < t0 + 10000000 - s.clock.now + 1000 ∧ t0 + 10000000 - s.clock.now < 1000 * ms + 1000) ∧
      exec .laneRead s = .next (replied ([0, s.agree.state.code] ++ leBytes 2 s.agree.round.toNat ++
        [optGradeCode s.agree.chosen, s.agree.reason.code, BitVec.ofNat 8 s.agree.failures] ++ leBytes 2 s.agree.laneFaults ++
        [if s.agree.baseForcedFrom.isSome then 1 else 0] ++ leBytes 2 ms ++
        [optGradeCode s.agree.lowered, optGradeCode s.agree.lastRun]))) ∧
    (s.role = .source → exec .framesRead s = .next (replied (0 :: BitVec.ofNat 8 s.sliceSource.frames.length ::
      s.sliceSource.frames.flatMap (fun r => leBytes 2 r.frame.toNat ++ leBytes 6 r.time ++ [r.repeated])))) ∧
    (s.role ≠ .source → exec .framesRead s = .next (replied [0, 0])) ∧
    (∀ code : Byte, code.toNat = 0 ∨ 12 < code.toNat → exec (.unknownRequest code) s = .next (replied [5])))
end

