-- ==== Sys2Proof/Laws/State.lean ====
section
/-! SUPPORT. One lemma per field per update: what each named update of the state changes and leaves. -/

namespace Sys2Proof.Machine

variable (s : State)

@[simp] theorem State.advance_powered (n : Nat) : (s.advance n).powered = s.powered := rfl
@[simp] theorem State.advance_straps (n : Nat) : (s.advance n).straps = s.straps := rfl
@[simp] theorem State.advance_rail (n : Nat) : (s.advance n).rail = s.rail := rfl
@[simp] theorem State.advance_roster (n : Nat) : (s.advance n).roster = s.roster := rfl
@[simp] theorem State.advance_power (n : Nat) : (s.advance n).power = s.power := rfl
@[simp] theorem State.advance_loads (n : Nat) : (s.advance n).loads = s.loads := rfl
@[simp] theorem State.advance_agree (n : Nat) : (s.advance n).agree = s.agree := rfl
@[simp] theorem State.advance_lanes (n : Nat) : (s.advance n).lanes = s.lanes := rfl
@[simp] theorem State.advance_sliceSource (n : Nat) : (s.advance n).sliceSource = s.sliceSource := rfl
@[simp] theorem State.advance_sliceHeadset (n : Nat) : (s.advance n).sliceHeadset = s.sliceHeadset := rfl
@[simp] theorem State.advance_motionHeadset (n : Nat) : (s.advance n).motionHeadset = s.motionHeadset := rfl
@[simp] theorem State.advance_motionSource (n : Nat) : (s.advance n).motionSource = s.motionSource := rfl
@[simp] theorem State.advance_audioSource (n : Nat) : (s.advance n).audioSource = s.audioSource := rfl
@[simp] theorem State.advance_audioHeadset (n : Nat) : (s.advance n).audioHeadset = s.audioHeadset := rfl
@[simp] theorem State.advance_remote (n : Nat) : (s.advance n).remote = s.remote := rfl
@[simp] theorem State.advance_host (n : Nat) : (s.advance n).host = s.host := rfl
@[simp] theorem State.advance_counters (n : Nat) : (s.advance n).counters = s.counters := rfl
@[simp] theorem State.advance_items (n : Nat) : (s.advance n).items = s.items := rfl
@[simp] theorem State.advance_freeCount (n : Nat) : (s.advance n).freeCount = s.freeCount := rfl
@[simp] theorem State.advance_pending (n : Nat) : (s.advance n).pending = s.pending := rfl

@[simp] theorem State.raise_powered (f : Flag) : (s.raise f).powered = s.powered := rfl
@[simp] theorem State.raise_straps (f : Flag) : (s.raise f).straps = s.straps := rfl
@[simp] theorem State.raise_clock (f : Flag) : (s.raise f).clock = s.clock := rfl
@[simp] theorem State.raise_rail (f : Flag) : (s.raise f).rail = s.rail := rfl
@[simp] theorem State.raise_roster (f : Flag) : (s.raise f).roster = s.roster := rfl
@[simp] theorem State.raise_power (f : Flag) : (s.raise f).power = s.power := rfl
@[simp] theorem State.raise_loads (f : Flag) : (s.raise f).loads = s.loads := rfl
@[simp] theorem State.raise_agree (f : Flag) : (s.raise f).agree = s.agree := rfl
@[simp] theorem State.raise_lanes (f : Flag) : (s.raise f).lanes = s.lanes := rfl
@[simp] theorem State.raise_sliceSource (f : Flag) : (s.raise f).sliceSource = s.sliceSource := rfl
@[simp] theorem State.raise_sliceHeadset (f : Flag) : (s.raise f).sliceHeadset = s.sliceHeadset := rfl
@[simp] theorem State.raise_motionHeadset (f : Flag) : (s.raise f).motionHeadset = s.motionHeadset := rfl
@[simp] theorem State.raise_motionSource (f : Flag) : (s.raise f).motionSource = s.motionSource := rfl
@[simp] theorem State.raise_audioSource (f : Flag) : (s.raise f).audioSource = s.audioSource := rfl
@[simp] theorem State.raise_audioHeadset (f : Flag) : (s.raise f).audioHeadset = s.audioHeadset := rfl
@[simp] theorem State.raise_remote (f : Flag) : (s.raise f).remote = s.remote := rfl
@[simp] theorem State.raise_counters (f : Flag) : (s.raise f).counters = s.counters := rfl
@[simp] theorem State.raise_items (f : Flag) : (s.raise f).items = s.items := rfl
@[simp] theorem State.raise_freeCount (f : Flag) : (s.raise f).freeCount = s.freeCount := rfl
@[simp] theorem State.raise_pending (f : Flag) : (s.raise f).pending = s.pending := rfl

@[simp] theorem State.count_powered (c : Counter) (n : Nat) : (s.count c n).powered = s.powered := rfl
@[simp] theorem State.count_straps (c : Counter) (n : Nat) : (s.count c n).straps = s.straps := rfl
@[simp] theorem State.count_clock (c : Counter) (n : Nat) : (s.count c n).clock = s.clock := rfl
@[simp] theorem State.count_rail (c : Counter) (n : Nat) : (s.count c n).rail = s.rail := rfl
@[simp] theorem State.count_roster (c : Counter) (n : Nat) : (s.count c n).roster = s.roster := rfl
@[simp] theorem State.count_power (c : Counter) (n : Nat) : (s.count c n).power = s.power := rfl
@[simp] theorem State.count_loads (c : Counter) (n : Nat) : (s.count c n).loads = s.loads := rfl
@[simp] theorem State.count_agree (c : Counter) (n : Nat) : (s.count c n).agree = s.agree := rfl
@[simp] theorem State.count_lanes (c : Counter) (n : Nat) : (s.count c n).lanes = s.lanes := rfl
@[simp] theorem State.count_sliceSource (c : Counter) (n : Nat) : (s.count c n).sliceSource = s.sliceSource := rfl
@[simp] theorem State.count_sliceHeadset (c : Counter) (n : Nat) : (s.count c n).sliceHeadset = s.sliceHeadset := rfl
@[simp] theorem State.count_motionHeadset (c : Counter) (n : Nat) : (s.count c n).motionHeadset = s.motionHeadset := rfl
@[simp] theorem State.count_motionSource (c : Counter) (n : Nat) : (s.count c n).motionSource = s.motionSource := rfl
@[simp] theorem State.count_audioSource (c : Counter) (n : Nat) : (s.count c n).audioSource = s.audioSource := rfl
@[simp] theorem State.count_audioHeadset (c : Counter) (n : Nat) : (s.count c n).audioHeadset = s.audioHeadset := rfl
@[simp] theorem State.count_remote (c : Counter) (n : Nat) : (s.count c n).remote = s.remote := rfl
@[simp] theorem State.count_host (c : Counter) (n : Nat) : (s.count c n).host = s.host := rfl
@[simp] theorem State.count_counters (c : Counter) (n : Nat) : (s.count c n).counters = s.counters.add c n := rfl
@[simp] theorem State.count_items (c : Counter) (n : Nat) : (s.count c n).items = s.items := rfl
@[simp] theorem State.count_freeCount (c : Counter) (n : Nat) : (s.count c n).freeCount = s.freeCount := rfl
@[simp] theorem State.count_pending (c : Counter) (n : Nat) : (s.count c n).pending = s.pending := rfl

@[simp] theorem State.withReply_powered (st : Status) (b : List Byte) : (s.withReply st b).powered = s.powered := rfl
@[simp] theorem State.withReply_straps (st : Status) (b : List Byte) : (s.withReply st b).straps = s.straps := rfl
@[simp] theorem State.withReply_clock (st : Status) (b : List Byte) : (s.withReply st b).clock = s.clock := rfl
@[simp] theorem State.withReply_rail (st : Status) (b : List Byte) : (s.withReply st b).rail = s.rail := rfl
@[simp] theorem State.withReply_roster (st : Status) (b : List Byte) : (s.withReply st b).roster = s.roster := rfl
@[simp] theorem State.withReply_power (st : Status) (b : List Byte) : (s.withReply st b).power = s.power := rfl
@[simp] theorem State.withReply_loads (st : Status) (b : List Byte) : (s.withReply st b).loads = s.loads := rfl
@[simp] theorem State.withReply_agree (st : Status) (b : List Byte) : (s.withReply st b).agree = s.agree := rfl
@[simp] theorem State.withReply_lanes (st : Status) (b : List Byte) : (s.withReply st b).lanes = s.lanes := rfl
@[simp] theorem State.withReply_sliceSource (st : Status) (b : List Byte) : (s.withReply st b).sliceSource = s.sliceSource := rfl
@[simp] theorem State.withReply_sliceHeadset (st : Status) (b : List Byte) : (s.withReply st b).sliceHeadset = s.sliceHeadset := rfl
@[simp] theorem State.withReply_motionHeadset (st : Status) (b : List Byte) : (s.withReply st b).motionHeadset = s.motionHeadset := rfl
@[simp] theorem State.withReply_motionSource (st : Status) (b : List Byte) : (s.withReply st b).motionSource = s.motionSource := rfl
@[simp] theorem State.withReply_audioSource (st : Status) (b : List Byte) : (s.withReply st b).audioSource = s.audioSource := rfl
@[simp] theorem State.withReply_audioHeadset (st : Status) (b : List Byte) : (s.withReply st b).audioHeadset = s.audioHeadset := rfl
@[simp] theorem State.withReply_remote (st : Status) (b : List Byte) : (s.withReply st b).remote = s.remote := rfl
@[simp] theorem State.withReply_counters (st : Status) (b : List Byte) : (s.withReply st b).counters = s.counters := rfl
@[simp] theorem State.withReply_items (st : Status) (b : List Byte) : (s.withReply st b).items = s.items := rfl
@[simp] theorem State.withReply_freeCount (st : Status) (b : List Byte) : (s.withReply st b).freeCount = s.freeCount := rfl
@[simp] theorem State.withReply_pending (st : Status) (b : List Byte) : (s.withReply st b).pending = s.pending := rfl

@[simp] theorem State.syncHead_powered : (s.syncHead).powered = s.powered := rfl
@[simp] theorem State.syncHead_straps : (s.syncHead).straps = s.straps := rfl
@[simp] theorem State.syncHead_clock : (s.syncHead).clock = s.clock := rfl
@[simp] theorem State.syncHead_roster : (s.syncHead).roster = s.roster := rfl
@[simp] theorem State.syncHead_power : (s.syncHead).power = s.power := rfl
@[simp] theorem State.syncHead_loads : (s.syncHead).loads = s.loads := rfl
@[simp] theorem State.syncHead_agree : (s.syncHead).agree = s.agree := rfl
@[simp] theorem State.syncHead_lanes : (s.syncHead).lanes = s.lanes := rfl
@[simp] theorem State.syncHead_sliceSource : (s.syncHead).sliceSource = s.sliceSource := rfl
@[simp] theorem State.syncHead_sliceHeadset : (s.syncHead).sliceHeadset = s.sliceHeadset := rfl
@[simp] theorem State.syncHead_motionHeadset : (s.syncHead).motionHeadset = s.motionHeadset := rfl
@[simp] theorem State.syncHead_motionSource : (s.syncHead).motionSource = s.motionSource := rfl
@[simp] theorem State.syncHead_audioSource : (s.syncHead).audioSource = s.audioSource := rfl
@[simp] theorem State.syncHead_audioHeadset : (s.syncHead).audioHeadset = s.audioHeadset := rfl
@[simp] theorem State.syncHead_remote : (s.syncHead).remote = s.remote := rfl
@[simp] theorem State.syncHead_host : (s.syncHead).host = s.host := rfl
@[simp] theorem State.syncHead_counters : (s.syncHead).counters = s.counters := rfl
@[simp] theorem State.syncHead_items : (s.syncHead).items = s.items := rfl
@[simp] theorem State.syncHead_freeCount : (s.syncHead).freeCount = s.freeCount := rfl
@[simp] theorem State.syncHead_pending : (s.syncHead).pending = s.pending := rfl

@[simp] theorem State.stopSending_powered : (s.stopSending).powered = s.powered := rfl
@[simp] theorem State.stopSending_straps : (s.stopSending).straps = s.straps := rfl
@[simp] theorem State.stopSending_clock : (s.stopSending).clock = s.clock := rfl
@[simp] theorem State.stopSending_roster : (s.stopSending).roster = s.roster := rfl
@[simp] theorem State.stopSending_power : (s.stopSending).power = s.power := rfl
@[simp] theorem State.stopSending_loads : (s.stopSending).loads = s.loads := rfl
@[simp] theorem State.stopSending_agree : (s.stopSending).agree = s.agree := rfl
@[simp] theorem State.stopSending_lanes : (s.stopSending).lanes = s.lanes := rfl
@[simp] theorem State.stopSending_sliceSource : (s.stopSending).sliceSource = s.sliceSource := rfl
@[simp] theorem State.stopSending_sliceHeadset : (s.stopSending).sliceHeadset = s.sliceHeadset := rfl
@[simp] theorem State.stopSending_motionHeadset : (s.stopSending).motionHeadset = s.motionHeadset := rfl
@[simp] theorem State.stopSending_motionSource : (s.stopSending).motionSource = s.motionSource := rfl
@[simp] theorem State.stopSending_audioSource : (s.stopSending).audioSource = s.audioSource := rfl
@[simp] theorem State.stopSending_audioHeadset : (s.stopSending).audioHeadset = s.audioHeadset := rfl
@[simp] theorem State.stopSending_remote : (s.stopSending).remote = s.remote := rfl
@[simp] theorem State.stopSending_host : (s.stopSending).host = s.host := rfl
@[simp] theorem State.stopSending_counters : (s.stopSending).counters = s.counters := rfl
@[simp] theorem State.stopSending_items : (s.stopSending).items = s.items := rfl
@[simp] theorem State.stopSending_freeCount : (s.stopSending).freeCount = s.freeCount := rfl
@[simp] theorem State.stopSending_pending : (s.stopSending).pending = s.pending := rfl

@[simp] theorem State.mapSelf_powered (f : Entry → Entry) : (s.mapSelf f).powered = s.powered := rfl
@[simp] theorem State.mapSelf_straps (f : Entry → Entry) : (s.mapSelf f).straps = s.straps := rfl
@[simp] theorem State.mapSelf_clock (f : Entry → Entry) : (s.mapSelf f).clock = s.clock := rfl
@[simp] theorem State.mapSelf_rail (f : Entry → Entry) : (s.mapSelf f).rail = s.rail := rfl
@[simp] theorem State.mapSelf_power (f : Entry → Entry) : (s.mapSelf f).power = s.power := rfl
@[simp] theorem State.mapSelf_loads (f : Entry → Entry) : (s.mapSelf f).loads = s.loads := rfl
@[simp] theorem State.mapSelf_agree (f : Entry → Entry) : (s.mapSelf f).agree = s.agree := rfl
@[simp] theorem State.mapSelf_lanes (f : Entry → Entry) : (s.mapSelf f).lanes = s.lanes := rfl
@[simp] theorem State.mapSelf_sliceSource (f : Entry → Entry) : (s.mapSelf f).sliceSource = s.sliceSource := rfl
@[simp] theorem State.mapSelf_sliceHeadset (f : Entry → Entry) : (s.mapSelf f).sliceHeadset = s.sliceHeadset := rfl
@[simp] theorem State.mapSelf_motionHeadset (f : Entry → Entry) : (s.mapSelf f).motionHeadset = s.motionHeadset := rfl
@[simp] theorem State.mapSelf_motionSource (f : Entry → Entry) : (s.mapSelf f).motionSource = s.motionSource := rfl
@[simp] theorem State.mapSelf_audioSource (f : Entry → Entry) : (s.mapSelf f).audioSource = s.audioSource := rfl
@[simp] theorem State.mapSelf_audioHeadset (f : Entry → Entry) : (s.mapSelf f).audioHeadset = s.audioHeadset := rfl
@[simp] theorem State.mapSelf_remote (f : Entry → Entry) : (s.mapSelf f).remote = s.remote := rfl
@[simp] theorem State.mapSelf_host (f : Entry → Entry) : (s.mapSelf f).host = s.host := rfl
@[simp] theorem State.mapSelf_counters (f : Entry → Entry) : (s.mapSelf f).counters = s.counters := rfl
@[simp] theorem State.mapSelf_items (f : Entry → Entry) : (s.mapSelf f).items = s.items := rfl
@[simp] theorem State.mapSelf_freeCount (f : Entry → Entry) : (s.mapSelf f).freeCount = s.freeCount := rfl
@[simp] theorem State.mapSelf_pending (f : Entry → Entry) : (s.mapSelf f).pending = s.pending := rfl

@[simp] theorem State.setRound_powered (r : Half) : (s.setRound r).powered = s.powered := rfl
@[simp] theorem State.setRound_straps (r : Half) : (s.setRound r).straps = s.straps := rfl
@[simp] theorem State.setRound_clock (r : Half) : (s.setRound r).clock = s.clock := rfl
@[simp] theorem State.setRound_rail (r : Half) : (s.setRound r).rail = s.rail := rfl
@[simp] theorem State.setRound_roster_join (r : Half) : (s.setRound r).roster.join = s.roster.join := rfl
@[simp] theorem State.setRound_roster_joinFrom (r : Half) : (s.setRound r).roster.joinFrom = s.roster.joinFrom := rfl
@[simp] theorem State.setRound_roster_beaconFrom (r : Half) : (s.setRound r).roster.beaconFrom = s.roster.beaconFrom := rfl
@[simp] theorem State.setRound_roster_peers (r : Half) : (s.setRound r).roster.peers = s.roster.peers := rfl
theorem State.setRound_roster_self (r : Half) :
    (s.setRound r).roster.self = if s.agree.listened then s.roster.self else s.roster.self.withRound r := rfl
theorem State.setRound_agree (r : Half) : (s.setRound r).agree = { s.agree with round := r } := rfl
@[simp] theorem State.setRound_power (r : Half) : (s.setRound r).power = s.power := rfl
@[simp] theorem State.setRound_loads (r : Half) : (s.setRound r).loads = s.loads := rfl
@[simp] theorem State.setRound_lanes (r : Half) : (s.setRound r).lanes = s.lanes := rfl
@[simp] theorem State.setRound_sliceSource (r : Half) : (s.setRound r).sliceSource = s.sliceSource := rfl
@[simp] theorem State.setRound_sliceHeadset (r : Half) : (s.setRound r).sliceHeadset = s.sliceHeadset := rfl
@[simp] theorem State.setRound_motionHeadset (r : Half) : (s.setRound r).motionHeadset = s.motionHeadset := rfl
@[simp] theorem State.setRound_motionSource (r : Half) : (s.setRound r).motionSource = s.motionSource := rfl
@[simp] theorem State.setRound_audioSource (r : Half) : (s.setRound r).audioSource = s.audioSource := rfl
@[simp] theorem State.setRound_audioHeadset (r : Half) : (s.setRound r).audioHeadset = s.audioHeadset := rfl
@[simp] theorem State.setRound_remote (r : Half) : (s.setRound r).remote = s.remote := rfl
@[simp] theorem State.setRound_host (r : Half) : (s.setRound r).host = s.host := rfl
@[simp] theorem State.setRound_counters (r : Half) : (s.setRound r).counters = s.counters := rfl
@[simp] theorem State.setRound_items (r : Half) : (s.setRound r).items = s.items := rfl
@[simp] theorem State.setRound_freeCount (r : Half) : (s.setRound r).freeCount = s.freeCount := rfl
@[simp] theorem State.setRound_pending (r : Half) : (s.setRound r).pending = s.pending := rfl

@[simp] theorem State.setSupplier_powered (st : SupplierState) : (s.setSupplier st).powered = s.powered := rfl
@[simp] theorem State.setSupplier_straps (st : SupplierState) : (s.setSupplier st).straps = s.straps := rfl
@[simp] theorem State.setSupplier_clock (st : SupplierState) : (s.setSupplier st).clock = s.clock := rfl
@[simp] theorem State.setSupplier_rail (st : SupplierState) : (s.setSupplier st).rail = s.rail := rfl
@[simp] theorem State.setSupplier_roster (st : SupplierState) : (s.setSupplier st).roster = s.roster := rfl
@[simp] theorem State.setSupplier_loads (st : SupplierState) : (s.setSupplier st).loads = s.loads := rfl
@[simp] theorem State.setSupplier_agree (st : SupplierState) : (s.setSupplier st).agree = s.agree := rfl
@[simp] theorem State.setSupplier_lanes (st : SupplierState) : (s.setSupplier st).lanes = s.lanes := rfl
@[simp] theorem State.setSupplier_sliceSource (st : SupplierState) : (s.setSupplier st).sliceSource = s.sliceSource := rfl
@[simp] theorem State.setSupplier_sliceHeadset (st : SupplierState) : (s.setSupplier st).sliceHeadset = s.sliceHeadset := rfl
@[simp] theorem State.setSupplier_motionHeadset (st : SupplierState) : (s.setSupplier st).motionHeadset = s.motionHeadset := rfl
@[simp] theorem State.setSupplier_motionSource (st : SupplierState) : (s.setSupplier st).motionSource = s.motionSource := rfl
@[simp] theorem State.setSupplier_audioSource (st : SupplierState) : (s.setSupplier st).audioSource = s.audioSource := rfl
@[simp] theorem State.setSupplier_audioHeadset (st : SupplierState) : (s.setSupplier st).audioHeadset = s.audioHeadset := rfl
@[simp] theorem State.setSupplier_remote (st : SupplierState) : (s.setSupplier st).remote = s.remote := rfl
@[simp] theorem State.setSupplier_host (st : SupplierState) : (s.setSupplier st).host = s.host := rfl
@[simp] theorem State.setSupplier_counters (st : SupplierState) : (s.setSupplier st).counters = s.counters := rfl
@[simp] theorem State.setSupplier_items (st : SupplierState) : (s.setSupplier st).items = s.items := rfl
@[simp] theorem State.setSupplier_freeCount (st : SupplierState) : (s.setSupplier st).freeCount = s.freeCount := rfl
@[simp] theorem State.setSupplier_pending (st : SupplierState) : (s.setSupplier st).pending = s.pending := rfl

@[simp] theorem State.mapAudio_powered (f : AudioHeadset → AudioHeadset) : (s.mapAudio f).powered = s.powered := rfl
@[simp] theorem State.mapAudio_straps (f : AudioHeadset → AudioHeadset) : (s.mapAudio f).straps = s.straps := rfl
@[simp] theorem State.mapAudio_clock (f : AudioHeadset → AudioHeadset) : (s.mapAudio f).clock = s.clock := rfl
@[simp] theorem State.mapAudio_rail (f : AudioHeadset → AudioHeadset) : (s.mapAudio f).rail = s.rail := rfl
@[simp] theorem State.mapAudio_roster (f : AudioHeadset → AudioHeadset) : (s.mapAudio f).roster = s.roster := rfl
@[simp] theorem State.mapAudio_power (f : AudioHeadset → AudioHeadset) : (s.mapAudio f).power = s.power := rfl
@[simp] theorem State.mapAudio_loads (f : AudioHeadset → AudioHeadset) : (s.mapAudio f).loads = s.loads := rfl
@[simp] theorem State.mapAudio_agree (f : AudioHeadset → AudioHeadset) : (s.mapAudio f).agree = s.agree := rfl
@[simp] theorem State.mapAudio_lanes (f : AudioHeadset → AudioHeadset) : (s.mapAudio f).lanes = s.lanes := rfl
@[simp] theorem State.mapAudio_sliceSource (f : AudioHeadset → AudioHeadset) : (s.mapAudio f).sliceSource = s.sliceSource := rfl
@[simp] theorem State.mapAudio_sliceHeadset (f : AudioHeadset → AudioHeadset) : (s.mapAudio f).sliceHeadset = s.sliceHeadset := rfl
@[simp] theorem State.mapAudio_motionHeadset (f : AudioHeadset → AudioHeadset) : (s.mapAudio f).motionHeadset = s.motionHeadset := rfl
@[simp] theorem State.mapAudio_motionSource (f : AudioHeadset → AudioHeadset) : (s.mapAudio f).motionSource = s.motionSource := rfl
@[simp] theorem State.mapAudio_audioSource (f : AudioHeadset → AudioHeadset) : (s.mapAudio f).audioSource = s.audioSource := rfl
@[simp] theorem State.mapAudio_audioHeadset (f : AudioHeadset → AudioHeadset) : (s.mapAudio f).audioHeadset = f s.audioHeadset := rfl
@[simp] theorem State.mapAudio_remote (f : AudioHeadset → AudioHeadset) : (s.mapAudio f).remote = s.remote := rfl
@[simp] theorem State.mapAudio_host (f : AudioHeadset → AudioHeadset) : (s.mapAudio f).host = s.host := rfl
@[simp] theorem State.mapAudio_counters (f : AudioHeadset → AudioHeadset) : (s.mapAudio f).counters = s.counters := rfl
@[simp] theorem State.mapAudio_items (f : AudioHeadset → AudioHeadset) : (s.mapAudio f).items = s.items := rfl
@[simp] theorem State.mapAudio_freeCount (f : AudioHeadset → AudioHeadset) : (s.mapAudio f).freeCount = s.freeCount := rfl
@[simp] theorem State.mapAudio_pending (f : AudioHeadset → AudioHeadset) : (s.mapAudio f).pending = s.pending := rfl

@[simp] theorem State.sendFrame_powered (f : Half × Half) : (s.sendFrame f).powered = s.powered := rfl
@[simp] theorem State.sendFrame_straps (f : Half × Half) : (s.sendFrame f).straps = s.straps := rfl
@[simp] theorem State.sendFrame_clock (f : Half × Half) : (s.sendFrame f).clock = s.clock := rfl
@[simp] theorem State.sendFrame_rail (f : Half × Half) : (s.sendFrame f).rail = s.rail := rfl
@[simp] theorem State.sendFrame_roster (f : Half × Half) : (s.sendFrame f).roster = s.roster := rfl
@[simp] theorem State.sendFrame_power (f : Half × Half) : (s.sendFrame f).power = s.power := rfl
@[simp] theorem State.sendFrame_loads (f : Half × Half) : (s.sendFrame f).loads = s.loads := rfl
@[simp] theorem State.sendFrame_agree (f : Half × Half) : (s.sendFrame f).agree = s.agree := rfl
@[simp] theorem State.sendFrame_lanes (f : Half × Half) : (s.sendFrame f).lanes = s.lanes := rfl
@[simp] theorem State.sendFrame_sliceSource (f : Half × Half) : (s.sendFrame f).sliceSource = s.sliceSource := rfl
@[simp] theorem State.sendFrame_sliceHeadset (f : Half × Half) : (s.sendFrame f).sliceHeadset = s.sliceHeadset := rfl
@[simp] theorem State.sendFrame_motionHeadset (f : Half × Half) : (s.sendFrame f).motionHeadset = s.motionHeadset := rfl
@[simp] theorem State.sendFrame_motionSource (f : Half × Half) : (s.sendFrame f).motionSource = s.motionSource := rfl
@[simp] theorem State.sendFrame_audioSource (f : Half × Half) : (s.sendFrame f).audioSource = s.audioSource := rfl
@[simp] theorem State.sendFrame_remote (f : Half × Half) : (s.sendFrame f).remote = s.remote := rfl
@[simp] theorem State.sendFrame_host (f : Half × Half) : (s.sendFrame f).host = s.host := rfl
@[simp] theorem State.sendFrame_counters (f : Half × Half) : (s.sendFrame f).counters = s.counters := rfl
@[simp] theorem State.sendFrame_items (f : Half × Half) : (s.sendFrame f).items = s.items := rfl
@[simp] theorem State.sendFrame_freeCount (f : Half × Half) : (s.sendFrame f).freeCount = s.freeCount := rfl
@[simp] theorem State.sendFrame_pending (f : Half × Half) : (s.sendFrame f).pending = s.pending := rfl

@[simp] theorem State.setSlot_powered (k : Nat) (x : Slot) : (s.setSlot k x).powered = s.powered := rfl
@[simp] theorem State.setSlot_straps (k : Nat) (x : Slot) : (s.setSlot k x).straps = s.straps := rfl
@[simp] theorem State.setSlot_clock (k : Nat) (x : Slot) : (s.setSlot k x).clock = s.clock := rfl
@[simp] theorem State.setSlot_rail (k : Nat) (x : Slot) : (s.setSlot k x).rail = s.rail := rfl
@[simp] theorem State.setSlot_roster (k : Nat) (x : Slot) : (s.setSlot k x).roster = s.roster := rfl
@[simp] theorem State.setSlot_power (k : Nat) (x : Slot) : (s.setSlot k x).power = s.power := rfl
@[simp] theorem State.setSlot_loads (k : Nat) (x : Slot) : (s.setSlot k x).loads = s.loads := rfl
@[simp] theorem State.setSlot_agree (k : Nat) (x : Slot) : (s.setSlot k x).agree = s.agree := rfl
@[simp] theorem State.setSlot_lanes (k : Nat) (x : Slot) : (s.setSlot k x).lanes = s.lanes := rfl
@[simp] theorem State.setSlot_sliceSource (k : Nat) (x : Slot) : (s.setSlot k x).sliceSource = s.sliceSource := rfl
@[simp] theorem State.setSlot_sliceHeadset (k : Nat) (x : Slot) : (s.setSlot k x).sliceHeadset = s.sliceHeadset.setSlot k x := rfl
@[simp] theorem State.setSlot_motionHeadset (k : Nat) (x : Slot) : (s.setSlot k x).motionHeadset = s.motionHeadset := rfl
@[simp] theorem State.setSlot_motionSource (k : Nat) (x : Slot) : (s.setSlot k x).motionSource = s.motionSource := rfl
@[simp] theorem State.setSlot_audioSource (k : Nat) (x : Slot) : (s.setSlot k x).audioSource = s.audioSource := rfl
@[simp] theorem State.setSlot_audioHeadset (k : Nat) (x : Slot) : (s.setSlot k x).audioHeadset = s.audioHeadset := rfl
@[simp] theorem State.setSlot_remote (k : Nat) (x : Slot) : (s.setSlot k x).remote = s.remote := rfl
@[simp] theorem State.setSlot_host (k : Nat) (x : Slot) : (s.setSlot k x).host = s.host := rfl
@[simp] theorem State.setSlot_counters (k : Nat) (x : Slot) : (s.setSlot k x).counters = s.counters := rfl
@[simp] theorem State.setSlot_items (k : Nat) (x : Slot) : (s.setSlot k x).items = s.items := rfl
@[simp] theorem State.setSlot_freeCount (k : Nat) (x : Slot) : (s.setSlot k x).freeCount = s.freeCount := rfl
@[simp] theorem State.setSlot_pending (k : Nat) (x : Slot) : (s.setSlot k x).pending = s.pending := rfl

@[simp] theorem State.show_powered (k : Nat) (b : Option (List Byte)) : (s.show k b).powered = s.powered := rfl
@[simp] theorem State.show_straps (k : Nat) (b : Option (List Byte)) : (s.show k b).straps = s.straps := rfl
@[simp] theorem State.show_clock (k : Nat) (b : Option (List Byte)) : (s.show k b).clock = s.clock := rfl
@[simp] theorem State.show_rail (k : Nat) (b : Option (List Byte)) : (s.show k b).rail = s.rail := rfl
@[simp] theorem State.show_roster (k : Nat) (b : Option (List Byte)) : (s.show k b).roster = s.roster := rfl
@[simp] theorem State.show_power (k : Nat) (b : Option (List Byte)) : (s.show k b).power = s.power := rfl
@[simp] theorem State.show_loads (k : Nat) (b : Option (List Byte)) : (s.show k b).loads = s.loads := rfl
@[simp] theorem State.show_agree (k : Nat) (b : Option (List Byte)) : (s.show k b).agree = s.agree := rfl
@[simp] theorem State.show_lanes (k : Nat) (b : Option (List Byte)) : (s.show k b).lanes = s.lanes := rfl
@[simp] theorem State.show_sliceSource (k : Nat) (b : Option (List Byte)) : (s.show k b).sliceSource = s.sliceSource := rfl
@[simp] theorem State.show_motionHeadset (k : Nat) (b : Option (List Byte)) : (s.show k b).motionHeadset = s.motionHeadset := rfl
@[simp] theorem State.show_motionSource (k : Nat) (b : Option (List Byte)) : (s.show k b).motionSource = s.motionSource := rfl
@[simp] theorem State.show_audioSource (k : Nat) (b : Option (List Byte)) : (s.show k b).audioSource = s.audioSource := rfl
@[simp] theorem State.show_audioHeadset (k : Nat) (b : Option (List Byte)) : (s.show k b).audioHeadset = s.audioHeadset := rfl
@[simp] theorem State.show_remote (k : Nat) (b : Option (List Byte)) : (s.show k b).remote = s.remote := rfl
@[simp] theorem State.show_host (k : Nat) (b : Option (List Byte)) : (s.show k b).host = s.host := rfl
@[simp] theorem State.show_counters (k : Nat) (b : Option (List Byte)) : (s.show k b).counters = s.counters := rfl
@[simp] theorem State.show_items (k : Nat) (b : Option (List Byte)) : (s.show k b).items = s.items := rfl
@[simp] theorem State.show_freeCount (k : Nat) (b : Option (List Byte)) : (s.show k b).freeCount = s.freeCount := rfl
@[simp] theorem State.show_pending (k : Nat) (b : Option (List Byte)) : (s.show k b).pending = s.pending := rfl

@[simp] theorem State.markNotFresh_powered : (s.markNotFresh).powered = s.powered := rfl
@[simp] theorem State.markNotFresh_straps : (s.markNotFresh).straps = s.straps := rfl
@[simp] theorem State.markNotFresh_clock : (s.markNotFresh).clock = s.clock := rfl
@[simp] theorem State.markNotFresh_rail : (s.markNotFresh).rail = s.rail := rfl
@[simp] theorem State.markNotFresh_roster : (s.markNotFresh).roster = s.roster := rfl
@[simp] theorem State.markNotFresh_power : (s.markNotFresh).power = s.power := rfl
@[simp] theorem State.markNotFresh_loads : (s.markNotFresh).loads = s.loads := rfl
@[simp] theorem State.markNotFresh_agree : (s.markNotFresh).agree = s.agree := rfl
@[simp] theorem State.markNotFresh_lanes : (s.markNotFresh).lanes = s.lanes := rfl
@[simp] theorem State.markNotFresh_sliceSource : (s.markNotFresh).sliceSource = s.sliceSource := rfl
@[simp] theorem State.markNotFresh_motionHeadset : (s.markNotFresh).motionHeadset = s.motionHeadset := rfl
@[simp] theorem State.markNotFresh_motionSource : (s.markNotFresh).motionSource = s.motionSource := rfl
@[simp] theorem State.markNotFresh_audioSource : (s.markNotFresh).audioSource = s.audioSource := rfl
@[simp] theorem State.markNotFresh_audioHeadset : (s.markNotFresh).audioHeadset = s.audioHeadset := rfl
@[simp] theorem State.markNotFresh_remote : (s.markNotFresh).remote = s.remote := rfl
@[simp] theorem State.markNotFresh_host : (s.markNotFresh).host = s.host := rfl
@[simp] theorem State.markNotFresh_counters : (s.markNotFresh).counters = s.counters := rfl
@[simp] theorem State.markNotFresh_items : (s.markNotFresh).items = s.items := rfl
@[simp] theorem State.markNotFresh_freeCount : (s.markNotFresh).freeCount = s.freeCount := rfl
@[simp] theorem State.markNotFresh_pending : (s.markNotFresh).pending = s.pending := rfl

@[simp] theorem State.answerSlice_powered (c : Byte) : (s.answerSlice c).powered = s.powered := rfl
@[simp] theorem State.answerSlice_straps (c : Byte) : (s.answerSlice c).straps = s.straps := rfl
@[simp] theorem State.answerSlice_clock (c : Byte) : (s.answerSlice c).clock = s.clock := rfl
@[simp] theorem State.answerSlice_rail (c : Byte) : (s.answerSlice c).rail = s.rail := rfl
@[simp] theorem State.answerSlice_roster (c : Byte) : (s.answerSlice c).roster = s.roster := rfl
@[simp] theorem State.answerSlice_power (c : Byte) : (s.answerSlice c).power = s.power := rfl
@[simp] theorem State.answerSlice_loads (c : Byte) : (s.answerSlice c).loads = s.loads := rfl
@[simp] theorem State.answerSlice_agree (c : Byte) : (s.answerSlice c).agree = s.agree := rfl
@[simp] theorem State.answerSlice_lanes (c : Byte) : (s.answerSlice c).lanes = s.lanes := rfl
@[simp] theorem State.answerSlice_sliceHeadset (c : Byte) : (s.answerSlice c).sliceHeadset = s.sliceHeadset := rfl
@[simp] theorem State.answerSlice_motionHeadset (c : Byte) : (s.answerSlice c).motionHeadset = s.motionHeadset := rfl
@[simp] theorem State.answerSlice_motionSource (c : Byte) : (s.answerSlice c).motionSource = s.motionSource := rfl
@[simp] theorem State.answerSlice_audioSource (c : Byte) : (s.answerSlice c).audioSource = s.audioSource := rfl
@[simp] theorem State.answerSlice_audioHeadset (c : Byte) : (s.answerSlice c).audioHeadset = s.audioHeadset := rfl
@[simp] theorem State.answerSlice_remote (c : Byte) : (s.answerSlice c).remote = s.remote := rfl
@[simp] theorem State.answerSlice_host (c : Byte) : (s.answerSlice c).host = s.host := rfl
@[simp] theorem State.answerSlice_counters (c : Byte) : (s.answerSlice c).counters = s.counters := rfl
@[simp] theorem State.answerSlice_items (c : Byte) : (s.answerSlice c).items = s.items := rfl
@[simp] theorem State.answerSlice_freeCount (c : Byte) : (s.answerSlice c).freeCount = s.freeCount := rfl
@[simp] theorem State.answerSlice_pending (c : Byte) : (s.answerSlice c).pending = s.pending := rfl

@[simp] theorem State.setSubmission_powered (o : Option Submission) : (s.setSubmission o).powered = s.powered := rfl
@[simp] theorem State.setSubmission_straps (o : Option Submission) : (s.setSubmission o).straps = s.straps := rfl
@[simp] theorem State.setSubmission_clock (o : Option Submission) : (s.setSubmission o).clock = s.clock := rfl
@[simp] theorem State.setSubmission_rail (o : Option Submission) : (s.setSubmission o).rail = s.rail := rfl
@[simp] theorem State.setSubmission_roster (o : Option Submission) : (s.setSubmission o).roster = s.roster := rfl
@[simp] theorem State.setSubmission_power (o : Option Submission) : (s.setSubmission o).power = s.power := rfl
@[simp] theorem State.setSubmission_loads (o : Option Submission) : (s.setSubmission o).loads = s.loads := rfl
@[simp] theorem State.setSubmission_agree (o : Option Submission) : (s.setSubmission o).agree = s.agree := rfl
@[simp] theorem State.setSubmission_lanes (o : Option Submission) : (s.setSubmission o).lanes = s.lanes := rfl
@[simp] theorem State.setSubmission_sliceHeadset (o : Option Submission) : (s.setSubmission o).sliceHeadset = s.sliceHeadset := rfl
@[simp] theorem State.setSubmission_motionHeadset (o : Option Submission) : (s.setSubmission o).motionHeadset = s.motionHeadset := rfl
@[simp] theorem State.setSubmission_motionSource (o : Option Submission) : (s.setSubmission o).motionSource = s.motionSource := rfl
@[simp] theorem State.setSubmission_audioSource (o : Option Submission) : (s.setSubmission o).audioSource = s.audioSource := rfl
@[simp] theorem State.setSubmission_audioHeadset (o : Option Submission) : (s.setSubmission o).audioHeadset = s.audioHeadset := rfl
@[simp] theorem State.setSubmission_remote (o : Option Submission) : (s.setSubmission o).remote = s.remote := rfl
@[simp] theorem State.setSubmission_host (o : Option Submission) : (s.setSubmission o).host = s.host := rfl
@[simp] theorem State.setSubmission_counters (o : Option Submission) : (s.setSubmission o).counters = s.counters := rfl
@[simp] theorem State.setSubmission_items (o : Option Submission) : (s.setSubmission o).items = s.items := rfl
@[simp] theorem State.setSubmission_freeCount (o : Option Submission) : (s.setSubmission o).freeCount = s.freeCount := rfl
@[simp] theorem State.setSubmission_pending (o : Option Submission) : (s.setSubmission o).pending = s.pending := rfl

@[simp] theorem State.setItem_powered (n v : Nat) : (s.setItem n v).powered = s.powered := rfl
@[simp] theorem State.setItem_straps (n v : Nat) : (s.setItem n v).straps = s.straps := rfl
@[simp] theorem State.setItem_clock (n v : Nat) : (s.setItem n v).clock = s.clock := rfl
@[simp] theorem State.setItem_rail (n v : Nat) : (s.setItem n v).rail = s.rail := rfl
@[simp] theorem State.setItem_roster (n v : Nat) : (s.setItem n v).roster = s.roster := rfl
@[simp] theorem State.setItem_power (n v : Nat) : (s.setItem n v).power = s.power := rfl
@[simp] theorem State.setItem_loads (n v : Nat) : (s.setItem n v).loads = s.loads := rfl
@[simp] theorem State.setItem_agree (n v : Nat) : (s.setItem n v).agree = s.agree := rfl
@[simp] theorem State.setItem_lanes (n v : Nat) : (s.setItem n v).lanes = s.lanes := rfl
@[simp] theorem State.setItem_sliceSource (n v : Nat) : (s.setItem n v).sliceSource = s.sliceSource := rfl
@[simp] theorem State.setItem_sliceHeadset (n v : Nat) : (s.setItem n v).sliceHeadset = s.sliceHeadset := rfl
@[simp] theorem State.setItem_motionHeadset (n v : Nat) : (s.setItem n v).motionHeadset = s.motionHeadset := rfl
@[simp] theorem State.setItem_motionSource (n v : Nat) : (s.setItem n v).motionSource = s.motionSource := rfl
@[simp] theorem State.setItem_audioSource (n v : Nat) : (s.setItem n v).audioSource = s.audioSource := rfl
@[simp] theorem State.setItem_audioHeadset (n v : Nat) : (s.setItem n v).audioHeadset = s.audioHeadset := rfl
@[simp] theorem State.setItem_remote (n v : Nat) : (s.setItem n v).remote = s.remote := rfl
@[simp] theorem State.setItem_host (n v : Nat) : (s.setItem n v).host = s.host := rfl
@[simp] theorem State.setItem_counters (n v : Nat) : (s.setItem n v).counters = s.counters := rfl
@[simp] theorem State.setItem_items (n v : Nat) : (s.setItem n v).items = s.items.set n (BitVec.ofNat 16 v) := rfl
@[simp] theorem State.setItem_freeCount (n v : Nat) : (s.setItem n v).freeCount = s.freeCount := rfl
@[simp] theorem State.setItem_pending (n v : Nat) : (s.setItem n v).pending = s.pending := rfl

@[simp] theorem State.offerPacket_powered (lane : Lane) (p : Packet) : (s.offerPacket lane p).powered = s.powered := rfl
@[simp] theorem State.offerPacket_straps (lane : Lane) (p : Packet) : (s.offerPacket lane p).straps = s.straps := rfl
@[simp] theorem State.offerPacket_clock (lane : Lane) (p : Packet) : (s.offerPacket lane p).clock = s.clock := rfl
@[simp] theorem State.offerPacket_rail (lane : Lane) (p : Packet) : (s.offerPacket lane p).rail = s.rail := rfl
@[simp] theorem State.offerPacket_roster (lane : Lane) (p : Packet) : (s.offerPacket lane p).roster = s.roster := rfl
@[simp] theorem State.offerPacket_power (lane : Lane) (p : Packet) : (s.offerPacket lane p).power = s.power := rfl
@[simp] theorem State.offerPacket_loads (lane : Lane) (p : Packet) : (s.offerPacket lane p).loads = s.loads := rfl
@[simp] theorem State.offerPacket_agree (lane : Lane) (p : Packet) : (s.offerPacket lane p).agree = s.agree := rfl
@[simp] theorem State.offerPacket_lanes (lane : Lane) (p : Packet) : (s.offerPacket lane p).lanes = s.lanes.setTx lane ((s.lanes.tx lane).offer p s.clock.now) := rfl
@[simp] theorem State.offerPacket_sliceSource (lane : Lane) (p : Packet) : (s.offerPacket lane p).sliceSource = s.sliceSource := rfl
@[simp] theorem State.offerPacket_sliceHeadset (lane : Lane) (p : Packet) : (s.offerPacket lane p).sliceHeadset = s.sliceHeadset := rfl
@[simp] theorem State.offerPacket_motionHeadset (lane : Lane) (p : Packet) : (s.offerPacket lane p).motionHeadset = s.motionHeadset := rfl
@[simp] theorem State.offerPacket_motionSource (lane : Lane) (p : Packet) : (s.offerPacket lane p).motionSource = s.motionSource := rfl
@[simp] theorem State.offerPacket_audioSource (lane : Lane) (p : Packet) : (s.offerPacket lane p).audioSource = s.audioSource := rfl
@[simp] theorem State.offerPacket_audioHeadset (lane : Lane) (p : Packet) : (s.offerPacket lane p).audioHeadset = s.audioHeadset := rfl
@[simp] theorem State.offerPacket_remote (lane : Lane) (p : Packet) : (s.offerPacket lane p).remote = s.remote := rfl
@[simp] theorem State.offerPacket_host (lane : Lane) (p : Packet) : (s.offerPacket lane p).host = s.host := rfl
@[simp] theorem State.offerPacket_counters (lane : Lane) (p : Packet) : (s.offerPacket lane p).counters = s.counters := rfl
@[simp] theorem State.offerPacket_items (lane : Lane) (p : Packet) : (s.offerPacket lane p).items = s.items := rfl
@[simp] theorem State.offerPacket_freeCount (lane : Lane) (p : Packet) : (s.offerPacket lane p).freeCount = s.freeCount := rfl
@[simp] theorem State.offerPacket_pending (lane : Lane) (p : Packet) : (s.offerPacket lane p).pending = s.pending := rfl

@[simp] theorem State.orderLanes_powered : (s.orderLanes).powered = s.powered := rfl
@[simp] theorem State.orderLanes_straps : (s.orderLanes).straps = s.straps := rfl
@[simp] theorem State.orderLanes_clock : (s.orderLanes).clock = s.clock := rfl
@[simp] theorem State.orderLanes_rail : (s.orderLanes).rail = s.rail := rfl
@[simp] theorem State.orderLanes_roster : (s.orderLanes).roster = s.roster := rfl
@[simp] theorem State.orderLanes_power : (s.orderLanes).power = s.power := rfl
@[simp] theorem State.orderLanes_loads : (s.orderLanes).loads = s.loads := rfl
@[simp] theorem State.orderLanes_agree : (s.orderLanes).agree = s.agree := rfl
@[simp] theorem State.orderLanes_sliceSource : (s.orderLanes).sliceSource = s.sliceSource := rfl
@[simp] theorem State.orderLanes_sliceHeadset : (s.orderLanes).sliceHeadset = s.sliceHeadset := rfl
@[simp] theorem State.orderLanes_motionHeadset : (s.orderLanes).motionHeadset = s.motionHeadset := rfl
@[simp] theorem State.orderLanes_motionSource : (s.orderLanes).motionSource = s.motionSource := rfl
@[simp] theorem State.orderLanes_audioSource : (s.orderLanes).audioSource = s.audioSource := rfl
@[simp] theorem State.orderLanes_audioHeadset : (s.orderLanes).audioHeadset = s.audioHeadset := rfl
@[simp] theorem State.orderLanes_remote : (s.orderLanes).remote = s.remote := rfl
@[simp] theorem State.orderLanes_host : (s.orderLanes).host = s.host := rfl
@[simp] theorem State.orderLanes_counters : (s.orderLanes).counters = s.counters := rfl
@[simp] theorem State.orderLanes_items : (s.orderLanes).items = s.items := rfl
@[simp] theorem State.orderLanes_freeCount : (s.orderLanes).freeCount = s.freeCount := rfl
@[simp] theorem State.orderLanes_pending : (s.orderLanes).pending = s.pending := rfl

@[simp] theorem State.setReceiver_powered (lane : Lane) (r : RxState) : (s.setReceiver lane r).powered = s.powered := rfl
@[simp] theorem State.setReceiver_straps (lane : Lane) (r : RxState) : (s.setReceiver lane r).straps = s.straps := rfl
@[simp] theorem State.setReceiver_clock (lane : Lane) (r : RxState) : (s.setReceiver lane r).clock = s.clock := rfl
@[simp] theorem State.setReceiver_rail (lane : Lane) (r : RxState) : (s.setReceiver lane r).rail = s.rail := rfl
@[simp] theorem State.setReceiver_roster (lane : Lane) (r : RxState) : (s.setReceiver lane r).roster = s.roster := rfl
@[simp] theorem State.setReceiver_power (lane : Lane) (r : RxState) : (s.setReceiver lane r).power = s.power := rfl
@[simp] theorem State.setReceiver_loads (lane : Lane) (r : RxState) : (s.setReceiver lane r).loads = s.loads := rfl
@[simp] theorem State.setReceiver_agree (lane : Lane) (r : RxState) : (s.setReceiver lane r).agree = s.agree := rfl
@[simp] theorem State.setReceiver_lanes (lane : Lane) (r : RxState) : (s.setReceiver lane r).lanes = s.lanes.setRx lane r := rfl
@[simp] theorem State.setReceiver_sliceSource (lane : Lane) (r : RxState) : (s.setReceiver lane r).sliceSource = s.sliceSource := rfl
@[simp] theorem State.setReceiver_sliceHeadset (lane : Lane) (r : RxState) : (s.setReceiver lane r).sliceHeadset = s.sliceHeadset := rfl
@[simp] theorem State.setReceiver_motionHeadset (lane : Lane) (r : RxState) : (s.setReceiver lane r).motionHeadset = s.motionHeadset := rfl
@[simp] theorem State.setReceiver_motionSource (lane : Lane) (r : RxState) : (s.setReceiver lane r).motionSource = s.motionSource := rfl
@[simp] theorem State.setReceiver_audioSource (lane : Lane) (r : RxState) : (s.setReceiver lane r).audioSource = s.audioSource := rfl
@[simp] theorem State.setReceiver_audioHeadset (lane : Lane) (r : RxState) : (s.setReceiver lane r).audioHeadset = s.audioHeadset := rfl
@[simp] theorem State.setReceiver_remote (lane : Lane) (r : RxState) : (s.setReceiver lane r).remote = s.remote := rfl
@[simp] theorem State.setReceiver_host (lane : Lane) (r : RxState) : (s.setReceiver lane r).host = s.host := rfl
@[simp] theorem State.setReceiver_counters (lane : Lane) (r : RxState) : (s.setReceiver lane r).counters = s.counters := rfl
@[simp] theorem State.setReceiver_items (lane : Lane) (r : RxState) : (s.setReceiver lane r).items = s.items := rfl
@[simp] theorem State.setReceiver_freeCount (lane : Lane) (r : RxState) : (s.setReceiver lane r).freeCount = s.freeCount := rfl
@[simp] theorem State.setReceiver_pending (lane : Lane) (r : RxState) : (s.setReceiver lane r).pending = s.pending := rfl

@[simp] theorem State.setRx_powered (r : Receiver) : (s.setRx r).powered = s.powered := rfl
@[simp] theorem State.setRx_straps (r : Receiver) : (s.setRx r).straps = s.straps := rfl
@[simp] theorem State.setRx_clock (r : Receiver) : (s.setRx r).clock = s.clock := rfl
@[simp] theorem State.setRx_roster (r : Receiver) : (s.setRx r).roster = s.roster := rfl
@[simp] theorem State.setRx_power (r : Receiver) : (s.setRx r).power = s.power := rfl
@[simp] theorem State.setRx_loads (r : Receiver) : (s.setRx r).loads = s.loads := rfl
@[simp] theorem State.setRx_agree (r : Receiver) : (s.setRx r).agree = s.agree := rfl
@[simp] theorem State.setRx_lanes (r : Receiver) : (s.setRx r).lanes = s.lanes := rfl
@[simp] theorem State.setRx_sliceSource (r : Receiver) : (s.setRx r).sliceSource = s.sliceSource := rfl
@[simp] theorem State.setRx_sliceHeadset (r : Receiver) : (s.setRx r).sliceHeadset = s.sliceHeadset := rfl
@[simp] theorem State.setRx_motionHeadset (r : Receiver) : (s.setRx r).motionHeadset = s.motionHeadset := rfl
@[simp] theorem State.setRx_motionSource (r : Receiver) : (s.setRx r).motionSource = s.motionSource := rfl
@[simp] theorem State.setRx_audioSource (r : Receiver) : (s.setRx r).audioSource = s.audioSource := rfl
@[simp] theorem State.setRx_audioHeadset (r : Receiver) : (s.setRx r).audioHeadset = s.audioHeadset := rfl
@[simp] theorem State.setRx_remote (r : Receiver) : (s.setRx r).remote = s.remote := rfl
@[simp] theorem State.setRx_host (r : Receiver) : (s.setRx r).host = s.host := rfl
@[simp] theorem State.setRx_counters (r : Receiver) : (s.setRx r).counters = s.counters := rfl
@[simp] theorem State.setRx_items (r : Receiver) : (s.setRx r).items = s.items := rfl
@[simp] theorem State.setRx_freeCount (r : Receiver) : (s.setRx r).freeCount = s.freeCount := rfl
@[simp] theorem State.setRx_pending (r : Receiver) : (s.setRx r).pending = s.pending := rfl

@[simp] theorem State.setPeers_powered (l : List Entry) : (s.setPeers l).powered = s.powered := rfl
@[simp] theorem State.setPeers_straps (l : List Entry) : (s.setPeers l).straps = s.straps := rfl
@[simp] theorem State.setPeers_clock (l : List Entry) : (s.setPeers l).clock = s.clock := rfl
@[simp] theorem State.setPeers_rail (l : List Entry) : (s.setPeers l).rail = s.rail := rfl
@[simp] theorem State.setPeers_power (l : List Entry) : (s.setPeers l).power = s.power := rfl
@[simp] theorem State.setPeers_loads (l : List Entry) : (s.setPeers l).loads = s.loads := rfl
@[simp] theorem State.setPeers_agree (l : List Entry) : (s.setPeers l).agree = s.agree := rfl
@[simp] theorem State.setPeers_lanes (l : List Entry) : (s.setPeers l).lanes = s.lanes := rfl
@[simp] theorem State.setPeers_sliceSource (l : List Entry) : (s.setPeers l).sliceSource = s.sliceSource := rfl
@[simp] theorem State.setPeers_sliceHeadset (l : List Entry) : (s.setPeers l).sliceHeadset = s.sliceHeadset := rfl
@[simp] theorem State.setPeers_motionHeadset (l : List Entry) : (s.setPeers l).motionHeadset = s.motionHeadset := rfl
@[simp] theorem State.setPeers_motionSource (l : List Entry) : (s.setPeers l).motionSource = s.motionSource := rfl
@[simp] theorem State.setPeers_audioSource (l : List Entry) : (s.setPeers l).audioSource = s.audioSource := rfl
@[simp] theorem State.setPeers_audioHeadset (l : List Entry) : (s.setPeers l).audioHeadset = s.audioHeadset := rfl
@[simp] theorem State.setPeers_remote (l : List Entry) : (s.setPeers l).remote = s.remote := rfl
@[simp] theorem State.setPeers_host (l : List Entry) : (s.setPeers l).host = s.host := rfl
@[simp] theorem State.setPeers_counters (l : List Entry) : (s.setPeers l).counters = s.counters := rfl
@[simp] theorem State.setPeers_items (l : List Entry) : (s.setPeers l).items = s.items := rfl
@[simp] theorem State.setPeers_freeCount (l : List Entry) : (s.setPeers l).freeCount = s.freeCount := rfl
@[simp] theorem State.setPeers_pending (l : List Entry) : (s.setPeers l).pending = s.pending := rfl

@[simp] theorem State.startSensorWrite_powered : (s.startSensorWrite).powered = s.powered := rfl
@[simp] theorem State.startSensorWrite_straps : (s.startSensorWrite).straps = s.straps := rfl
@[simp] theorem State.startSensorWrite_clock : (s.startSensorWrite).clock = s.clock := rfl
@[simp] theorem State.startSensorWrite_rail : (s.startSensorWrite).rail = s.rail := rfl
@[simp] theorem State.startSensorWrite_roster : (s.startSensorWrite).roster = s.roster := rfl
@[simp] theorem State.startSensorWrite_power : (s.startSensorWrite).power = s.power := rfl
@[simp] theorem State.startSensorWrite_loads : (s.startSensorWrite).loads = s.loads := rfl
@[simp] theorem State.startSensorWrite_agree : (s.startSensorWrite).agree = s.agree := rfl
@[simp] theorem State.startSensorWrite_lanes : (s.startSensorWrite).lanes = s.lanes := rfl
@[simp] theorem State.startSensorWrite_sliceSource : (s.startSensorWrite).sliceSource = s.sliceSource := rfl
@[simp] theorem State.startSensorWrite_sliceHeadset : (s.startSensorWrite).sliceHeadset = s.sliceHeadset := rfl
@[simp] theorem State.startSensorWrite_motionSource : (s.startSensorWrite).motionSource = s.motionSource := rfl
@[simp] theorem State.startSensorWrite_audioSource : (s.startSensorWrite).audioSource = s.audioSource := rfl
@[simp] theorem State.startSensorWrite_audioHeadset : (s.startSensorWrite).audioHeadset = s.audioHeadset := rfl
@[simp] theorem State.startSensorWrite_remote : (s.startSensorWrite).remote = s.remote := rfl
@[simp] theorem State.startSensorWrite_host : (s.startSensorWrite).host = s.host := rfl
@[simp] theorem State.startSensorWrite_counters : (s.startSensorWrite).counters = s.counters := rfl
@[simp] theorem State.startSensorWrite_items : (s.startSensorWrite).items = s.items := rfl
@[simp] theorem State.startSensorWrite_freeCount : (s.startSensorWrite).freeCount = s.freeCount := rfl
@[simp] theorem State.startSensorWrite_pending : (s.startSensorWrite).pending = s.pending := rfl

@[simp] theorem State.setRestartPending_powered : (s.setRestartPending).powered = s.powered := rfl
@[simp] theorem State.setRestartPending_straps : (s.setRestartPending).straps = s.straps := rfl
@[simp] theorem State.setRestartPending_clock : (s.setRestartPending).clock = s.clock := rfl
@[simp] theorem State.setRestartPending_rail : (s.setRestartPending).rail = s.rail := rfl
@[simp] theorem State.setRestartPending_roster : (s.setRestartPending).roster = s.roster := rfl
@[simp] theorem State.setRestartPending_power : (s.setRestartPending).power = s.power := rfl
@[simp] theorem State.setRestartPending_loads : (s.setRestartPending).loads = s.loads := rfl
@[simp] theorem State.setRestartPending_agree : (s.setRestartPending).agree = s.agree := rfl
@[simp] theorem State.setRestartPending_lanes : (s.setRestartPending).lanes = s.lanes := rfl
@[simp] theorem State.setRestartPending_sliceSource : (s.setRestartPending).sliceSource = s.sliceSource := rfl
@[simp] theorem State.setRestartPending_sliceHeadset : (s.setRestartPending).sliceHeadset = s.sliceHeadset := rfl
@[simp] theorem State.setRestartPending_motionHeadset : (s.setRestartPending).motionHeadset = s.motionHeadset := rfl
@[simp] theorem State.setRestartPending_motionSource : (s.setRestartPending).motionSource = s.motionSource := rfl
@[simp] theorem State.setRestartPending_audioSource : (s.setRestartPending).audioSource = s.audioSource := rfl
@[simp] theorem State.setRestartPending_audioHeadset : (s.setRestartPending).audioHeadset = s.audioHeadset := rfl
@[simp] theorem State.setRestartPending_host : (s.setRestartPending).host = s.host := rfl
@[simp] theorem State.setRestartPending_counters : (s.setRestartPending).counters = s.counters := rfl
@[simp] theorem State.setRestartPending_items : (s.setRestartPending).items = s.items := rfl
@[simp] theorem State.setRestartPending_freeCount : (s.setRestartPending).freeCount = s.freeCount := rfl
@[simp] theorem State.setRestartPending_pending : (s.setRestartPending).pending = s.pending := rfl

@[simp] theorem State.carrierChange_powered (b : Bool) : (s.carrierChange b).powered = s.powered := rfl
@[simp] theorem State.carrierChange_straps (b : Bool) : (s.carrierChange b).straps = s.straps := rfl
@[simp] theorem State.carrierChange_clock (b : Bool) : (s.carrierChange b).clock = s.clock := rfl
@[simp] theorem State.carrierChange_roster (b : Bool) : (s.carrierChange b).roster = s.roster := rfl
@[simp] theorem State.carrierChange_power (b : Bool) : (s.carrierChange b).power = s.power := rfl
@[simp] theorem State.carrierChange_loads (b : Bool) : (s.carrierChange b).loads = s.loads := rfl
@[simp] theorem State.carrierChange_agree (b : Bool) : (s.carrierChange b).agree = s.agree := rfl
@[simp] theorem State.carrierChange_lanes (b : Bool) : (s.carrierChange b).lanes = s.lanes := rfl
@[simp] theorem State.carrierChange_sliceSource (b : Bool) : (s.carrierChange b).sliceSource = s.sliceSource := rfl
@[simp] theorem State.carrierChange_sliceHeadset (b : Bool) : (s.carrierChange b).sliceHeadset = s.sliceHeadset := rfl
@[simp] theorem State.carrierChange_motionHeadset (b : Bool) : (s.carrierChange b).motionHeadset = s.motionHeadset := rfl
@[simp] theorem State.carrierChange_motionSource (b : Bool) : (s.carrierChange b).motionSource = s.motionSource := rfl
@[simp] theorem State.carrierChange_audioSource (b : Bool) : (s.carrierChange b).audioSource = s.audioSource := rfl
@[simp] theorem State.carrierChange_audioHeadset (b : Bool) : (s.carrierChange b).audioHeadset = s.audioHeadset := rfl
@[simp] theorem State.carrierChange_remote (b : Bool) : (s.carrierChange b).remote = s.remote := rfl
@[simp] theorem State.carrierChange_host (b : Bool) : (s.carrierChange b).host = s.host := rfl
@[simp] theorem State.carrierChange_counters (b : Bool) : (s.carrierChange b).counters = s.counters := rfl
@[simp] theorem State.carrierChange_items (b : Bool) : (s.carrierChange b).items = s.items := rfl
@[simp] theorem State.carrierChange_freeCount (b : Bool) : (s.carrierChange b).freeCount = s.freeCount := rfl
@[simp] theorem State.carrierChange_pending (b : Bool) : (s.carrierChange b).pending = s.pending := rfl

@[simp] theorem State.judgeClear_powered (b : Bool) : (s.judgeClear b).powered = s.powered := rfl
@[simp] theorem State.judgeClear_straps (b : Bool) : (s.judgeClear b).straps = s.straps := rfl
@[simp] theorem State.judgeClear_clock (b : Bool) : (s.judgeClear b).clock = s.clock := rfl
@[simp] theorem State.judgeClear_rail (b : Bool) : (s.judgeClear b).rail = s.rail := rfl
@[simp] theorem State.judgeClear_roster (b : Bool) : (s.judgeClear b).roster = s.roster := rfl
@[simp] theorem State.judgeClear_loads (b : Bool) : (s.judgeClear b).loads = s.loads := rfl
@[simp] theorem State.judgeClear_agree (b : Bool) : (s.judgeClear b).agree = s.agree := rfl
@[simp] theorem State.judgeClear_lanes (b : Bool) : (s.judgeClear b).lanes = s.lanes := rfl
@[simp] theorem State.judgeClear_sliceSource (b : Bool) : (s.judgeClear b).sliceSource = s.sliceSource := rfl
@[simp] theorem State.judgeClear_sliceHeadset (b : Bool) : (s.judgeClear b).sliceHeadset = s.sliceHeadset := rfl
@[simp] theorem State.judgeClear_motionHeadset (b : Bool) : (s.judgeClear b).motionHeadset = s.motionHeadset := rfl
@[simp] theorem State.judgeClear_motionSource (b : Bool) : (s.judgeClear b).motionSource = s.motionSource := rfl
@[simp] theorem State.judgeClear_audioSource (b : Bool) : (s.judgeClear b).audioSource = s.audioSource := rfl
@[simp] theorem State.judgeClear_audioHeadset (b : Bool) : (s.judgeClear b).audioHeadset = s.audioHeadset := rfl
@[simp] theorem State.judgeClear_remote (b : Bool) : (s.judgeClear b).remote = s.remote := rfl
@[simp] theorem State.judgeClear_host (b : Bool) : (s.judgeClear b).host = s.host := rfl
@[simp] theorem State.judgeClear_counters (b : Bool) : (s.judgeClear b).counters = s.counters := rfl
@[simp] theorem State.judgeClear_items (b : Bool) : (s.judgeClear b).items = s.items := rfl
@[simp] theorem State.judgeClear_freeCount (b : Bool) : (s.judgeClear b).freeCount = s.freeCount := rfl
@[simp] theorem State.judgeClear_pending (b : Bool) : (s.judgeClear b).pending = s.pending := rfl

@[simp] theorem State.bump_powered (c : Counter) : (s.bump c).powered = s.powered := rfl
@[simp] theorem State.bump_straps (c : Counter) : (s.bump c).straps = s.straps := rfl
@[simp] theorem State.bump_clock (c : Counter) : (s.bump c).clock = s.clock := rfl
@[simp] theorem State.bump_rail (c : Counter) : (s.bump c).rail = s.rail := rfl
@[simp] theorem State.bump_roster (c : Counter) : (s.bump c).roster = s.roster := rfl
@[simp] theorem State.bump_power (c : Counter) : (s.bump c).power = s.power := rfl
@[simp] theorem State.bump_loads (c : Counter) : (s.bump c).loads = s.loads := rfl
@[simp] theorem State.bump_agree (c : Counter) : (s.bump c).agree = s.agree := rfl
@[simp] theorem State.bump_lanes (c : Counter) : (s.bump c).lanes = s.lanes := rfl
@[simp] theorem State.bump_sliceSource (c : Counter) : (s.bump c).sliceSource = s.sliceSource := rfl
@[simp] theorem State.bump_sliceHeadset (c : Counter) : (s.bump c).sliceHeadset = s.sliceHeadset := rfl
@[simp] theorem State.bump_motionHeadset (c : Counter) : (s.bump c).motionHeadset = s.motionHeadset := rfl
@[simp] theorem State.bump_motionSource (c : Counter) : (s.bump c).motionSource = s.motionSource := rfl
@[simp] theorem State.bump_audioSource (c : Counter) : (s.bump c).audioSource = s.audioSource := rfl
@[simp] theorem State.bump_audioHeadset (c : Counter) : (s.bump c).audioHeadset = s.audioHeadset := rfl
@[simp] theorem State.bump_remote (c : Counter) : (s.bump c).remote = s.remote := rfl
@[simp] theorem State.bump_host (c : Counter) : (s.bump c).host = s.host := rfl
@[simp] theorem State.bump_counters (c : Counter) : (s.bump c).counters = s.counters.add c 1 := rfl
@[simp] theorem State.bump_items (c : Counter) : (s.bump c).items = s.items := rfl
@[simp] theorem State.bump_freeCount (c : Counter) : (s.bump c).freeCount = s.freeCount := rfl
@[simp] theorem State.bump_pending (c : Counter) : (s.bump c).pending = s.pending := rfl
@[simp] theorem State.raise_reply (f : Flag) : (s.raise f).host.reply = s.host.reply := rfl
@[simp] theorem State.raise_clocked (f : Flag) : (s.raise f).host.clocked = s.host.clocked := rfl
@[simp] theorem State.raise_restartFrom (f : Flag) : (s.raise f).host.restartFrom = s.host.restartFrom := rfl

@[simp] theorem State.raise_taken (f : Flag) : (s.raise f).host.taken = s.host.taken := rfl
@[simp] theorem State.raise_cut (f : Flag) : (s.raise f).host.cut = s.host.cut := rfl
@[simp] theorem State.withReply_host (st : Status) (b : List Byte) :
    (s.withReply st b).host = { s.host with reply := st.code :: b, taken := true } := rfl

/-! The round written into an entry's mode set. -/

@[simp] theorem Entry.withRound_addr (e : Entry) (r : Half) : (e.withRound r).addr = e.addr := rfl
@[simp] theorem Entry.withRound_role (e : Entry) (r : Half) : (e.withRound r).role = e.role := rfl
@[simp] theorem Entry.withRound_lastHeard (e : Entry) (r : Half) : (e.withRound r).lastHeard = e.lastHeard := rfl
@[simp] theorem Entry.withRound_summary (e : Entry) (r : Half) : (e.withRound r).summary = e.summary := rfl
@[simp] theorem Entry.withRound_offer (e : Entry) (r : Half) : (e.withRound r).offer = e.offer := rfl
@[simp] theorem Entry.withRound_claim (e : Entry) (r : Half) : (e.withRound r).claim = e.claim := rfl
@[simp] theorem Entry.withRound_confirm (e : Entry) (r : Half) : (e.withRound r).confirm = e.confirm := rfl
@[simp] theorem Entry.withRound_anchor (e : Entry) (r : Half) : (e.withRound r).anchor = e.anchor := rfl
@[simp] theorem Entry.withRound_modeSet (e : Entry) (r : Half) :
    (e.withRound r).modeSet = e.modeSet.map (fun m => { m with round := r }) := rfl

/-! What a host request can do: nothing at a node without power or in a selection whose request is taken, else its act (R175). -/

theorem onRequest_taken {s : State} (act : State → State) (h : s.host.taken = true) : onRequest s act = .next s := by
  simp [onRequest, whilePowered, h]

theorem onRequest_next {s : State} (act : State → State) (hp : s.powered = true) (h : s.host.taken = false) :
    onRequest s act = .next (act s) := by
  simp [onRequest, whilePowered, h, hp]

/-- The bytes of a released selection are as many as the host clocked. -/
theorem clockedBytes_length (n : Nat) (r : List Byte) : (clockedBytes n r).length = n := by
  simp only [clockedBytes, List.length_append, List.length_take, List.length_replicate]; omega

theorem HostPort.clockedOut_length (c : Clocking) (h : HostPort) : (h.clockedOut c).length = c.total := by
  unfold HostPort.clockedOut
  split
  · exact clockedBytes_length _ _
  · simp only [List.length_append, clockedBytes_length, List.length_replicate]; omega

/-- At level 0 every place of the panel is dark (R78, R125). -/
theorem State.panelPort_dark (h : s.loads.current.panel = 0) : s.panelPort = List.replicate s.sliceHeadset.panel.length none := by
  simp [State.panelPort, h, List.map_const']

end Sys2Proof.Machine
end

