-- ==== Sys2Proof/Laws/Core.lean ====
section
/-! SUPPORT. The core of the state: power, straps, both clocks, items, queue and join state. Nearly every operation leaves it
as it is; one equation for each says so, and simp chains them. -/

namespace Sys2Proof.Machine

structure Core where
  powered : Bool
  straps  : Straps
  clock   : Clock
  items   : List Half
  pending : List Instr
  join    : JoinState

def State.core (s : State) : Core := ⟨s.powered, s.straps, s.clock, s.items, s.pending, s.roster.join⟩

@[simp] theorem core_eta (s : State) : (⟨s.powered, s.straps, s.clock, s.items, s.pending, s.roster.join⟩ : Core) = s.core := rfl

@[simp] theorem core_mk (pw st cl ra ro po lo ag la ss sh mh ms au ah re ho co it fr pe) :
    State.core ⟨pw, st, cl, ra, ro, po, lo, ag, la, ss, sh, mh, ms, au, ah, re, ho, co, it, fr, pe⟩ =
      ⟨pw, st, cl, it, pe, ro.join⟩ := rfl

theorem powered_of_core {s t : State} (h : t.core = s.core) : t.powered = s.powered := congrArg Core.powered h
theorem straps_of_core {s t : State} (h : t.core = s.core) : t.straps = s.straps := congrArg Core.straps h
theorem role_of_core {s t : State} (h : t.core = s.core) : t.role = s.role := congrArg Straps.role (straps_of_core h)
theorem clock_of_core {s t : State} (h : t.core = s.core) : t.clock = s.clock := congrArg Core.clock h
theorem items_of_core {s t : State} (h : t.core = s.core) : t.items = s.items := congrArg Core.items h
theorem pending_of_core {s t : State} (h : t.core = s.core) : t.pending = s.pending := congrArg Core.pending h
theorem join_of_core {s t : State} (h : t.core = s.core) : t.roster.join = s.roster.join := congrArg Core.join h

variable (s : State)

/-! ## Single updates -/

@[simp] theorem State.raise_core (f : Flag) : (s.raise f).core = s.core := rfl
@[simp] theorem State.count_core (c : Counter) (n : Nat) : (s.count c n).core = s.core := rfl
@[simp] theorem State.bump_core (c : Counter) : (s.bump c).core = s.core := rfl
@[simp] theorem State.withReply_core (st : Status) (b : List Byte) : (s.withReply st b).core = s.core := rfl
@[simp] theorem State.syncHead_core : s.syncHead.core = s.core := rfl
@[simp] theorem State.stopSending_core : s.stopSending.core = s.core := rfl
@[simp] theorem State.mapSelf_core (f : Entry → Entry) : (s.mapSelf f).core = s.core := rfl
@[simp] theorem State.setRound_core (r : Half) : (s.setRound r).core = s.core := rfl
@[simp] theorem State.setSupplier_core (st : SupplierState) : (s.setSupplier st).core = s.core := rfl
@[simp] theorem State.mapAudio_core (f : AudioHeadset → AudioHeadset) : (s.mapAudio f).core = s.core := rfl
@[simp] theorem State.sendFrame_core (f : Half × Half) : (s.sendFrame f).core = s.core := rfl
@[simp] theorem State.setSlot_core (k : Nat) (x : Slot) : (s.setSlot k x).core = s.core := rfl
@[simp] theorem State.show_core (k : Nat) (b : Option (List Byte)) : (s.show k b).core = s.core := rfl
@[simp] theorem State.markNotFresh_core : s.markNotFresh.core = s.core := rfl
@[simp] theorem State.answerSlice_core (c : Byte) : (s.answerSlice c).core = s.core := rfl
@[simp] theorem State.setSubmission_core (o : Option Submission) : (s.setSubmission o).core = s.core := rfl
@[simp] theorem State.offerPacket_core (lane : Lane) (p : Packet) : (s.offerPacket lane p).core = s.core := rfl
@[simp] theorem State.orderLanes_core : s.orderLanes.core = s.core := rfl
@[simp] theorem State.setReceiver_core (lane : Lane) (r : RxState) : (s.setReceiver lane r).core = s.core := rfl
@[simp] theorem State.setRx_core (r : Receiver) : (s.setRx r).core = s.core := rfl
@[simp] theorem State.setPeers_core (l : List Entry) : (s.setPeers l).core = s.core := rfl
@[simp] theorem State.startSensorWrite_core : s.startSensorWrite.core = s.core := rfl
@[simp] theorem State.setRestartPending_core : s.setRestartPending.core = s.core := rfl
@[simp] theorem State.carrierChange_core (b : Bool) : (s.carrierChange b).core = s.core := rfl
@[simp] theorem State.judgeClear_core (b : Bool) : (s.judgeClear b).core = s.core := rfl
@[simp] theorem State.endRemote_core (r : RemoteState) : (s.endRemote r).core = s.core := rfl
@[simp] theorem State.drawFrame_core : s.drawFrame.2.core = s.core := rfl

/-! ## The transmit queue -/

@[simp] theorem State.askGivenUp_core : s.askGivenUp.core = s.core := by
  unfold State.askGivenUp; split <;> simp
@[simp] theorem State.tellDiscarded_core (e : QEntry) : (s.tellDiscarded e).core = s.core := by
  unfold State.tellDiscarded; split <;> simp
@[simp] theorem State.addEntry_core (k : BurstKind) (p : List Byte) : (s.addEntry k p).core = s.core := by
  simp [State.addEntry]
@[simp] theorem State.offerBurst_core (k : BurstKind) (p : List Byte) : (s.offerBurst k p).core = s.core := by
  unfold State.offerBurst; (repeat' split) <;> simp
@[simp] theorem State.offerNotice_core (k : Byte) (d : Nat) : (s.offerNotice k d).core = s.core := by
  simp [State.offerNotice]

/-! ## Lanes and loads -/

@[simp] theorem State.feedSlice_core : s.feedSlice.core = s.core := by
  unfold State.feedSlice; (repeat' split) <;> simp
@[simp] theorem State.feedSlices_core : s.feedSlices.core = s.core := by simp [State.feedSlices]
@[simp] theorem State.motionLevelChanged_core : s.motionLevelChanged.core = s.core := by
  unfold State.motionLevelChanged; split <;> simp
@[simp] theorem State.handLevels_core (l : Levels) : (s.handLevels l).core = s.core := by
  unfold State.handLevels; split <;> simp
@[simp] theorem State.plan_core : s.plan.core = s.core := by
  unfold State.plan; split <;> simp
@[simp] theorem State.syncAudioPower_core : s.syncAudioPower.core = s.core := by
  unfold State.syncAudioPower; (repeat' split) <;> simp

/-! ## Agreement -/

@[simp] theorem State.writeSummary_core : s.writeSummary.core = s.core := by simp [State.writeSummary]
@[simp] theorem State.tellDataBlocks_core (b : Bool) : (s.tellDataBlocks b).core = s.core := by
  unfold State.tellDataBlocks State.dataBlocksLeave State.dataBlocksEnter; (repeat' split) <;> simp
@[simp] theorem State.changeAgree_core (st : AgreeState) (g : Option Grade) (r : Reason) :
    (s.changeAgree st g r).core = s.core := by simp [State.changeAgree]
@[simp] theorem State.halt_core (r : Reason) : (s.halt r).core = s.core := by simp [State.halt]
@[simp] theorem State.enterSettle_core (r : Reason) : (s.enterSettle r).core = s.core := by simp [State.enterSettle]
@[simp] theorem State.openRound_core (r : Reason) : (s.openRound r).core = s.core := by
  unfold State.openRound; (repeat' split) <;> simp
@[simp] theorem State.pathChanged_core : s.pathChanged.core = s.core := by
  unfold State.pathChanged; split <;> simp
@[simp] theorem State.ownSetChanged_core : s.ownSetChanged.core = s.core := by
  unfold State.ownSetChanged; (repeat' split) <;> simp
@[simp] theorem State.writeModeSet_core (l : List Grade) (c : Grade) : (s.writeModeSet l c).core = s.core := by
  simp [State.writeModeSet]
@[simp] theorem State.handModeSet_core (q : Bool) (l : List Grade) (c : Grade) :
    (s.handModeSet q l c).core = s.core := by unfold State.handModeSet; split <;> simp
@[simp] theorem State.enterTraining_core : s.enterTraining.core = s.core := by simp [State.enterTraining]
@[simp] theorem State.setAnchor_core : s.setAnchor.core = s.core := by
  unfold State.setAnchor; split <;> simp
@[simp] theorem State.enterRunning_core : s.enterRunning.core = s.core := by
  unfold State.enterRunning; dsimp only; split <;> simp

/-! ## Power -/

@[simp] theorem State.announceOffer_core : s.announceOffer.core = s.core := by
  unfold State.announceOffer; split <;> simp
@[simp] theorem State.announceClaim_core : s.announceClaim.core = s.core := by
  unfold State.announceClaim; split <;> simp
@[simp] theorem State.runAllowances_core : s.runAllowances.core = s.core := by
  unfold State.runAllowances; dsimp only; (repeat' split) <;> simp
@[simp] theorem State.handIfChanged_core (q : Bool) (l : List Grade) (c : Grade) :
    (s.handIfChanged q l c).core = s.core := by unfold State.handIfChanged; split <;> simp
@[simp] theorem State.handCap_core (c : Nat) : (s.handCap c).core = s.core := by
  unfold State.handCap; split <;> simp
@[simp] theorem State.formModeSet_core (q : Bool) : (s.formModeSet q).core = s.core := by
  unfold State.formModeSet; dsimp only; split <;> simp
@[simp] theorem State.formCap_core : s.formCap.core = s.core := by
  unfold State.formCap; split <;> simp
@[simp] theorem State.reform_core : s.reform.core = s.core := by simp [State.reform]
@[simp] theorem State.checkSupply_core : s.checkSupply.core = s.core := by
  unfold State.checkSupply; (repeat' split) <;> simp
@[simp] theorem State.powerTold_core : s.powerTold.core = s.core := by simp [State.powerTold]
@[simp] theorem State.settleOffer_core : s.settleOffer.core = s.core := by
  unfold State.settleOffer; split <;> simp
@[simp] theorem State.settleClaimList_core : s.settleClaimList.core = s.core := by
  unfold State.settleClaimList; split <;> simp
@[simp] theorem State.settleClaim_core : s.settleClaim.core = s.core := by simp [State.settleClaim]
@[simp] theorem State.endTripHold_core : s.endTripHold.core = s.core := by simp [State.endTripHold]
@[simp] theorem State.closeSwitch_core : s.closeSwitch.core = s.core := by simp [State.closeSwitch]
@[simp] theorem State.openSwitch_core (b : Bool) : (s.openSwitch b).core = s.core := by simp [State.openSwitch]
@[simp] theorem State.beginTrip_core (d : Nat) (b : Bool) : (s.beginTrip d b).core = s.core := by simp [State.beginTrip]

/-! ## Rounds -/

@[simp] theorem State.failRound_core (r : Reason) : (s.failRound r).core = s.core := by simp [State.failRound]
@[simp] theorem State.setBaseForced_core : s.setBaseForced.core = s.core := by simp [State.setBaseForced]
@[simp] theorem State.confirmFailure_core : s.confirmFailure.core = s.core := by
  unfold State.confirmFailure; split <;> simp
@[simp] theorem State.lowerCeiling_core : s.lowerCeiling.core = s.core := by
  unfold State.lowerCeiling; (repeat' split) <;> simp
@[simp] theorem State.trainingFailure_core : s.trainingFailure.core = s.core := by
  unfold State.trainingFailure; dsimp only; split <;> simp
@[simp] theorem State.judgeConfirms_core : s.judgeConfirms.core = s.core := by
  unfold State.judgeConfirms; dsimp only; (repeat' split) <;> simp
@[simp] theorem State.enterConfirming_core (g : Grade) : (s.enterConfirming g).core = s.core := by
  simp [State.enterConfirming]
@[simp] theorem State.choose_core : s.choose.core = s.core := by
  unfold State.choose; (repeat' split) <;> simp
@[simp] theorem State.writeRound_core : s.writeRound.core = s.core := by simp [State.writeRound]
@[simp] theorem State.noteListened_core : s.noteListened.core = s.core := rfl
@[simp] theorem State.startListen_core : s.startListen.core = s.core := by simp [State.startListen]
@[simp] theorem State.enterListen_core : s.enterListen.core = s.core := by
  unfold State.enterListen; split <;> simp
@[simp] theorem State.takeStepDue_core : s.takeStepDue.core = s.core := by
  unfold State.takeStepDue; (repeat' split) <;> simp
@[simp] theorem State.endBaseForced_core : s.endBaseForced.core = s.core := by
  unfold State.endBaseForced; dsimp only; split <;> simp
@[simp] theorem State.adopt_core (r : Half) : (s.adopt r).core = s.core := by
  unfold State.adopt; dsimp only; (repeat' split) <;> simp
@[simp] theorem State.roundHeard_core (b : Bool) (r : Half) : (s.roundHeard b r).core = s.core := by
  unfold State.roundHeard; (repeat' split) <;> simp
@[simp] theorem State.receiverReported_core : s.receiverReported.core = s.core := by
  unfold State.receiverReported; (repeat' split) <;> simp

/-! ## Picture -/

@[simp] theorem State.syncSchedule_core : s.syncSchedule.core = s.core := by
  unfold State.syncSchedule; dsimp only; (repeat' split) <;> simp
@[simp] theorem State.refuseSlice_core (b : Byte) (c : Counter) : (s.refuseSlice b c).core = s.core := by
  simp [State.refuseSlice]
@[simp] theorem State.acceptSlice_core (a : Anchor) (n k : Nat) (b : List Byte) : (s.acceptSlice a n k b).core = s.core := by
  unfold State.acceptSlice; dsimp only; split <;> simp
@[simp] theorem State.judgeSlice_core (a : Anchor) (g : Grade) (k : Nat) (b : List Byte) :
    (s.judgeSlice a g k b).core = s.core := by unfold State.judgeSlice; (repeat' split) <;> simp
@[simp] theorem State.submitSlice_core (st : Bool) (k : Nat) (b : List Byte) : (s.submitSlice st k b).core = s.core := by
  unfold State.submitSlice; dsimp only; (repeat' split) <;> simp
@[simp] theorem State.sliceArrives_core (f : Half) (k pt : Nat) (b : List Byte) :
    (s.sliceArrives f k pt b).core = s.core := by unfold State.sliceArrives; dsimp only; (repeat' split) <;> simp
@[simp] theorem State.freePassedOver_core (n : Half) (k : Nat) : (s.freePassedOver n k).core = s.core := by
  unfold State.freePassedOver; dsimp only; (repeat' split) <;> simp
@[simp] theorem State.showAgain_core (n : Half) (k t : Nat) : (s.showAgain n k t).core = s.core := by
  unfold State.showAgain; dsimp only; (repeat' split) <;> simp
@[simp] theorem State.showIndex_core (n : Half) (k t : Nat) : (s.showIndex n k t).core = s.core := by
  unfold State.showIndex; dsimp only; (repeat' split) <;> simp
@[simp] theorem State.makeFrameShown_core (n t r : Nat) : (s.makeFrameShown n t r).core = s.core := by
  unfold State.makeFrameShown; split <;> simp
@[simp] theorem State.nextScan_core (a n k : Nat) : (s.nextScan a n k).core = s.core := by
  unfold State.nextScan; dsimp only; split <;> simp
@[simp] theorem State.scanIndex_core (a : Nat) : (s.scanIndex a).core = s.core := by simp [State.scanIndex]
@[simp] theorem State.scanStep_core (n : Nat) : (s.scanStep n).core = s.core := by
  unfold State.scanStep; dsimp only; (repeat' split) <;> simp
@[simp] theorem State.frameShownArrives_core (r : FrameShown) : (s.frameShownArrives r).core = s.core := by
  simp [State.frameShownArrives]

/-! ## Motion -/

@[simp] theorem State.noteRange_core (r : MotionRecord) : (s.noteRange r).core = s.core := by
  unfold State.noteRange; split <;> simp
@[simp] theorem State.countReplaced_core (l : Lane) (k : PacketKind) (c : Counter) : (s.countReplaced l k c).core = s.core := by
  unfold State.countReplaced; split <;> simp
@[simp] theorem State.carryRecord_core (r : MotionRecord) : (s.carryRecord r).core = s.core := by
  unfold State.carryRecord; dsimp only; split <;> simp
@[simp] theorem State.endRead_core : s.endRead.core = s.core := by
  unfold State.endRead; dsimp only; split <;> simp
@[simp] theorem State.completeRead_core (r : SensorRead) (a : Axes) : (s.completeRead r a).core = s.core := by
  simp [State.completeRead]
@[simp] theorem State.queueRecord_core (r : MotionRecord) : (s.queueRecord r).core = s.core := by
  unfold State.queueRecord; dsimp only; split <;> simp
@[simp] theorem State.emptyMotionQueue_core : s.emptyMotionQueue.core = s.core := by
  unfold State.emptyMotionQueue; dsimp only; split <;> simp
@[simp] theorem State.recordArrives_core (r : MotionRecord) : (s.recordArrives r).core = s.core := by
  unfold State.recordArrives; (repeat' split) <;> simp
@[simp] theorem State.offerFallback_core : s.offerFallback.core = s.core := by
  unfold State.offerFallback; (repeat' split) <;> simp

/-! ## Audio -/

@[simp] theorem State.closePlayBlock_core (l : List (Half × Half)) : (s.closePlayBlock l).core = s.core := by
  unfold State.closePlayBlock; dsimp only; split <;> simp
@[simp] theorem State.enterPlaying_core : s.enterPlaying.core = s.core := by simp [State.enterPlaying]
@[simp] theorem State.startIfDue_core : s.startIfDue.core = s.core := by
  unfold State.startIfDue; (repeat' split) <;> simp
@[simp] theorem State.judgeHead_core : s.judgeHead.core = s.core := by
  unfold State.judgeHead; dsimp only; split <;> simp
@[simp] theorem State.audioArrives_core (q : Half) (t : Nat) (l : List (Half × Half)) :
    (s.audioArrives q t l).core = s.core := by unfold State.audioArrives; dsimp only; (repeat' split) <;> simp
@[simp] theorem State.keepLastFrame_core : s.keepLastFrame.core = s.core := by
  unfold State.keepLastFrame; split <;> simp
@[simp] theorem State.enterRamping_core : s.enterRamping.core = s.core := by simp [State.enterRamping]
@[simp] theorem State.removeHeadFrame_core : s.removeHeadFrame.core = s.core := by
  unfold State.removeHeadFrame; (repeat' split) <;> simp
@[simp] theorem State.playFrame_core (f : Half × Half) : (s.playFrame f).core = s.core := by
  unfold State.playFrame; dsimp only; split <;> simp
@[simp] theorem State.rampPeriod_core (n : Nat) : (s.rampPeriod n).core = s.core := by
  unfold State.rampPeriod; dsimp only; split <;> simp
@[simp] theorem State.outputPeriod_core : s.outputPeriod.core = s.core := by
  unfold State.outputPeriod; (repeat' split) <;> simp
@[simp] theorem State.slip_core : s.slip.core = s.core := by
  unfold State.slip; (repeat' split) <;> simp
@[simp] theorem State.audioStep_core : s.audioStep.core = s.core := by
  unfold State.audioStep; (repeat' split) <;> simp
@[simp] theorem State.closeMicBlock_core (t : Nat) (l : List Half) : (s.closeMicBlock t l).core = s.core := by
  unfold State.closeMicBlock; dsimp only; split <;> simp
@[simp] theorem State.captureSample_core (v : Half) : (s.captureSample v).core = s.core := by
  unfold State.captureSample; dsimp only; (repeat' split) <;> simp
@[simp] theorem State.micArrives_core (t : Nat) (l : List Half) : (s.micArrives t l).core = s.core := by
  unfold State.micArrives; dsimp only; split <;> simp

/-! ## What an item's new value does -/

@[simp] theorem State.enableRail_core : s.enableRail.core = s.core := by
  unfold State.enableRail; dsimp only; (repeat' split) <;> simp
@[simp] theorem State.disableRail_core : s.disableRail.core = s.core := by
  unfold State.disableRail; (repeat' split) <;> simp
@[simp] theorem State.itemWritten_core (n : Nat) : (s.itemWritten n).core = s.core := by
  unfold State.itemWritten; (repeat' split) <;> simp

/-! ## Remote -/

@[simp] theorem State.readCounter_core (g i : Nat) : (s.readCounter g i).state.core = s.core := by
  unfold State.readCounter; split <;> simp
@[simp] theorem State.noteRestartAnswer_core (n : Nat) : (s.noteRestartAnswer n).core = s.core := by
  unfold State.noteRestartAnswer; split <;> simp
@[simp] theorem State.answerArrives_core (a : Addr) (p : List Byte) : (s.answerArrives a p).core = s.core := by
  unfold State.answerArrives; (repeat' split) <;> simp
@[simp] theorem State.askSent_core : s.askSent.core = s.core := by
  unfold State.askSent; split <;> simp
@[simp] theorem State.startRemote_core (a b c : Byte) (v : Half) : (s.startRemote a b c v).core = s.core := by
  simp [State.startRemote]

/-! ## Roster -/

@[simp] theorem State.silence_core : s.silence.core = s.core := by
  unfold State.silence; dsimp only; split <;> simp
@[simp] theorem State.tellPower_core (b : Bool) : (s.tellPower b).core = s.core := by
  unfold State.tellPower; split <;> simp
@[simp] theorem State.tellPath_core (b : Bool) : (s.tellPath b).core = s.core := by
  unfold State.tellPath; split <;> simp
@[simp] theorem State.tellChange_core (o n : Option Entry) : (s.tellChange o n).core = s.core := by
  simp [State.tellChange]
@[simp] theorem State.removeEntry_core (e : Entry) : (s.removeEntry e).core = s.core := by simp [State.removeEntry]
@[simp] theorem State.tellRound_core (h : Heard) (e : Entry) : (s.tellRound h e).core = s.core := by
  unfold State.tellRound; (repeat' split) <;> simp
@[simp] theorem State.updateEntry_core (h : Heard) (o : Option Entry) : (s.updateEntry h o).core = s.core := by
  simp [State.updateEntry]
@[simp] theorem State.rosterTakes_core (h : Heard) : (s.rosterTakes h).core = s.core := by
  unfold State.rosterTakes; dsimp only; (repeat' split) <;> simp
@[simp] theorem State.enterTripHold_core : s.enterTripHold.core = s.core := by simp [State.enterTripHold]
@[simp] theorem State.noticeArrives_core (a : Addr) (k d : Byte) : (s.noticeArrives a k d).core = s.core := by
  unfold State.noticeArrives; dsimp only; (repeat' split) <;> simp
@[simp] theorem State.offerBeacon_core : s.offerBeacon.core = s.core := by simp [State.offerBeacon]

/-! ## Rail, supply, hops, host port -/

@[simp] theorem State.abandon_core (c : Counter) : (s.abandon c).core = s.core := by simp [State.abandon]
@[simp] theorem State.gapIfDue_core : s.gapIfDue.core = s.core := by
  unfold State.gapIfDue; (repeat' split) <;> simp
@[simp] theorem State.takeStartMark_core (a b : Nat) : (s.takeStartMark a b).core = s.core := by simp [State.takeStartMark]
@[simp] theorem State.giveUpEntry_core (e : QEntry) : (s.giveUpEntry e).core = s.core := by simp [State.giveUpEntry]
@[simp] theorem State.clash_core (x : Sending) : (s.clash x).core = s.core := by
  unfold State.clash; dsimp only; split <;> simp
@[simp] theorem State.compareSent_core (x : Sending) (d : Byte) (b : Bool) : (s.compareSent x d b).core = s.core := by
  unfold State.compareSent; (repeat' split) <;> simp
@[simp] theorem State.beginSending_core (e : QEntry) (l : List QEntry) : (s.beginSending e l).core = s.core := by
  simp [State.beginSending]
@[simp] theorem State.dropHead_core : s.dropHead.core = s.core := by
  unfold State.dropHead; split <;> simp
@[simp] theorem State.followInputs_core : s.followInputs.core = s.core := by simp [State.followInputs]
@[simp] theorem State.readyChanged_core : s.readyChanged.core = s.core := by
  unfold State.readyChanged; (repeat' split) <;> simp
@[simp] theorem State.presentChanged_core (b : Bool) : (s.presentChanged b).core = s.core := by
  unfold State.presentChanged; (repeat' split) <;> simp
@[simp] theorem State.raiseLoad_core (k : Load) : (s.raiseLoad k).core = s.core := by
  unfold State.raiseLoad; dsimp only; split <;> simp
@[simp] theorem State.judgeDroop_core (b : Bool) : (s.judgeDroop b).core = s.core := by
  unfold State.judgeDroop; dsimp only; split <;> simp
@[simp] theorem State.judgeCritical_core (n : Nat) : (s.judgeCritical n).core = s.core := by
  unfold State.judgeCritical; split <;> simp
@[simp] theorem State.measureRail_core (n : Nat) : (s.measureRail n).core = s.core := by simp [State.measureRail]
@[simp] theorem State.noteOverdraw_core (n : Nat) : (s.noteOverdraw n).core = s.core := by
  unfold State.noteOverdraw; (repeat' split) <;> simp
@[simp] theorem State.trip_core (d : Nat) : (s.trip d).core = s.core := by
  unfold State.trip; dsimp only; split <;> simp
@[simp] theorem State.measureCurrent_core (n : Nat) : (s.measureCurrent n).core = s.core := by
  unfold State.measureCurrent; dsimp only; (repeat' split) <;> simp
@[simp] theorem State.forwardPacket_core (l : Lane) (p : Packet) : (s.forwardPacket l p).core = s.core := by
  unfold State.forwardPacket; split <;> simp
@[simp] theorem State.packetArrives_core (k : PacketKind) (b : List Byte) : (s.packetArrives k b).core = s.core := by
  unfold State.packetArrives; dsimp only; split <;> simp
@[simp] theorem State.takePacket_core (l : Lane) (b : List Byte) : (s.takePacket l b).core = s.core := by
  unfold State.takePacket; (repeat' split) <;> simp
@[simp] theorem State.restartDoze_core (l : Lane) : (s.restartDoze l).core = s.core := by
  unfold State.restartDoze; split <;> simp
@[simp] theorem State.countSent_core (l : Lane) (k : PacketKind) : (s.countSent l k).core = s.core := by
  unfold State.countSent; dsimp only; (repeat' split) <;> simp
@[simp] theorem State.freeTransmitter_core (l : Lane) : (s.freeTransmitter l).core = s.core := by
  unfold State.freeTransmitter; dsimp only; split <;> simp
@[simp] theorem State.requestRestart_core : s.requestRestart.core = s.core := by
  unfold State.requestRestart; split <;> simp

end Sys2Proof.Machine
end

