-- ==== Sys2Proof/Laws/Bounds.lean ====
section
/-! SUPPORT. Every operation keeps the bounds of the node: the counters at 65,535 and its queues, buffers and levels at the
sizes the spec gives them. -/

namespace Sys2Proof.Machine

/-! ## Counters -/

theorem addAt_bounded {l : List Nat} {m : Nat} (i n : Nat) (h : l.length = m ∧ ∀ v ∈ l, v ≤ 65535) :
    (addAt i n l).length = m ∧ ∀ v ∈ addAt i n l, v ≤ 65535 := by
  refine ⟨by simp [addAt, h.1], fun v hv => ?_⟩
  obtain ⟨j, hj, rfl⟩ := List.mem_iff_getElem.1 hv
  simp only [addAt, List.length_modify] at hj
  simp only [addAt, List.getElem_modify]
  split
  · exact Nat.min_le_right _ _
  · exact h.2 _ (List.getElem_mem _)

theorem Counters.Bounded.add {k : Counters} (c : Counter) (n : Nat) (h : k.Bounded) : (k.add c n).Bounded := by
  cases c
  · exact { h with rail := addAt_bounded _ n h.rail }
  · exact { h with lane := addAt_bounded _ n h.lane }
  · exact { h with picture := addAt_bounded _ n h.picture }
  · exact { h with motion := addAt_bounded _ n h.motion }
  · exact { h with audio := addAt_bounded _ n h.audio }

/-- A group replaced by another of its length and bounds. -/
theorem Counters.Bounded.setGroup {k : Counters} (g : Nat) {l : List Nat} (h : k.Bounded)
    (hl : l.length = (k.group g).length) (hv : ∀ v ∈ l, v ≤ 65535) : (k.setGroup g l).Bounded := by
  unfold Counters.setGroup
  unfold Counters.group at hl
  split_ifs at hl ⊢
  · exact { h with rail := ⟨hl.trans h.rail.1, hv⟩ }
  · exact { h with lane := ⟨hl.trans h.lane.1, hv⟩ }
  · exact { h with picture := ⟨hl.trans h.picture.1, hv⟩ }
  · exact { h with motion := ⟨hl.trans h.motion.1, hv⟩ }
  · exact { h with audio := ⟨hl.trans h.audio.1, hv⟩ }
  · exact h

theorem Counters.Bounded.group {k : Counters} (h : k.Bounded) (g : Nat) : ∀ v ∈ k.group g, v ≤ 65535 := by
  unfold Counters.group
  split_ifs
  · exact h.rail.2
  · exact h.lane.2
  · exact h.picture.2
  · exact h.motion.2
  · exact h.audio.2
  · simp

/-! ## Transmitters (R113, R114) -/

@[simp] theorem LaneEngine.tx_setTx (l : LaneEngine) (lane k : Lane) (t : Transmitter) :
    (l.setTx lane t).tx k = if k = lane then t else l.tx k := by cases lane <;> cases k <;> rfl

@[simp] theorem LaneEngine.tx_setRx (l : LaneEngine) (lane k : Lane) (r : RxState) :
    (l.setRx lane r).tx k = l.tx k := by cases lane <;> cases k <;> rfl

namespace Transmitter.Bounded

variable {r : Role} {t : Transmitter}

/-- A transmitter that holds no packet, or waiting packets that were there before. -/
theorem sub (h : t.Bounded r) {u : Transmitter} (hu : u.waiting.Sublist t.waiting) : u.Bounded r :=
  ⟨h.kinds.sublist hu, fun hr => hu.length_le.trans (h.relay hr)⟩

theorem begin (h : t.Bounded r) (p : Packet) (now : Nat) : (t.begin p now).Bounded r := h.sub (List.Sublist.refl _)

theorem takeNext (h : t.Bounded r) (now : Nat) : (t.takeNext now).Bounded r := by
  unfold Transmitter.takeNext; split
  · exact h.sub (List.Sublist.refl _)
  · exact h.sub List.erase_sublist

theorem order (h : t.Bounded r) (st : TxState) : (t.order st).Bounded r := by
  unfold Transmitter.order; split
  · exact h.sub (List.Sublist.refl _)
  · exact h.sub (List.nil_sublist _)

theorem offer (h : t.Bounded r) (hr : r ≠ .relay) (p : Packet) (now : Nat) : (t.offer p now).Bounded r := by
  unfold Transmitter.offer; split
  · exact h
  · split
    · exact h.begin p now
    · refine ⟨List.pairwise_append.2 ⟨h.kinds.sublist List.filter_sublist, List.pairwise_singleton _ _, ?_⟩,
        fun hk => absurd hk hr⟩
      intro a ha b hb
      rw [List.mem_singleton.1 hb]
      simpa using (List.mem_filter.1 ha).2

theorem forward (h : t.Bounded r) (p : Packet) (now : Nat) : (t.forward p now).Bounded r := by
  unfold Transmitter.forward; split
  · exact h
  · split
    · exact h.begin p now
    · split
      · exact ⟨List.pairwise_singleton _ _, fun _ => le_refl _⟩
      · exact h

end Transmitter.Bounded

namespace State.Bounded

variable {s : State}

/-! ## Updates of one part -/

theorem withPowered (h : s.Bounded) (b : Bool) : State.Bounded { s with powered := b } := { h with }
theorem withClock (h : s.Bounded) (b : Clock) : State.Bounded { s with clock := b } := { h with }
theorem withRoster (h : s.Bounded) (b : Roster) : State.Bounded { s with roster := b } := { h with }
theorem withLoads (h : s.Bounded) (b : Loads) : State.Bounded { s with loads := b } := { h with }
theorem withAgree (h : s.Bounded) (b : Agree) : State.Bounded { s with agree := b } := { h with }
theorem withLanes (h : s.Bounded) {b : LaneEngine} (hb : ∀ l, (b.tx l).Bounded s.role) :
    State.Bounded { s with lanes := b } := { h with waiting := hb }
theorem setTx (h : s.Bounded) (l : Lane) {t : Transmitter} (ht : t.Bounded s.role) :
    State.Bounded { s with lanes := s.lanes.setTx l t } :=
  h.withLanes (fun k => by rw [LaneEngine.tx_setTx]; split <;> [exact ht; exact h.waiting k])
theorem withSliceHeadset (h : s.Bounded) {b : SliceHeadset} (hb : b.Sized)
    (ha : b.anchor = s.sliceHeadset.anchor) : State.Bounded { s with sliceHeadset := b } :=
  { h with slices := hb, anchor := fun hr => ha.trans (h.anchor hr) }
theorem withMotionHeadset (h : s.Bounded) (b : MotionHeadset)
    (hp : b.port = s.motionHeadset.port) (hr : b.reading = s.motionHeadset.reading) :
    State.Bounded { s with motionHeadset := b } :=
  { h with sensor := fun hs => ⟨hp.trans (h.sensor hs).1, hr.trans (h.sensor hs).2⟩ }
/-- At a HEADSET the sensor port is free to change. -/
theorem withSensor (h : s.Bounded) (hs : s.role = .headset) (b : MotionHeadset) : State.Bounded { s with motionHeadset := b } :=
  { h with sensor := fun hn => absurd hs hn }
theorem withHost (h : s.Bounded) (b : HostPort) : State.Bounded { s with host := b } := { h with }
theorem withItems (h : s.Bounded) {b : List Half} (hb : b.length = 31) : State.Bounded { s with items := b } :=
  { h with items := hb }
theorem withFreeCount (h : s.Bounded) (b : Nat) : State.Bounded { s with freeCount := b } := { h with }
theorem withPending (h : s.Bounded) (b : List Instr) : State.Bounded { s with pending := b } := { h with }
theorem withRail (h : s.Bounded) {b : Rail} (hb : b.size ≤ 8) : State.Bounded { s with rail := b } :=
  { h with railQueue := hb }
theorem withPower (h : s.Bounded) {b : Power} (hb : b.droop ≤ 4) : State.Bounded { s with power := b } :=
  { h with droop := hb }
theorem withRemote (h : s.Bounded) {b : Remote} (hb : b.stale ≤ 65535) : State.Bounded { s with remote := b } :=
  { h with stale := hb }
theorem keepPower (h : s.Bounded) {b : Power} (hb : b.droop = s.power.droop) :
    State.Bounded { s with power := b } := h.withPower (hb ▸ h.droop)
theorem keepRemote (h : s.Bounded) {b : Remote} (hb : b.stale = s.remote.stale) :
    State.Bounded { s with remote := b } := h.withRemote (hb ▸ h.stale)
theorem withSliceSource (h : s.Bounded) {b : SliceSource} (hq : b.sendQueue.length ≤ 4) (hf : b.frames.length ≤ 4) :
    State.Bounded { s with sliceSource := b } := { h with sendQueue := hq, frames := hf }
theorem withMotionSource (h : s.Bounded) {b : MotionSource} (hb : b.queue.length ≤ 64) :
    State.Bounded { s with motionSource := b } := { h with motion := hb }
theorem withAudioHeadset (h : s.Bounded) {b : AudioHeadset} (hb : b.frameCount ≤ 480) :
    State.Bounded { s with audioHeadset := b } := { h with playback := hb }
theorem withAudioSource (h : s.Bounded) {b : AudioSource} (hb : b.MicSound) :
    State.Bounded { s with audioSource := b } := { h with mic := hb }
theorem withCounters (h : s.Bounded) {b : Counters} (hb : b.Bounded) : State.Bounded { s with counters := b } :=
  { h with counters := hb }

theorem raise (h : s.Bounded) (f : Flag) : (s.raise f).Bounded := h.withHost _
theorem count (h : s.Bounded) (c : Counter) (n : Nat) : (s.count c n).Bounded := h.withCounters (h.counters.add c n)
theorem bump (h : s.Bounded) (c : Counter) : (s.bump c).Bounded := h.count c 1
theorem withReply (h : s.Bounded) (st : Status) (b : List Byte) : (s.withReply st b).Bounded := h.withHost _
theorem advance (h : s.Bounded) (n : Nat) : (s.advance n).Bounded := h.withClock _
theorem advanceTo (h : s.Bounded) (n : Nat) : (s.advanceTo n).Bounded := h.advance _
theorem advanceToTether (h : s.Bounded) (n : Nat) : (s.advanceToTether n).Bounded := h.advance _
theorem mapSelf (h : s.Bounded) (f : Entry → Entry) : (s.mapSelf f).Bounded := h.withRoster _
theorem setPeers (h : s.Bounded) (l : List Entry) : (s.setPeers l).Bounded := h.withRoster _
theorem setRound (h : s.Bounded) (r : Half) : (s.setRound r).Bounded := { h with }
theorem setSupplier (h : s.Bounded) (st : SupplierState) : (s.setSupplier st).Bounded := h.withPower h.droop
theorem setItem (h : s.Bounded) (n v : Nat) : (s.setItem n v).Bounded :=
  h.withItems (by simp [h.items])
theorem setSlot (h : s.Bounded) (k : Nat) (x : Slot) : (s.setSlot k x).Bounded :=
  h.withSliceHeadset { h.slices with slots := by simp [SliceHeadset.setSlot, h.slices.slots] } (by rfl)
theorem showAt (h : s.Bounded) (k : Nat) (b : Option (List Byte)) : (s.show k b).Bounded :=
  h.withSliceHeadset { h.slices with panel := by simp [h.slices.panel] } (by rfl)
theorem markNotFresh (h : s.Bounded) : s.markNotFresh.Bounded := h.withSliceHeadset { h.slices with } (by rfl)
theorem answerSlice (h : s.Bounded) (c : Byte) : (s.answerSlice c).Bounded := h.withSliceSource h.sendQueue h.frames
theorem setSubmission (h : s.Bounded) (o : Option Submission) : (s.setSubmission o).Bounded :=
  h.withSliceSource h.sendQueue h.frames
theorem setRx (h : s.Bounded) (r : Receiver) : (s.setRx r).Bounded := h.withRail h.railQueue
theorem setReceiver (h : s.Bounded) (l : Lane) (r : RxState) : (s.setReceiver l r).Bounded :=
  h.withLanes (fun k => by rw [LaneEngine.tx_setRx]; exact h.waiting k)
theorem offerPacket (h : s.Bounded) (hr : s.role ≠ .relay) (l : Lane) (p : Packet) : (s.offerPacket l p).Bounded :=
  h.setTx l ((h.waiting l).offer hr p _)
theorem orderLanes (h : s.Bounded) : s.orderLanes.Bounded := by
  refine h.withLanes (fun k => ?_)
  cases k
  · exact iteInduction (motive := fun t : Transmitter => t.Bounded s.role) (fun _ => (h.waiting .down).order _) (fun _ => h.waiting .down)
  · exact iteInduction (motive := fun t : Transmitter => t.Bounded s.role) (fun _ => (h.waiting .up).order _) (fun _ => h.waiting .up)
theorem startSensorWrite (h : s.Bounded) (hs : s.role = .headset) : s.startSensorWrite.Bounded := h.withSensor hs _
theorem setRestartPending (h : s.Bounded) : s.setRestartPending.Bounded := h.withRemote h.stale
theorem carrierChange (h : s.Bounded) (b : Bool) : (s.carrierChange b).Bounded := h.withRail h.railQueue
theorem judgeClear (h : s.Bounded) (b : Bool) : (s.judgeClear b).Bounded := h.withPower h.droop
theorem syncHead (h : s.Bounded) : s.syncHead.Bounded := h.withRail h.railQueue
theorem stopSending (h : s.Bounded) : s.stopSending.Bounded :=
  h.withRail (by have := h.railQueue; simp only [Rail.size] at *; simp; omega)

/-! ## Ends of requests and the transmit queue -/

theorem endRemote (h : s.Bounded) (r : RemoteState) : (s.endRemote r).Bounded := (h.keepRemote (by rfl)).raise _
theorem askGivenUp (h : s.Bounded) : s.askGivenUp.Bounded := by
  unfold State.askGivenUp; split
  · exact h.endRemote _
  · exact h
theorem tellDiscarded (h : s.Bounded) (e : QEntry) : (s.tellDiscarded e).Bounded := by
  unfold State.tellDiscarded; split
  · exact h.askGivenUp
  · exact h

end State.Bounded

theorem insertLast_length (e : QEntry) (q : List QEntry) : (insertLast e q).length = q.length + 1 := by
  induction q with
  | nil => rfl
  | cons x rest ih => unfold insertLast; split <;> simp [ih]

theorem insertFirst_length (e : QEntry) (q : List QEntry) : (insertFirst e q).length = q.length + 1 := by
  induction q with
  | nil => rfl
  | cons x rest ih => unfold insertFirst; split <;> simp [ih]

theorem replaceContent_length (k : BurstKind) (p : List Byte) (q : List QEntry) :
    (replaceContent k p q).length = q.length := by
  induction q with
  | nil => rfl
  | cons x rest ih => unfold replaceContent; split <;> simp [ih]

/-- The entry chosen to make room stands in the queue. -/
theorem newestPeriodic_mem {q : List QEntry} {e : QEntry} (h : newestPeriodic q = some e) : e ∈ q := by
  have key : ∀ (l : List QEntry) (best : Option QEntry), (∀ b, best = some b → b ∈ q) → (∀ x ∈ l, x ∈ q) →
      ∀ b, l.foldl (fun best e =>
        if e.kind = .beacon ∨ e.kind = .motion then
          match best with
          | none => some e
          | some b => if b.id < e.id then some e else some b
        else best) best = some b → b ∈ q := by
    intro l
    induction l with
    | nil => intro best hb _ b hbb; exact hb b hbb
    | cons x rest ih =>
      intro best hb hl b hbb
      refine ih _ ?_ (fun y hy => hl y (List.mem_cons_of_mem _ hy)) b hbb
      intro c hc
      simp only at hc
      split at hc
      · cases best with
        | none => simp only [Option.some.injEq] at hc; exact hc ▸ hl x (List.mem_cons_self ..)
        | some b0 =>
          simp only at hc
          split at hc
          · simp only [Option.some.injEq] at hc; exact hc ▸ hl x (List.mem_cons_self ..)
          · exact hb c hc
      · exact hb c hc
  exact key q none (by simp) (fun _ hx => hx) e h

theorem filter_id_length {q : List QEntry} {e : QEntry} (h : e ∈ q) :
    (q.filter (fun x => x.id != e.id)).length < q.length :=
  List.length_filter_lt_length_iff_exists.2 ⟨e, h, by simp⟩

namespace State.Bounded

variable {s : State}

theorem addEntry (h : s.Bounded) (hs : s.rail.size < 8) (k : BurstKind) (p : List Byte) : (s.addEntry k p).Bounded :=
  syncHead (h.withRail (by simp only [Rail.size, insertLast_length] at *; omega))

theorem offerBurst (h : s.Bounded) (k : BurstKind) (p : List Byte) : (s.offerBurst k p).Bounded := by
  unfold State.offerBurst
  split
  · exact h
  · split
    · exact h.withRail (by have := h.railQueue; simp only [Rail.size, replaceContent_length] at *; omega)
    · split
      · next hs => exact h.addEntry hs k p
      · split
        · next e he =>
          have hl := filter_id_length (newestPeriodic_mem he)
          have hq := h.railQueue
          have hs8 : (State.rail { s with rail := { s.rail with
              queue := s.rail.queue.filter (fun x => x.id != e.id) } }).size < 8 := by
            simp only [Rail.size] at *; omega
          exact addEntry (h.withRail (by simp only [Rail.size] at *; omega)) hs8 k p
        · split
          · exact (h.bump _).askGivenUp
          · exact h.bump _

theorem offerNotice (h : s.Bounded) (k : Byte) (d : Nat) : (s.offerNotice k d).Bounded := h.offerBurst _ _

/-! ## Lanes and loads -/

theorem feedSlice (h : s.Bounded) (hr : s.role ≠ .relay) : s.feedSlice.Bounded := by
  unfold State.feedSlice; (repeat' split) <;> first | exact h | exact h.offerPacket hr _ _
theorem feedSlices (h : s.Bounded) (hr : s.role ≠ .relay) : s.feedSlices.Bounded :=
  (h.feedSlice hr).feedSlice (role_of_core s.feedSlice_core ▸ hr)
theorem motionLevelChanged (h : s.Bounded) (hs : s.role = .headset) : s.motionLevelChanged.Bounded := by
  unfold State.motionLevelChanged; split
  · exact h.withMotionHeadset _ (by rfl) (by rfl)
  · exact h.startSensorWrite hs
theorem handLevels (h : s.Bounded) (l : Levels) : (s.handLevels l).Bounded := by
  unfold State.handLevels; split
  · next hc => exact h.motionLevelChanged hc.1
  · exact h
theorem plan (h : s.Bounded) : s.plan.Bounded := by
  unfold State.plan; split
  · exact (h.withLoads _).handLevels _
  · exact h
theorem syncAudioPower (h : s.Bounded) : s.syncAudioPower.Bounded := by
  unfold State.syncAudioPower
  split
  · split
    · split
      · exact h
      · exact h.withAudioHeadset (by simp [AudioHeadset.frameCount])
    · split
      · exact h.withAudioHeadset h.playback
      · exact h
  · exact h

/-! ## Agreement -/

theorem tellDataBlocks (h : s.Bounded) (b : Bool) : (s.tellDataBlocks b).Bounded := by
  unfold State.tellDataBlocks State.dataBlocksLeave State.dataBlocksEnter
  (repeat' split) <;> first
    | exact h
    | exact h.withMotionHeadset _ (by rfl) (by rfl)
    | exact h.withSliceSource (by simp) h.frames
theorem changeAgree (h : s.Bounded) (st : AgreeState) (g : Option Grade) (r : Reason) :
    (s.changeAgree st g r).Bounded := ((((h.withAgree _).orderLanes).mapSelf _).plan).tellDataBlocks _
theorem halt (h : s.Bounded) (r : Reason) : (s.halt r).Bounded := h.changeAgree _ _ _
theorem enterSettle (h : s.Bounded) (r : Reason) : (s.enterSettle r).Bounded := h.changeAgree _ _ _
theorem openRound (h : s.Bounded) (r : Reason) : (s.openRound r).Bounded := by
  unfold State.openRound; split
  · exact h.halt _
  · split
    · exact h.halt _
    · exact (h.setRound _).enterSettle _
theorem pathChanged (h : s.Bounded) : s.pathChanged.Bounded := by
  unfold State.pathChanged; split <;> first | exact h.openRound _ | exact h
theorem ownSetChanged (h : s.Bounded) : s.ownSetChanged.Bounded := by
  unfold State.ownSetChanged; (repeat' split) <;> first | exact h.openRound _ | exact h.halt _ | exact h
theorem writeModeSet (h : s.Bounded) (l : List Grade) (c : Grade) : (s.writeModeSet l c).Bounded :=
  (h.keepPower (by rfl)).mapSelf _
theorem handModeSet (h : s.Bounded) (q : Bool) (l : List Grade) (c : Grade) : (s.handModeSet q l c).Bounded := by
  unfold State.handModeSet; split
  · exact h.writeModeSet _ _
  · exact (h.writeModeSet _ _).ownSetChanged
theorem enterTraining (h : s.Bounded) : s.enterTraining.Bounded := h.changeAgree _ _ _
theorem setAnchor (h : s.Bounded) : s.setAnchor.Bounded := by
  unfold State.setAnchor; split
  · next hc =>
    exact State.Bounded.mapSelf (s := { s with sliceHeadset := { s.sliceHeadset with
        anchor := some (s.clock.tether + 2 * framePeriod s.straps.refresh120), frame := 0, index := 0, notFresh := 0 } })
      { h with slices := { h.slices with index := Nat.zero_le _ }, anchor := fun hn => absurd hc.1 hn } _
  · exact h
theorem enterRunning (h : s.Bounded) : s.enterRunning.Bounded := by
  unfold State.enterRunning; dsimp only; split
  · exact ((h.withAgree _).changeAgree _ _ _).setAnchor
  · exact (((h.raise _).withAgree _).changeAgree _ _ _).setAnchor

/-! ## Power -/

theorem announceOffer (h : s.Bounded) : s.announceOffer.Bounded := by
  unfold State.announceOffer; split
  · exact (h.keepPower (by rfl)).offerBurst _ _
  · exact h
theorem announceClaim (h : s.Bounded) : s.announceClaim.Bounded := by
  unfold State.announceClaim; split
  · exact (h.keepPower (by rfl)).offerBurst _ _
  · exact h
theorem runAllowances (h : s.Bounded) : s.runAllowances.Bounded := by
  unfold State.runAllowances; dsimp only; (repeat' split) <;> first
    | exact h
    | exact h.keepPower (by rfl)
    | exact (h.keepPower (by rfl)).raise _
theorem handIfChanged (h : s.Bounded) (q : Bool) (l : List Grade) (c : Grade) : (s.handIfChanged q l c).Bounded := by
  unfold State.handIfChanged; split <;> first | exact h | exact h.handModeSet _ _ _
theorem handCap (h : s.Bounded) (c : Nat) : (s.handCap c).Bounded := by
  unfold State.handCap; split
  · exact h
  · exact (h.withLoads _).plan
theorem formModeSet (h : s.Bounded) (q : Bool) : (s.formModeSet q).Bounded := by
  unfold State.formModeSet; dsimp only; split
  · exact h.handIfChanged _ _ _
  · exact h
  · exact (h.keepPower (by rfl)).handIfChanged _ _ _
theorem formCap (h : s.Bounded) : s.formCap.Bounded := by
  unfold State.formCap; split
  · exact (h.handCap _).syncAudioPower
  · exact h
theorem reform (h : s.Bounded) : s.reform.Bounded := (h.formModeSet _).formCap
theorem checkSupply (h : s.Bounded) : s.checkSupply.Bounded := by
  unfold State.checkSupply; (repeat' split) <;> first | exact h | exact h.keepPower (by rfl)
theorem powerTold (h : s.Bounded) : s.powerTold.Bounded := h.checkSupply.runAllowances.reform
theorem settleOffer (h : s.Bounded) : s.settleOffer.Bounded := by
  unfold State.settleOffer; split
  · exact h
  · exact ((h.mapSelf _).announceOffer).powerTold
theorem settleClaimList (h : s.Bounded) : s.settleClaimList.Bounded := by
  unfold State.settleClaimList; split
  · exact h
  · exact ((h.mapSelf _).announceClaim).checkSupply.runAllowances
theorem settleClaim (h : s.Bounded) : s.settleClaim.Bounded := h.settleClaimList.reform
theorem endTripHold (h : s.Bounded) : s.endTripHold.Bounded :=
  ((h.keepPower (by rfl)).setSupplier _).settleOffer
theorem closeSwitch (h : s.Bounded) : s.closeSwitch.Bounded :=
  ((h.keepPower (by rfl)).setSupplier _).settleOffer
theorem openSwitch (h : s.Bounded) (b : Bool) : (s.openSwitch b).Bounded :=
  ((h.keepPower (by rfl)).setSupplier _).settleOffer
theorem beginTrip (h : s.Bounded) (d : Nat) (b : Bool) : (s.beginTrip d b).Bounded :=
  ((h.keepPower (by rfl)).offerNotice _ _).raise _
theorem raiseDroop (h : s.Bounded) : State.Bounded { s with power := s.power.raiseDroop } :=
  h.withPower (Nat.min_le_right _ _)

/-! ## Rounds -/

theorem failRound (h : s.Bounded) (r : Reason) : (s.failRound r).Bounded := ((h.formModeSet _).openRound _).formCap
theorem setBaseForced (h : s.Bounded) : s.setBaseForced.Bounded := (h.withAgree _).raise _
theorem confirmFailure (h : s.Bounded) : s.confirmFailure.Bounded := by
  unfold State.confirmFailure; split
  · exact h.setBaseForced.failRound _
  · exact (h.withAgree _).openRound _
theorem lowerCeiling (h : s.Bounded) : s.lowerCeiling.Bounded := by
  unfold State.lowerCeiling; (repeat' split) <;> first | exact h | exact (h.withAgree _).settleClaimList
theorem trainingFailure (h : s.Bounded) : s.trainingFailure.Bounded := by
  unfold State.trainingFailure; dsimp only; split
  · exact ((((h.bump _).raise _).withAgree _).lowerCeiling).failRound _
  · exact ((((h.bump _).raise _).withAgree _)).failRound _
theorem judgeConfirms (h : s.Bounded) : s.judgeConfirms.Bounded := by
  unfold State.judgeConfirms; dsimp only
  (repeat' split) <;> first | exact h.confirmFailure | exact h.enterTraining | exact h
theorem enterConfirming (h : s.Bounded) (g : Grade) : (s.enterConfirming g).Bounded :=
  (((h.changeAgree _ _ _).mapSelf _).offerBurst _ _).judgeConfirms
theorem choose (h : s.Bounded) : s.choose.Bounded := by
  unfold State.choose; (repeat' split) <;> first | exact h.halt _ | exact h.enterConfirming _
theorem writeRound (h : s.Bounded) : s.writeRound.Bounded := h.mapSelf _
theorem noteListened (h : s.Bounded) : s.noteListened.Bounded := h.withAgree _
theorem startListen (h : s.Bounded) : s.startListen.Bounded :=
  ((h.noteListened.changeAgree _ _ _).writeRound).offerBurst _ _
theorem enterListen (h : s.Bounded) : s.enterListen.Bounded := by
  unfold State.enterListen; split
  · exact h.startListen.choose
  · exact h.startListen
theorem takeStepDue (h : s.Bounded) : s.takeStepDue.Bounded := by
  unfold State.takeStepDue
  (repeat' split) <;> first | exact h | exact h.enterListen | exact h.choose | exact h.confirmFailure
theorem endBaseForced (h : s.Bounded) : s.endBaseForced.Bounded := by
  unfold State.endBaseForced; dsimp only; split
  · exact (h.withAgree _).reform
  · exact h.takeStepDue
theorem adopt (h : s.Bounded) (r : Half) : (s.adopt r).Bounded := by
  unfold State.adopt; dsimp only; split
  · exact h.setRound _
  · split
    · exact (h.setRound _).halt _
    · exact (h.setRound _).enterSettle _
theorem roundHeard (h : s.Bounded) (b : Bool) (r : Half) : (s.roundHeard b r).Bounded := by
  unfold State.roundHeard
  (repeat' split) <;> first | exact h | exact h.adopt _ | exact h.choose | exact h.judgeConfirms
theorem receiverReported (h : s.Bounded) : s.receiverReported.Bounded := by
  unfold State.receiverReported; (repeat' split) <;> first | exact h.enterRunning | exact h.openRound _ | exact h

/-! ## Picture -/

theorem syncSchedule (h : s.Bounded) : s.syncSchedule.Bounded := by
  unfold State.syncSchedule; dsimp only
  (repeat' split) <;> first | exact h | exact h.withSliceSource h.sendQueue h.frames
theorem refuseSlice (h : s.Bounded) (b : Byte) (c : Counter) : (s.refuseSlice b c).Bounded := (h.answerSlice _).bump _
theorem acceptSlice (h : s.Bounded) (hr : s.role ≠ .relay) (hq : s.sliceSource.sendQueue.length < 4) (a : Anchor) (n k : Nat) (b : List Byte) :
    (s.acceptSlice a n k b).Bounded := by
  unfold State.acceptSlice; dsimp only
  have h1 := fun x t => h.withSliceSource (b := { s.sliceSource with
    sendQueue := s.sliceSource.sendQueue ++ [⟨BitVec.ofNat 16 n, k, t, b⟩], submission := x, answer := answerAccepted })
    (by simp; omega) h.frames
  split
  · exact ((h1 _ _).bump _).feedSlices hr
  · exact (h1 _ _).feedSlices hr
theorem judgeSlice (h : s.Bounded) (hr : s.role ≠ .relay) (a : Anchor) (g : Grade) (k : Nat) (b : List Byte) : (s.judgeSlice a g k b).Bounded := by
  unfold State.judgeSlice
  split
  · exact h.refuseSlice _ _
  · split
    · exact h.refuseSlice _ _
    · exact h.acceptSlice hr (by omega) _ _ _ _
theorem submitSlice (h : s.Bounded) (hr : s.role ≠ .relay) (st : Bool) (k : Nat) (b : List Byte) : (s.submitSlice st k b).Bounded := by
  unfold State.submitSlice; split
  · split
    · have h1 : State.Bounded (if st = true ∧ k = 0 then s.setSubmission none else s) := by
        split
        · exact h.setSubmission _
        · exact h
      have hr1 : (if st = true ∧ k = 0 then s.setSubmission none else s).role ≠ .relay := by split <;> exact hr
      dsimp only
      generalize (if st = true ∧ k = 0 then s.setSubmission none else s) = u at h1 hr1 ⊢
      split
      · exact h1.judgeSlice hr1 _ _ _ _
      · exact (h1.setSubmission _).refuseSlice _ _
    · exact h.refuseSlice _ _
  · exact h.refuseSlice _ _
theorem sliceArrives (h : s.Bounded) (f : Half) (k pt : Nat) (b : List Byte) : (s.sliceArrives f k pt b).Bounded := by
  unfold State.sliceArrives; dsimp only
  (repeat' split) <;> first | exact h.bump _ | exact (h.setSlot _ _).bump _ | exact h.setSlot _ _
theorem freePassedOver (h : s.Bounded) (n : Half) (k : Nat) : (s.freePassedOver n k).Bounded := by
  unfold State.freePassedOver; dsimp only
  (repeat' split) <;> first | exact h | exact (h.setSlot _ _).bump _
theorem showAgain (h : s.Bounded) (n : Half) (k t : Nat) : (s.showAgain n k t).Bounded := by
  unfold State.showAgain; dsimp only
  (repeat' split) <;> first
    | exact ((((h.setSlot _ _).showAt _ _).markNotFresh).bump _)
    | exact (((h.setSlot _ _).showAt _ _).markNotFresh)
    | exact (h.showAt _ _).markNotFresh
theorem showIndex (h : s.Bounded) (n : Half) (k t : Nat) : (s.showIndex n k t).Bounded := by
  unfold State.showIndex; dsimp only
  (repeat' split) <;> first | exact ((h.setSlot _ _).showAt _ _).bump _ | exact h.showAgain _ _ _
theorem makeFrameShown (h : s.Bounded) (hr : s.role ≠ .relay) (n t r : Nat) : (s.makeFrameShown n t r).Bounded := by
  unfold State.makeFrameShown; split <;> first | exact h.offerPacket hr _ _ | exact h.bump _
theorem nextScan (h : s.Bounded) (hr : s.role ≠ .relay) (a n : Nat) {k : Nat} (hk : k ≤ 11) : (s.nextScan a n k).Bounded := by
  unfold State.nextScan; dsimp only; split
  · have h1 := h.makeFrameShown hr n (scanTime a s.straps.refresh120 n 0) s.sliceHeadset.notFresh
    exact h1.withSliceHeadset { h1.slices with index := Nat.zero_le _ } (by rfl)
  · exact h.withSliceHeadset { h.slices with index := by dsimp only; omega } (by rfl)
theorem scanIndex (h : s.Bounded) (hr : s.role ≠ .relay) (a : Nat) : (s.scanIndex a).Bounded :=
  ((h.freePassedOver _ _).showIndex _ _ _).nextScan
    (by rw [role_of_core ((State.showIndex_core _ _ _ _).trans (s.freePassedOver_core _ _))]; exact hr) _ _ h.slices.index
/-- Only a HEADSET has an anchor to scan by. -/
theorem headset_of_anchor (h : s.Bounded) {a : Nat} (ha : s.sliceHeadset.anchor = some a) : s.role = .headset := by
  by_contra hn; simp [h.anchor hn] at ha
theorem scanStep (h : s.Bounded) (hr : s.role ≠ .relay) (n : Nat) : (s.scanStep n).Bounded := by
  unfold State.scanStep; dsimp only
  (repeat' split) <;> first | exact h | exact h.scanIndex hr _ | exact (h.count _ _).withSliceHeadset { h.slices with index := Nat.zero_le _ } (by rfl)
theorem frameShownArrives (h : s.Bounded) (r : FrameShown) : (s.frameShownArrives r).Bounded := by
  refine h.withSliceSource h.sendQueue ?_
  have := h.frames
  dsimp only
  split
  · simp; omega
  · omega

/-! ## Motion -/

theorem noteRange (h : s.Bounded) (r : MotionRecord) : (s.noteRange r).Bounded := by
  unfold State.noteRange; split
  · exact (h.bump _).raise _
  · exact h
theorem countReplaced (h : s.Bounded) (l : Lane) (k : PacketKind) (c : Counter) : (s.countReplaced l k c).Bounded := by
  unfold State.countReplaced; split
  · exact h.bump _
  · exact h
/-- A block's packet offered in the place of one it counts as replaced. -/
theorem offerCounted (h : s.Bounded) (hr : s.role ≠ .relay) (l : Lane) (k : PacketKind) (c : Counter) (p : Packet) :
    ((s.countReplaced l k c).offerPacket l p).Bounded :=
  (h.countReplaced l k c).offerPacket (by rw [role_of_core (s.countReplaced_core l k c)]; exact hr) l p
theorem carryRecord (h : s.Bounded) (hs : s.role = .headset) (r : MotionRecord) : (s.carryRecord r).Bounded := by
  unfold State.carryRecord; dsimp only; split
  · exact (h.withMotionHeadset _ (by rfl) (by rfl)).offerCounted (fun hk => by rw [show s.role = Role.relay from hk] at hs; cases hs) _ _ _ _
  · exact (h.withMotionHeadset _ (by rfl) (by rfl)).bump _
theorem endRead (h : s.Bounded) (hs : s.role = .headset) : s.endRead.Bounded := by
  unfold State.endRead; dsimp only; split
  · exact (h.withSensor hs _).startSensorWrite hs
  · exact h.withSensor hs _
/-- Only a HEADSET reads the sensor. -/
theorem headset_of_reading (h : s.Bounded) {r : SensorRead} (hr : s.motionHeadset.reading = some r) : s.role = .headset := by
  by_contra hn; simp [(h.sensor hn).2] at hr
theorem completeRead (h : s.Bounded) (hs : s.role = .headset) (r : SensorRead) (a : Axes) : (s.completeRead r a).Bounded := by
  unfold State.completeRead; dsimp only
  generalize s.sampleRecord r a = z
  refine endRead (bump (carryRecord (h.noteRange z) ?_ z) _) ?_
  · exact (role_of_core (s.noteRange_core z)).trans hs
  · exact (role_of_core (t := State.bump cSamples _) ((State.bump_core _ _).trans
      ((State.carryRecord_core _ z).trans (s.noteRange_core z)))).trans hs
theorem queueRecord (h : s.Bounded) (r : MotionRecord) : (s.queueRecord r).Bounded := by
  unfold State.queueRecord; dsimp only
  have := h.motion
  split
  · exact ((h.withMotionSource (by simp; omega)).bump _).raise _
  · exact h.withMotionSource (by simp; omega)
theorem emptyMotionQueue (h : s.Bounded) : s.emptyMotionQueue.Bounded := by
  unfold State.emptyMotionQueue; dsimp only; split
  · exact h.withMotionSource (by simp)
  · exact ((h.withMotionSource (by simp)).count _ _).raise _
theorem recordArrives (h : s.Bounded) (r : MotionRecord) : (s.recordArrives r).Bounded := by
  unfold State.recordArrives
  (repeat' split) <;> first | exact h.queueRecord _ | exact h.emptyMotionQueue.queueRecord _ | exact h.bump _
theorem offerFallback (h : s.Bounded) : s.offerFallback.Bounded := by
  unfold State.offerFallback
  (repeat' split) <;> first | exact h | exact ((h.withMotionHeadset _ (by rfl) (by rfl)).bump _).offerBurst _ _

/-! ## What an item's new value does -/

theorem enableRail (h : s.Bounded) : s.enableRail.Bounded := by
  unfold State.enableRail; dsimp only
  have h1 : State.Bounded { s with power := { s.power with tripHistory := [] } } := h.keepPower (by rfl)
  (repeat' split) <;> first | exact h1.closeSwitch | exact h1 | exact h1.keepPower (by rfl)
theorem disableRail (h : s.Bounded) : s.disableRail.Bounded := by
  unfold State.disableRail
  (repeat' split) <;> first
    | exact h
    | exact (h.beginTrip _ _).raise _
    | exact (h.keepPower (by rfl)).raise _
    | exact (h.openSwitch _).raise _
theorem itemWritten (h : s.Bounded) (n : Nat) : (s.itemWritten n).Bounded := by
  unfold State.itemWritten
  (repeat' split) <;> first
    | exact h.settleOffer | exact (h.withAgree _).settleClaim | exact h.settleClaim.plan | exact h.plan | exact h.reform
    | exact h
theorem applyItem (h : s.Bounded) (n v : Nat) : (s.applyItem n v).Bounded := by
  unfold State.applyItem
  (repeat' split) <;> first | exact h.disableRail | exact h.enableRail | exact (h.setItem _ _).itemWritten _
theorem writeItem (h : s.Bounded) (n : Nat) (v : Half) : (s.writeItem n v).state.Bounded := by
  unfold State.writeItem; dsimp only
  (repeat' split) <;> first | exact h | exact h.applyItem _ _

/-! ## Audio -/

theorem closePlayBlock (h : s.Bounded) (hr : s.role ≠ .relay) (l : List (Half × Half)) : (s.closePlayBlock l).Bounded := by
  unfold State.closePlayBlock; dsimp only
  have h1 : State.Bounded { s with audioSource := { s.audioSource with
      builder := [], sequence := s.audioSource.sequence + 1 } } :=
    h.withAudioSource ⟨h.mic.count, h.mic.filled, h.mic.whole⟩
  split
  · exact h1.offerCounted hr _ _ _ _
  · exact h1.bump _
theorem mapAudio (h : s.Bounded) {f : AudioHeadset → AudioHeadset} (hf : (f s.audioHeadset).frameCount ≤ 480) :
    (s.mapAudio f).Bounded := h.withAudioHeadset hf
/-- An update that leaves the playback queue. -/
theorem mapAudioSame (h : s.Bounded) {f : AudioHeadset → AudioHeadset}
    (hf : (f s.audioHeadset).queue = s.audioHeadset.queue) : (s.mapAudio f).Bounded :=
  h.mapAudio (by have := h.playback; simp only [AudioHeadset.frameCount] at *; rw [hf]; exact this)
theorem sendFrame (h : s.Bounded) (f : Half × Half) : (s.sendFrame f).Bounded := h.mapAudioSame (by rfl)
theorem enterPlaying (h : s.Bounded) : s.enterPlaying.Bounded := h.mapAudioSame (by rfl)
theorem startIfDue (h : s.Bounded) : s.startIfDue.Bounded := by
  unfold State.startIfDue; (repeat' split) <;> first | exact h | exact h.enterPlaying

end State.Bounded

/-- The late blocks removed at the head leave no more frames than stood there. -/
theorem dropLate_frames (t : Nat) (q : List PlayBlock) :
    (((dropLate t q).2).map (fun b => b.frames.length)).sum ≤ (q.map (fun b => b.frames.length)).sum := by
  induction q with
  | nil => simp [dropLate]
  | cons b rest ih =>
    unfold dropLate
    split
    · simp only [List.map_cons, List.sum_cons]; omega
    · exact le_refl _

namespace State.Bounded

variable {s : State}

theorem judgeHead (h : s.Bounded) : s.judgeHead.Bounded := by
  unfold State.judgeHead; dsimp only
  refine startIfDue ?_
  split
  · exact h
  · exact (h.mapAudio (le_trans (dropLate_frames _ _) h.playback)).count _ _
theorem audioArrives (h : s.Bounded) (q : Half) (t : Nat) (l : List (Half × Half)) (hl : l.length = 48) :
    (s.audioArrives q t l).Bounded := by
  unfold State.audioArrives; dsimp only
  split
  · exact h.bump _
  · split
    · exact h.bump _
    · next hc =>
      have h1 : (s.mapAudio (fun a => { a with
          queue := a.queue ++ fillBlocks t (fillCount s.audioHeadset q) ++ [⟨some q, t, l⟩], lastSeq := some q })).Bounded := by
        refine h.mapAudio ?_
        have hf : ((fillBlocks t (fillCount s.audioHeadset q)).map (fun b => b.frames.length)).sum
            = 48 * fillCount s.audioHeadset q := by
          simp [fillBlocks, Function.comp_def, Nat.mul_comm]
        simp only [AudioHeadset.frameCount, List.map_append, List.sum_append, hf, List.map_cons, List.map_nil,
          List.sum_cons, List.sum_nil, hl] at hc ⊢
        omega
      split
      · exact (h1.bump _).judgeHead
      · exact h1.bump _
theorem drawFrame (h : s.Bounded) : s.drawFrame.2.Bounded := h.withFreeCount _
theorem keepLastFrame (h : s.Bounded) : s.keepLastFrame.Bounded := by
  unfold State.keepLastFrame; split
  · exact h
  · exact h.drawFrame.mapAudioSame (by rfl)
theorem enterRamping (h : s.Bounded) : s.enterRamping.Bounded :=
  ((((h.bump _).raise _).keepLastFrame).drawFrame.mapAudioSame (by rfl)).sendFrame _
theorem removeHeadFrame (h : s.Bounded) : s.removeHeadFrame.Bounded := by
  have hp := h.playback
  unfold State.removeHeadFrame
  split
  · exact h
  · next b rest hq =>
    simp only [AudioHeadset.frameCount, hq, List.map_cons, List.sum_cons] at hp
    split
    · exact (h.mapAudio (by simp only [AudioHeadset.frameCount]; omega)).judgeHead
    · exact (h.mapAudio (by simp only [AudioHeadset.frameCount]; omega)).judgeHead
    · next f fs hf =>
      rw [hf] at hp
      exact h.mapAudio (by simp only [AudioHeadset.frameCount, List.map_cons, List.sum_cons, List.length_cons] at *; omega)
theorem playFrame (h : s.Bounded) (f : Half × Half) : (s.playFrame f).Bounded := by
  unfold State.playFrame; dsimp only
  have h1 : ((s.sendFrame (s.outputFrame f)).mapAudio (fun a => { a with lastFrame := some f })).Bounded :=
    (h.sendFrame _).mapAudioSame (by rfl)
  split
  · exact h1.mapAudioSame (by rfl)
  · exact h1.removeHeadFrame
theorem rampPeriod (h : s.Bounded) (n : Nat) : (s.rampPeriod n).Bounded := by
  unfold State.rampPeriod; dsimp only; split
  · exact ((h.sendFrame _).mapAudioSame (by rfl)).judgeHead
  · exact (h.sendFrame _).mapAudioSame (by rfl)
theorem outputPeriod (h : s.Bounded) : s.outputPeriod.Bounded := by
  unfold State.outputPeriod; split
  · exact h.sendFrame _
  · exact h.rampPeriod _
  · split
    · exact h.playFrame _
    · exact h.enterRamping
theorem slip (h : s.Bounded) : s.slip.Bounded := by
  unfold State.slip; split
  · exact h
  · split
    · exact (h.mapAudioSame (by rfl)).bump _
    · split
      · exact ((h.mapAudioSame (by rfl)).bump _).removeHeadFrame
      · exact h
theorem audioStep (h : s.Bounded) : s.audioStep.Bounded := by
  have hp := h.playback
  unfold State.audioStep; split
  · exact h.judgeHead
  · next b rest _ hq =>
    simp only [AudioHeadset.frameCount, hq, List.map_cons, List.sum_cons] at hp
    split
    · exact ((h.mapAudio (by simp only [AudioHeadset.frameCount]; omega)).bump _).judgeHead
    · exact h
  · exact h
theorem closeMicBlock (h : s.Bounded) (hr : s.role ≠ .relay) (t : Nat) (l : List Half) : (s.closeMicBlock t l).Bounded := by
  unfold State.closeMicBlock; dsimp only
  have h1 : (s.mapAudio (fun a => { a with
      micBuild := [], micSequence := s.audioHeadset.micSequence + 1 })).Bounded := h.mapAudioSame (by rfl)
  split
  · exact h1.offerCounted hr _ _ _ _
  · exact h1.bump _
theorem captureSample (h : s.Bounded) (hr : s.role ≠ .relay) (v : Half) : (s.captureSample v).Bounded := by
  unfold State.captureSample; dsimp only; split
  · exact (h.mapAudioSame (by rfl)).closeMicBlock hr _ _
  · exact h.mapAudioSame (by rfl)

end State.Bounded

/-- Blocks of 48 samples hold 48 samples each. -/
theorem whole_sum {q : List MicBlock} (h : ∀ b ∈ q, b.samples.length = 48) :
    (q.map (fun b => b.samples.length)).sum = 48 * q.length := by
  induction q with
  | nil => rfl
  | cons b rest ih =>
    simp only [List.map_cons, List.sum_cons, List.length_cons, h b (List.mem_cons_self ..),
      ih (fun x hx => h x (List.mem_cons_of_mem _ hx))]
    omega

namespace State.Bounded

variable {s : State}

/-- A whole block appended where it fits, or in the place of the oldest block (R161). -/
theorem micArrives (h : s.Bounded) (t : Nat) (l : List Half) (hl : l.length = 48) : (s.micArrives t l).Bounded := by
  have hm := h.mic
  have hne : l ≠ [] := by intro hh; simp [hh] at hl
  unfold State.micArrives; dsimp only
  split
  · next hc =>
    refine bump (h.withAudioSource ?_) _
    cases hq : s.audioSource.micQueue with
    | nil => simp [AudioSource.micCount, hq, hl] at hc
    | cons b rest =>
      have hw : ∀ x ∈ rest, x.samples.length = 48 := by have := hm.whole; rw [hq] at this; simpa using this
      have hb : b.samples ≠ [] := hm.filled b (by simp [hq])
      have hb1 : 1 ≤ b.samples.length := List.length_pos_iff.2 hb
      have hcount := hm.count
      simp only [AudioSource.micCount, hq, List.map_cons, List.sum_cons, whole_sum hw] at hcount
      refine ⟨?_, ?_, ?_⟩
      · simp only [AudioSource.micCount, List.drop_succ_cons, List.drop_zero, List.map_append, List.sum_append,
          whole_sum hw, List.map_cons, List.map_nil, List.sum_cons, List.sum_nil, hl]
        omega
      · intro x hx
        simp only [List.drop_succ_cons, List.drop_zero, List.mem_append, List.mem_singleton] at hx
        rcases hx with hx | hx
        · exact hm.filled x (by simp [hq, hx])
        · exact hx ▸ hne
      · intro x hx
        have hx := List.mem_of_mem_drop hx
        simp only [List.drop_succ_cons, List.drop_zero, List.mem_append, List.mem_singleton] at hx
        rcases hx with hx | hx
        · exact hw x hx
        · exact hx ▸ hl
  · next hc =>
    refine h.withAudioSource ⟨?_, ?_, ?_⟩
    · simp only [AudioSource.micCount, List.map_append, List.sum_append, List.map_cons, List.map_nil, List.sum_cons,
        List.sum_nil] at hc ⊢
      omega
    · intro x hx
      simp only [List.mem_append, List.mem_singleton] at hx
      rcases hx with hx | hx
      · exact hm.filled x hx
      · exact hx ▸ hne
    · intro x hx
      rw [List.drop_append] at hx
      rcases List.mem_append.1 hx with hx | hx
      · exact hm.whole x hx
      · exact (List.mem_singleton.1 (List.mem_of_mem_drop hx)) ▸ hl

theorem sendMic (h : s.Bounded) : (s.audioSource.sendMic).MicSound := by
  have hm := h.mic
  have hcount := hm.count
  unfold AudioSource.sendMic
  split
  · exact ⟨hm.count, hm.filled, hm.whole⟩
  · next b rest hq =>
    have hf : ∀ x ∈ rest, x.samples ≠ [] := fun x hx => hm.filled x (by simp [hq, hx])
    have hw : ∀ x ∈ rest, x.samples.length = 48 := by have := hm.whole; rw [hq] at this; simpa using this
    simp only [AudioSource.micCount, hq, List.map_cons, List.sum_cons] at hcount
    split
    · exact ⟨by simp only [AudioSource.micCount]; omega, hf, fun x hx => hw x (List.mem_of_mem_drop hx)⟩
    · exact ⟨by simp only [AudioSource.micCount]; omega, hf, fun x hx => hw x (List.mem_of_mem_drop hx)⟩
    · next v vs hvne hv =>
      refine ⟨?_, ?_, ?_⟩
      · simp only [AudioSource.micCount, List.map_cons, List.sum_cons]; rw [hv] at hcount
        simp only [List.length_cons] at hcount; omega
      · intro x hx
        rcases List.mem_cons.1 hx with hx | hx
        · subst hx; exact hvne
        · exact hf x hx
      · simpa using hw

/-! ## Resets -/

theorem zeroCounters_bounded : zeroCounters.Bounded := by
  constructor <;> exact ⟨rfl, by decide⟩

theorem boot (_h : s.Bounded) {k : Kept} (hc : k.counters.Bounded) (hr : k.remote.stale ≤ 65535)
    (hi : k.items.length = 31) : (s.boot k).Bounded := by
  unfold State.boot State.settleAtReset
  exact mapSelf (s := bootBlocks k s)
    { waiting := fun l => by cases l <;> exact ⟨List.Pairwise.nil, fun _ => Nat.zero_le _⟩
      anchor := fun _ => rfl, sensor := fun hn => ⟨if_neg hn, rfl⟩, counters := hc, railQueue := Nat.zero_le _, droop := Nat.zero_le _, sendQueue := Nat.zero_le _,
      frames := Nat.zero_le _, slices := ⟨by simp [bootBlocks, bootSliceHeadset], by simp [bootBlocks, bootSliceHeadset], Nat.zero_le _⟩
      motion := Nat.zero_le _, playback := Nat.zero_le _
      mic := ⟨Nat.zero_le _, by simp [bootBlocks, bootAudioSource], by simp [bootBlocks, bootAudioSource]⟩, stale := hr, items := hi } _
theorem fullReset (h : s.Bounded) (p : BitVec 11) : (s.fullReset p).Bounded := h.boot zeroCounters_bounded (Nat.zero_le _) rfl
theorem restart (h : s.Bounded) : s.restart.Bounded := h.boot h.counters h.stale h.items

/-! ## Remote -/

theorem readCounter (h : s.Bounded) (g i : Nat) : (s.readCounter g i).state.Bounded := by
  unfold State.readCounter; split
  · exact h
  · refine h.withCounters (h.counters.setGroup g (by simp) ?_)
    intro v hv
    rcases List.mem_or_eq_of_mem_set hv with hv | hv
    · exact h.counters.group g v hv
    · omega
theorem serveOperation (h : s.Bounded) (o i : Byte) (v : Half) : (s.serveOperation o i v).state.Bounded := by
  unfold State.serveOperation
  split
  · exact h
  · split
    · exact h.writeItem _ _
    · split
      · exact h.readCounter _ _
      · split
        · exact h.setRestartPending
        · exact h
theorem noteRestartAnswer (h : s.Bounded) (n : Nat) : (s.noteRestartAnswer n).Bounded := by
  unfold State.noteRestartAnswer; split
  · exact h
  · exact h.keepRemote (by rfl)
theorem serveAsk (h : s.Bounded) (a : Addr) (p : List Byte) : (s.serveAsk a p).Bounded := by
  unfold State.serveAsk; dsimp only; split
  · exact ((h.serveOperation _ _ _).offerBurst _ _).noteRestartAnswer _
  · exact (h.serveOperation _ _ _).offerBurst _ _
theorem askArrives (h : s.Bounded) (a : Addr) (p : List Byte) : (s.askArrives a p).Bounded := by
  unfold State.askArrives; split
  · exact h.serveAsk _ _
  · exact h
theorem answerArrives (h : s.Bounded) (a : Addr) (p : List Byte) : (s.answerArrives a p).Bounded := by
  unfold State.answerArrives; split
  · split
    · exact (h.keepRemote (by rfl)).endRemote _
    · exact h.withRemote (Nat.min_le_right _ _)
  · exact h
theorem askSent (h : s.Bounded) : s.askSent.Bounded := by
  unfold State.askSent; split
  · exact h.keepRemote (by rfl)
  · exact h
theorem startRemote (h : s.Bounded) (a b c : Byte) (v : Half) : (s.startRemote a b c v).Bounded :=
  (h.keepRemote (by rfl)).offerBurst _ _

/-! ## Roster -/

theorem emptyQueue (h : s.Bounded) {b : Rail} (hq : b.queue = []) : State.Bounded { s with rail := b } :=
  h.withRail (by simp only [Rail.size, hq, List.length_nil]; split <;> omega)
theorem silence (h : s.Bounded) : s.silence.Bounded := by
  unfold State.silence; dsimp only; split
  · exact (h.stopSending.emptyQueue rfl).askGivenUp
  · exact (h.emptyQueue rfl).askGivenUp
theorem enterListenOnly (h : s.Bounded) : s.enterListenOnly.Bounded := by
  unfold State.enterListenOnly; dsimp only
  have h1 : State.Bounded { s with
    roster := { s.roster with join := .listenOnly, joinFrom := none, beaconFrom := none }
    power := { s.power with offerFrom := none, claimFrom := none } } := { h with }
  split
  · exact h1.silence.halt _
  · exact h1.silence
theorem clashFound (h : s.Bounded) (f : Flag) : (s.clashFound f).Bounded := by
  unfold State.clashFound; split
  · exact h.raise _
  · exact (h.raise _).enterListenOnly
theorem tellPower (h : s.Bounded) (b : Bool) : (s.tellPower b).Bounded := by
  unfold State.tellPower; split
  · exact h.powerTold
  · exact h
theorem tellPath (h : s.Bounded) (b : Bool) : (s.tellPath b).Bounded := by
  unfold State.tellPath; split
  · exact h.pathChanged
  · exact h
theorem tellChange (h : s.Bounded) (o n : Option Entry) : (s.tellChange o n).Bounded :=
  ((h.tellPower _).tellPath _).syncSchedule
theorem removeEntry (h : s.Bounded) (e : Entry) : (s.removeEntry e).Bounded := ((h.setPeers _).raise _).tellChange _ _
theorem tellRound (h : s.Bounded) (b : Heard) (e : Entry) : (s.tellRound b e).Bounded := by
  unfold State.tellRound
  (repeat' split) <;> first | exact h | exact h.roundHeard _ _
theorem updateEntry (h : s.Bounded) (b : Heard) (o : Option Entry) : (s.updateEntry b o).Bounded :=
  ((h.setPeers _).tellChange _ _).tellRound _ _
theorem rosterTakes (h : s.Bounded) (b : Heard) : (s.rosterTakes b).Bounded := by
  unfold State.rosterTakes; dsimp only
  (repeat' split) <;> first | exact h | exact h.removeEntry _ | exact h.updateEntry _ _ | exact (h.raise _).updateEntry _ _
theorem stepClock (h : s.Bounded) (n : Nat) : (s.stepClock n).Bounded := by
  unfold State.stepClock; dsimp only; split
  · next hs => exact ((h.withClock _).scanStep (fun hk => by rw [show s.role = Role.relay from hk] at hs; cases hs) _).audioStep
  · exact h.withClock _
theorem raiseSlew (h : s.Bounded) (n : Nat) : (s.raiseSlew n).Bounded := h.withClock _
theorem clockHears (h : s.Bounded) (a b : Nat) : (s.clockHears a b).Bounded := by
  unfold State.clockHears; dsimp only
  (repeat' split) <;> first | exact h.stepClock _ | exact h.raiseSlew _ | exact h
theorem enterTripHold (h : s.Bounded) : s.enterTripHold.Bounded := ((h.keepPower (by rfl)).setSupplier _).settleOffer
theorem noticeArrives (h : s.Bounded) (a : Addr) (k d : Byte) : (s.noticeArrives a k d).Bounded := by
  unfold State.noticeArrives; dsimp only
  split
  · split
    · exact reform (h.withPower (Nat.min_le_right _ _))
    · exact h.keepPower (by rfl)
  · split
    · split
      · exact ((h.keepPower (by rfl)).raise _).enterTripHold
      · exact (h.keepPower (by rfl)).raise _
    · split
      · exact (h.keepPower (by rfl)).raise _
      · exact h
theorem rosterHears (h : s.Bounded) (b : Heard) : (s.rosterHears b).Bounded := by
  unfold State.rosterHears; split
  · exact h.clashFound _
  · have h1 : (if s.roleClash b = true then s.clashFound .roleClash else s).Bounded := by
      split
      · exact h.clashFound _
      · exact h
    dsimp only; split
    · exact h1
    · split
      · exact (h1.rosterTakes _).clockHears _ _
      · exact h1.rosterTakes _
theorem contentArrives (h : s.Bounded) (b : Heard) : (s.contentArrives b).Bounded := by
  unfold State.contentArrives; split
  · exact h.noticeArrives _ _ _
  · exact h.askArrives _ _
  · exact h.answerArrives _ _
  · split
    · exact h.recordArrives _
    · exact h
  · exact h
theorem burstAccepted (h : s.Bounded) (b : Heard) : (s.burstAccepted b).Bounded :=
  ((h.bump _).rosterHears _).contentArrives _
theorem offerBeacon (h : s.Bounded) : s.offerBeacon.Bounded := h.offerBurst _ _
theorem becomeActive (h : s.Bounded) : s.becomeActive.Bounded := by
  unfold State.becomeActive; dsimp only
  refine syncHead ?_
  have h2 := ((h.withRoster { s.roster with
      join := .active, joinFrom := none, beaconFrom := some s.clock.now }).offerBeacon).announceOffer.announceClaim
  split
  · exact h2.openRound _
  · exact h2

/-! ## Rail -/

theorem abandon (h : s.Bounded) (c : Counter) : (s.abandon c).Bounded := (h.setRx _).bump _
theorem gapIfDue (h : s.Bounded) : s.gapIfDue.Bounded := by
  unfold State.gapIfDue; (repeat' split) <;> first | exact h | exact h.abandon _
theorem judgeBurst (h : s.Bounded) (a : Assembly) : (s.judgeBurst a).Bounded := by
  unfold State.judgeBurst
  (repeat' split) <;> first | exact h.abandon _ | exact (h.setRx _).burstAccepted _
theorem takeStartMark (h : s.Bounded) (a b : Nat) : (s.takeStartMark a b).Bounded := by
  unfold State.takeStartMark
  refine setRx (withRail h ?_) _
  exact h.railQueue
theorem assemble (h : s.Bounded) (a : Assembly) (d : Byte) : (s.assemble a d).Bounded := by
  unfold State.assemble; dsimp only
  split
  · exact h.abandon _
  · split
    · exact h.judgeBurst _
    · exact h.setRx _
theorem hear (h : s.Bounded) (d : Byte) (b : Bool) (x y : Nat) : (s.hear d b x y).Bounded := by
  unfold State.hear
  (repeat' split) <;> first | exact h.takeStartMark _ _ | exact h | exact h.abandon _ | exact h.assemble _ _

end State.Bounded

theorem replaceAfterClash_length (e : QEntry) (q : List QEntry) : (replaceAfterClash e q).length ≤ q.length + 1 := by
  unfold replaceAfterClash
  split
  · simp only [insertFirst_length]
    exact Nat.succ_le_succ (List.length_filter_le _ _)
  · simp [insertFirst_length]

namespace State.Bounded

variable {s : State}

theorem giveUpEntry (h : s.Bounded) (e : QEntry) : (s.giveUpEntry e).Bounded :=
  (((h.bump _).raise _).tellDiscarded _).syncHead
theorem clash (h : s.Bounded) {x : Sending} (hx : s.rail.sending = some x) : (s.clash x).Bounded := by
  unfold State.clash; dsimp only
  have hq := h.railQueue
  have h1 := (h.stopSending.bump cClash)
  split
  · refine giveUpEntry (withRail h1 ?_) _
    exact h1.railQueue
  · refine syncHead (withRail (b := { (s.stopSending.bump cClash).rail with courtesy := false, queue := _ }) h1 ?_)
    refine le_trans (b := s.rail.queue.length + 1) ?_ ?_
    · rw [Rail.size, show (s.stopSending.bump cClash).rail.sending = none from rfl]
      exact replaceAfterClash_length _ _
    · simpa [Rail.size, hx] using hq
theorem compareSent (h : s.Bounded) {x : Sending} (hx : s.rail.sending = some x) (d : Byte) (b : Bool) :
    (s.compareSent x d b).Bounded := by
  have hq := h.railQueue
  unfold State.compareSent
  split
  · exact h
  · split
    · exact h.clash hx
    · exact h.withRail (by simpa [Rail.size, hx] using hq)
theorem beginSending (h : s.Bounded) {e : QEntry} {rest : List QEntry} (hq : s.rail.queue = e :: rest) :
    (s.beginSending e rest).Bounded := by
  have h8 := h.railQueue
  exact h.withRail (by simp only [Rail.size, hq, List.length_cons] at *; simp; omega)
theorem entrySent (h : s.Bounded) (e : QEntry) : (s.entrySent e).Bounded := by
  unfold State.entrySent
  (repeat' split) <;> first | exact h.askSent | exact h.restart | exact h
theorem completeSending (h : s.Bounded) (e : QEntry) : (s.completeSending e).Bounded := by
  have h1 := h.stopSending.bump cSent
  refine entrySent (syncHead (withRail h1 ?_)) _
  exact h1.railQueue
theorem dropHead (h : s.Bounded) : s.dropHead.Bounded := by
  have hq := h.railQueue
  unfold State.dropHead; split
  · exact h
  · next e rest he =>
    refine syncHead (tellDiscarded (raise (bump (h.withRail ?_) _) _) _)
    simp only [Rail.size, he, List.length_cons] at *; omega

/-! ## Supply -/

theorem followInputs (h : s.Bounded) : s.followInputs.Bounded := (h.setSupplier _).settleOffer
theorem readyChanged (h : s.Bounded) : s.readyChanged.Bounded := by
  unfold State.readyChanged; (repeat' split) <;> first | exact h | exact h.followInputs
theorem presentChanged (h : s.Bounded) (b : Bool) : (s.presentChanged b).Bounded := by
  unfold State.presentChanged
  (repeat' split) <;> first | exact h | exact h.keepPower (by rfl) | exact h.endTripHold | exact h.followInputs
theorem raiseLoad (h : s.Bounded) (k : Load) : (s.raiseLoad k).Bounded := by
  unfold State.raiseLoad; dsimp only; split
  · exact (h.withLoads _).handLevels _
  · exact h.withLoads _
theorem judgeDroop (h : s.Bounded) (b : Bool) : (s.judgeDroop b).Bounded := by
  have h4 := h.droop
  cases b
  · refine h.withPower (b := { s.power.goodMeasure with lastLow := false }) ?_
    simp only [Power.goodMeasure]; split <;> simp only <;> omega
  · exact (h.withPower (b := { s.power.raiseDroop with lastLow := true }) (Nat.min_le_right _ _)).raise _
theorem judgeCritical (h : s.Bounded) (n : Nat) : (s.judgeCritical n).Bounded := by
  unfold State.judgeCritical; split
  · exact ((h.keepPower (by rfl)).raise _).offerNotice _ _
  · exact h
theorem measureRail (h : s.Bounded) (n : Nat) : (s.measureRail n).Bounded :=
  (((h.judgeDroop _).judgeClear _).judgeCritical _).reform
theorem noteOverdraw (h : s.Bounded) (n : Nat) : (s.noteOverdraw n).Bounded := by
  unfold State.noteOverdraw; split
  · exact h
  · split
    · exact ((h.keepPower (by rfl)).offerNotice _ _).raise _
    · exact h.raise _
theorem trip (h : s.Bounded) (d : Nat) : (s.trip d).Bounded := by
  unfold State.trip; dsimp only; split
  · exact ((h.keepPower (by rfl)).beginTrip _ _).raise _
  · exact (h.keepPower (by rfl)).beginTrip _ _
theorem measureCurrent (h : s.Bounded) (n : Nat) : (s.measureCurrent n).Bounded := by
  unfold State.measureCurrent
  have h1 : ∀ k, (State.noteOverdraw n { s with power := { s.power with overrun := k } }).Bounded := fun k =>
    (h.keepPower (by rfl)).noteOverdraw _
  dsimp only
  generalize (if s.offeredCurrent < n then s.power.overrun + 1 else 0) = k
  have h2 := h1 k
  dsimp only at h2
  split
  · exact h2.trip _
  · exact h2

/-! ## Hops and host port -/

theorem forwardPacket (h : s.Bounded) (l : Lane) (p : Packet) : (s.forwardPacket l p).Bounded := by
  unfold State.forwardPacket; split
  · exact h.setTx l ((h.waiting l).forward p _)
  · exact h

end State.Bounded

theorem framesAt_length (b : List Byte) (n i : Nat) : (framesAt b n i).length = n := by
  induction n generalizing i with
  | zero => rfl
  | succ n ih => simp [framesAt, ih]

theorem samplesAt_length (b : List Byte) (n i : Nat) : (samplesAt b n i).length = n := by
  induction n generalizing i with
  | zero => rfl
  | succ n ih => simp [samplesAt, ih]

namespace State.Bounded

variable {s : State}

theorem packetArrives (h : s.Bounded) (k : PacketKind) (b : List Byte) : (s.packetArrives k b).Bounded := by
  unfold State.packetArrives; dsimp only; split
  · exact h.sliceArrives _ _ _ _
  · exact h.audioArrives _ _ _ (framesAt_length _ _ _)
  · exact h.recordArrives _
  · exact h.micArrives _ _ (samplesAt_length _ _ _)
  · exact h.frameShownArrives _
theorem takePacket (h : s.Bounded) (l : Lane) (b : List Byte) : (s.takePacket l b).Bounded := by
  unfold State.takePacket; split
  · exact h.bump _
  · split
    · exact h.forwardPacket _ _
    · exact (h.bump _).packetArrives _ _
theorem restartDoze (h : s.Bounded) (l : Lane) : (s.restartDoze l).Bounded := by
  unfold State.restartDoze; split
  · exact h.withLanes (fun k => by cases k <;> [exact h.waiting .down; exact h.waiting .up])
  · exact h
theorem countSent (h : s.Bounded) (l : Lane) (k : PacketKind) : (s.countSent l k).Bounded := by
  unfold State.countSent
  have h1 := h.bump (packetCounter l)
  have hq := h.sendQueue
  dsimp only; split
  · split
    · refine bump (h1.withSliceSource (b := { s.sliceSource with sendQueue := s.sliceSource.sendQueue.drop 1 }) ?_ h.frames) _
      rw [List.length_drop]; exact le_trans (Nat.sub_le _ _) hq
    · exact h1.bump _
    · exact h1
  · exact h1
theorem freeTransmitter (h : s.Bounded) (l : Lane) : (s.freeTransmitter l).Bounded := by
  unfold State.freeTransmitter; dsimp only
  have h1 := h.setTx l ((h.waiting l).takeNext s.clock.now)
  split
  · next hs => exact h1.feedSlices (fun hk => by rw [show s.role = Role.relay from hk] at hs; cases hs)
  · exact h1
theorem requestRestart (h : s.Bounded) : s.requestRestart.Bounded := by
  unfold State.requestRestart; split
  · exact h
  · exact (h.withHost _).offerNotice _ _
theorem powerOff (h : s.Bounded) : s.powerOff.Bounded :=
  { h with
    waiting := fun l => by cases l <;> exact ⟨List.Pairwise.nil, fun _ => Nat.zero_le _⟩
    railQueue := by have := h.railQueue; simp only [Rail.size, State.powerOff] at *; simp; omega
    slices := { h.slices with panel := by simp [State.powerOff] } }

end State.Bounded

end Sys2Proof.Machine
end

