-- ==== Sys2Proof/Laws/Frame.lean ====
section
/-! SUPPORT. What the power and agreement path leaves as it is: every operation of the power manager, the load planner and the lane
agreement controller keeps what lies beyond its reach, and those that offer no burst keep the transmit queue and the counters. -/

namespace Sys2Proof.Machine

/-- What no operation of the path changes, the transmit queue and the counters aside. -/
structure Beyond where
  core       : Core
  joinFrom   : Option Nat
  beaconFrom : Option Nat
  peers      : List Entry
  motion     : MotionSource
  audio      : AudioSource
  remote     : Remote
  reply      : List Byte
  clocked    : List Byte
  restart    : Option Nat
  free       : Nat

def State.beyond (s : State) : Beyond :=
  ⟨s.core, s.roster.joinFrom, s.roster.beaconFrom, s.roster.peers, s.motionSource, s.audioSource, s.remote, s.host.reply,
    s.host.clocked, s.host.restartFrom, s.freeCount⟩

@[simp] theorem beyond_mk (pw st cl ra ro po lo ag la ss sh mh ms au ah re ho co it fr pe) :
    State.beyond ⟨pw, st, cl, ra, ro, po, lo, ag, la, ss, sh, mh, ms, au, ah, re, ho, co, it, fr, pe⟩ =
      ⟨⟨pw, st, cl, it, pe, ro.join⟩, ro.joinFrom, ro.beaconFrom, ro.peers, ms, au, re, ho.reply, ho.clocked, ho.restartFrom, fr⟩ := rfl

@[simp] theorem beyond_eta (s : State) :
    (⟨s.core, s.roster.joinFrom, s.roster.beaconFrom, s.roster.peers,
      s.motionSource, s.audioSource, s.remote, s.host.reply, s.host.clocked, s.host.restartFrom, s.freeCount⟩ : Beyond) =
      s.beyond := rfl

theorem core_of_beyond {s t : State} (h : t.beyond = s.beyond) : t.core = s.core := congrArg Beyond.core h
theorem peers_of_beyond {s t : State} (h : t.beyond = s.beyond) : t.roster.peers = s.roster.peers := congrArg Beyond.peers h
theorem remote_of_beyond {s t : State} (h : t.beyond = s.beyond) : t.remote = s.remote := congrArg Beyond.remote h
theorem motionSource_of_beyond {s t : State} (h : t.beyond = s.beyond) : t.motionSource = s.motionSource :=
  congrArg Beyond.motion h
theorem audioSource_of_beyond {s t : State} (h : t.beyond = s.beyond) : t.audioSource = s.audioSource :=
  congrArg Beyond.audio h

variable (s : State)


/-! ## Beyond the path -/

@[simp] theorem State.raise_beyond (f : Flag) : (s.raise f).beyond = s.beyond := rfl
@[simp] theorem State.count_beyond (c : Counter) (n : Nat) : (s.count c n).beyond = s.beyond := rfl
@[simp] theorem State.bump_beyond (c : Counter) : (s.bump c).beyond = s.beyond := rfl
@[simp] theorem State.syncHead_beyond : s.syncHead.beyond = s.beyond := rfl
@[simp] theorem State.mapSelf_beyond (f : Entry → Entry) : (s.mapSelf f).beyond = s.beyond := rfl
@[simp] theorem State.setRound_beyond (r : Half) : (s.setRound r).beyond = s.beyond := rfl
@[simp] theorem State.setSupplier_beyond (st : SupplierState) : (s.setSupplier st).beyond = s.beyond := rfl
@[simp] theorem State.orderLanes_beyond : s.orderLanes.beyond = s.beyond := rfl
@[simp] theorem State.startSensorWrite_beyond : s.startSensorWrite.beyond = s.beyond := rfl
@[simp] theorem State.addEntry_beyond (k : BurstKind) (p : List Byte) : (s.addEntry k p).beyond = s.beyond := by
  simp [State.addEntry]
@[simp] theorem State.offerBurst_beyond {k : BurstKind} (hk : k ≠ .ask) (p : List Byte) :
    (s.offerBurst k p).beyond = s.beyond := by
  unfold State.offerBurst; simp only [hk, if_false]; (repeat' split) <;> simp
@[simp] theorem State.offerNotice_beyond (k : Byte) (d : Nat) : (s.offerNotice k d).beyond = s.beyond := by
  simp [State.offerNotice]
@[simp] theorem State.motionLevelChanged_beyond : s.motionLevelChanged.beyond = s.beyond := by
  unfold State.motionLevelChanged; split <;> simp
@[simp] theorem State.handLevels_beyond (l : Levels) : (s.handLevels l).beyond = s.beyond := by
  unfold State.handLevels; split <;> simp
@[simp] theorem State.plan_beyond : s.plan.beyond = s.beyond := by
  unfold State.plan; split <;> simp
@[simp] theorem State.syncAudioPower_beyond : s.syncAudioPower.beyond = s.beyond := by
  unfold State.syncAudioPower; (repeat' split) <;> simp
@[simp] theorem State.writeSummary_beyond : s.writeSummary.beyond = s.beyond := by simp [State.writeSummary]
@[simp] theorem State.tellDataBlocks_beyond (b : Bool) : (s.tellDataBlocks b).beyond = s.beyond := by
  unfold State.tellDataBlocks State.dataBlocksLeave State.dataBlocksEnter; (repeat' split) <;> simp
@[simp] theorem State.changeAgree_beyond (st : AgreeState) (g : Option Grade) (r : Reason) :
    (s.changeAgree st g r).beyond = s.beyond := by simp [State.changeAgree]
@[simp] theorem State.halt_beyond (r : Reason) : (s.halt r).beyond = s.beyond := by simp [State.halt]
@[simp] theorem State.enterSettle_beyond (r : Reason) : (s.enterSettle r).beyond = s.beyond := by simp [State.enterSettle]
@[simp] theorem State.openRound_beyond (r : Reason) : (s.openRound r).beyond = s.beyond := by
  unfold State.openRound; (repeat' split) <;> simp
@[simp] theorem State.pathChanged_beyond : s.pathChanged.beyond = s.beyond := by
  unfold State.pathChanged; split <;> simp
@[simp] theorem State.ownSetChanged_beyond : s.ownSetChanged.beyond = s.beyond := by
  unfold State.ownSetChanged; (repeat' split) <;> simp
@[simp] theorem State.writeModeSet_beyond (l : List Grade) (c : Grade) : (s.writeModeSet l c).beyond = s.beyond := by
  simp [State.writeModeSet]
@[simp] theorem State.handModeSet_beyond (q : Bool) (l : List Grade) (c : Grade) :
    (s.handModeSet q l c).beyond = s.beyond := by unfold State.handModeSet; split <;> simp
@[simp] theorem State.enterTraining_beyond : s.enterTraining.beyond = s.beyond := by simp [State.enterTraining]
@[simp] theorem State.setAnchor_beyond : s.setAnchor.beyond = s.beyond := by
  unfold State.setAnchor; split <;> simp
@[simp] theorem State.enterRunning_beyond : s.enterRunning.beyond = s.beyond := by
  unfold State.enterRunning; dsimp only; split <;> simp
@[simp] theorem State.announceOffer_beyond : s.announceOffer.beyond = s.beyond := by
  unfold State.announceOffer; split <;> simp
@[simp] theorem State.announceClaim_beyond : s.announceClaim.beyond = s.beyond := by
  unfold State.announceClaim; split <;> simp
@[simp] theorem State.runAllowances_beyond : s.runAllowances.beyond = s.beyond := by
  unfold State.runAllowances; dsimp only; (repeat' split) <;> simp
@[simp] theorem State.handIfChanged_beyond (q : Bool) (l : List Grade) (c : Grade) :
    (s.handIfChanged q l c).beyond = s.beyond := by unfold State.handIfChanged; split <;> simp
@[simp] theorem State.handCap_beyond (c : Nat) : (s.handCap c).beyond = s.beyond := by
  unfold State.handCap; split <;> simp
@[simp] theorem State.formModeSet_beyond (q : Bool) : (s.formModeSet q).beyond = s.beyond := by
  unfold State.formModeSet; dsimp only; split <;> simp
@[simp] theorem State.formCap_beyond : s.formCap.beyond = s.beyond := by
  unfold State.formCap; split <;> simp
@[simp] theorem State.reform_beyond : s.reform.beyond = s.beyond := by simp [State.reform]
@[simp] theorem State.checkSupply_beyond : s.checkSupply.beyond = s.beyond := by
  unfold State.checkSupply; (repeat' split) <;> simp
@[simp] theorem State.powerTold_beyond : s.powerTold.beyond = s.beyond := by simp [State.powerTold]
@[simp] theorem State.settleOffer_beyond : s.settleOffer.beyond = s.beyond := by
  unfold State.settleOffer; split <;> simp
@[simp] theorem State.settleClaimList_beyond : s.settleClaimList.beyond = s.beyond := by
  unfold State.settleClaimList; split <;> simp
@[simp] theorem State.settleClaim_beyond : s.settleClaim.beyond = s.beyond := by simp [State.settleClaim]
@[simp] theorem State.endTripHold_beyond : s.endTripHold.beyond = s.beyond := by simp [State.endTripHold]
@[simp] theorem State.closeSwitch_beyond : s.closeSwitch.beyond = s.beyond := by simp [State.closeSwitch]
@[simp] theorem State.openSwitch_beyond (b : Bool) : (s.openSwitch b).beyond = s.beyond := by simp [State.openSwitch]
@[simp] theorem State.beginTrip_beyond (d : Nat) (b : Bool) : (s.beginTrip d b).beyond = s.beyond := by simp [State.beginTrip]
@[simp] theorem State.failRound_beyond (r : Reason) : (s.failRound r).beyond = s.beyond := by simp [State.failRound]
@[simp] theorem State.setBaseForced_beyond : s.setBaseForced.beyond = s.beyond := by simp [State.setBaseForced]
@[simp] theorem State.confirmFailure_beyond : s.confirmFailure.beyond = s.beyond := by
  unfold State.confirmFailure; split <;> simp
@[simp] theorem State.lowerCeiling_beyond : s.lowerCeiling.beyond = s.beyond := by
  unfold State.lowerCeiling; (repeat' split) <;> simp
@[simp] theorem State.trainingFailure_beyond : s.trainingFailure.beyond = s.beyond := by
  unfold State.trainingFailure; dsimp only; split <;> simp
@[simp] theorem State.judgeConfirms_beyond : s.judgeConfirms.beyond = s.beyond := by
  unfold State.judgeConfirms; dsimp only; (repeat' split) <;> simp
@[simp] theorem State.enterConfirming_beyond (g : Grade) : (s.enterConfirming g).beyond = s.beyond := by
  simp [State.enterConfirming]
@[simp] theorem State.choose_beyond : s.choose.beyond = s.beyond := by
  unfold State.choose; (repeat' split) <;> simp
@[simp] theorem State.writeRound_beyond : s.writeRound.beyond = s.beyond := by simp [State.writeRound]
@[simp] theorem State.noteListened_beyond : s.noteListened.beyond = s.beyond := rfl
@[simp] theorem State.startListen_beyond : s.startListen.beyond = s.beyond := by simp [State.startListen]
@[simp] theorem State.enterListen_beyond : s.enterListen.beyond = s.beyond := by
  unfold State.enterListen; split <;> simp
@[simp] theorem State.takeStepDue_beyond : s.takeStepDue.beyond = s.beyond := by
  unfold State.takeStepDue; (repeat' split) <;> simp
@[simp] theorem State.endBaseForced_beyond : s.endBaseForced.beyond = s.beyond := by
  unfold State.endBaseForced; dsimp only; split <;> simp
@[simp] theorem State.adopt_beyond (r : Half) : (s.adopt r).beyond = s.beyond := by
  unfold State.adopt; dsimp only; (repeat' split) <;> simp
@[simp] theorem State.roundHeard_beyond (b : Bool) (r : Half) : (s.roundHeard b r).beyond = s.beyond := by
  unfold State.roundHeard; (repeat' split) <;> simp
@[simp] theorem State.receiverReported_beyond : s.receiverReported.beyond = s.beyond := by
  unfold State.receiverReported; (repeat' split) <;> simp

/-! ## The transmit queue and the counters, where no burst is offered -/

@[simp] theorem State.motionLevelChanged_rail : s.motionLevelChanged.rail = s.rail := by
  unfold State.motionLevelChanged; split <;> simp
@[simp] theorem State.handLevels_rail (l : Levels) : (s.handLevels l).rail = s.rail := by
  unfold State.handLevels; split <;> simp
@[simp] theorem State.plan_rail : s.plan.rail = s.rail := by
  unfold State.plan; split <;> simp
@[simp] theorem State.syncAudioPower_rail : s.syncAudioPower.rail = s.rail := by
  unfold State.syncAudioPower; (repeat' split) <;> simp
@[simp] theorem State.writeSummary_rail : s.writeSummary.rail = s.rail := by simp [State.writeSummary]
@[simp] theorem State.tellDataBlocks_rail (b : Bool) : (s.tellDataBlocks b).rail = s.rail := by
  unfold State.tellDataBlocks State.dataBlocksLeave State.dataBlocksEnter; (repeat' split) <;> simp
@[simp] theorem State.changeAgree_rail (st : AgreeState) (g : Option Grade) (r : Reason) :
    (s.changeAgree st g r).rail = s.rail := by simp [State.changeAgree]
@[simp] theorem State.halt_rail (r : Reason) : (s.halt r).rail = s.rail := by simp [State.halt]
@[simp] theorem State.enterSettle_rail (r : Reason) : (s.enterSettle r).rail = s.rail := by simp [State.enterSettle]
@[simp] theorem State.openRound_rail (r : Reason) : (s.openRound r).rail = s.rail := by
  unfold State.openRound; (repeat' split) <;> simp
@[simp] theorem State.pathChanged_rail : s.pathChanged.rail = s.rail := by
  unfold State.pathChanged; split <;> simp
@[simp] theorem State.ownSetChanged_rail : s.ownSetChanged.rail = s.rail := by
  unfold State.ownSetChanged; (repeat' split) <;> simp
@[simp] theorem State.writeModeSet_rail (l : List Grade) (c : Grade) : (s.writeModeSet l c).rail = s.rail := by
  simp [State.writeModeSet]
@[simp] theorem State.handModeSet_rail (q : Bool) (l : List Grade) (c : Grade) :
    (s.handModeSet q l c).rail = s.rail := by unfold State.handModeSet; split <;> simp
@[simp] theorem State.enterTraining_rail : s.enterTraining.rail = s.rail := by simp [State.enterTraining]
@[simp] theorem State.setAnchor_rail : s.setAnchor.rail = s.rail := by
  unfold State.setAnchor; split <;> simp
@[simp] theorem State.enterRunning_rail : s.enterRunning.rail = s.rail := by
  unfold State.enterRunning; dsimp only; split <;> simp
@[simp] theorem State.runAllowances_rail : s.runAllowances.rail = s.rail := by
  unfold State.runAllowances; dsimp only; (repeat' split) <;> simp
@[simp] theorem State.handIfChanged_rail (q : Bool) (l : List Grade) (c : Grade) :
    (s.handIfChanged q l c).rail = s.rail := by unfold State.handIfChanged; split <;> simp
@[simp] theorem State.handCap_rail (c : Nat) : (s.handCap c).rail = s.rail := by
  unfold State.handCap; split <;> simp
@[simp] theorem State.formModeSet_rail (q : Bool) : (s.formModeSet q).rail = s.rail := by
  unfold State.formModeSet; dsimp only; split <;> simp
@[simp] theorem State.formCap_rail : s.formCap.rail = s.rail := by
  unfold State.formCap; split <;> simp
@[simp] theorem State.reform_rail : s.reform.rail = s.rail := by simp [State.reform]
@[simp] theorem State.checkSupply_rail : s.checkSupply.rail = s.rail := by
  unfold State.checkSupply; (repeat' split) <;> simp
@[simp] theorem State.powerTold_rail : s.powerTold.rail = s.rail := by simp [State.powerTold]
@[simp] theorem State.failRound_rail (r : Reason) : (s.failRound r).rail = s.rail := by simp [State.failRound]
@[simp] theorem State.setBaseForced_rail : s.setBaseForced.rail = s.rail := by simp [State.setBaseForced]
@[simp] theorem State.confirmFailure_rail : s.confirmFailure.rail = s.rail := by
  unfold State.confirmFailure; split <;> simp
@[simp] theorem State.judgeConfirms_rail : s.judgeConfirms.rail = s.rail := by
  unfold State.judgeConfirms; dsimp only; (repeat' split) <;> simp
@[simp] theorem State.writeRound_rail : s.writeRound.rail = s.rail := by simp [State.writeRound]
@[simp] theorem State.receiverReported_rail : s.receiverReported.rail = s.rail := by
  unfold State.receiverReported; (repeat' split) <;> simp
@[simp] theorem State.motionLevelChanged_counters : s.motionLevelChanged.counters = s.counters := by
  unfold State.motionLevelChanged; split <;> simp
@[simp] theorem State.handLevels_counters (l : Levels) : (s.handLevels l).counters = s.counters := by
  unfold State.handLevels; split <;> simp
@[simp] theorem State.plan_counters : s.plan.counters = s.counters := by
  unfold State.plan; split <;> simp
@[simp] theorem State.syncAudioPower_counters : s.syncAudioPower.counters = s.counters := by
  unfold State.syncAudioPower; (repeat' split) <;> simp
@[simp] theorem State.writeSummary_counters : s.writeSummary.counters = s.counters := by simp [State.writeSummary]
@[simp] theorem State.tellDataBlocks_counters (b : Bool) : (s.tellDataBlocks b).counters = s.counters := by
  unfold State.tellDataBlocks State.dataBlocksLeave State.dataBlocksEnter; (repeat' split) <;> simp
@[simp] theorem State.changeAgree_counters (st : AgreeState) (g : Option Grade) (r : Reason) :
    (s.changeAgree st g r).counters = s.counters := by simp [State.changeAgree]
@[simp] theorem State.halt_counters (r : Reason) : (s.halt r).counters = s.counters := by simp [State.halt]
@[simp] theorem State.enterSettle_counters (r : Reason) : (s.enterSettle r).counters = s.counters := by simp [State.enterSettle]
@[simp] theorem State.openRound_counters (r : Reason) : (s.openRound r).counters = s.counters := by
  unfold State.openRound; (repeat' split) <;> simp
@[simp] theorem State.pathChanged_counters : s.pathChanged.counters = s.counters := by
  unfold State.pathChanged; split <;> simp
@[simp] theorem State.ownSetChanged_counters : s.ownSetChanged.counters = s.counters := by
  unfold State.ownSetChanged; (repeat' split) <;> simp
@[simp] theorem State.writeModeSet_counters (l : List Grade) (c : Grade) : (s.writeModeSet l c).counters = s.counters := by
  simp [State.writeModeSet]
@[simp] theorem State.handModeSet_counters (q : Bool) (l : List Grade) (c : Grade) :
    (s.handModeSet q l c).counters = s.counters := by unfold State.handModeSet; split <;> simp
@[simp] theorem State.enterTraining_counters : s.enterTraining.counters = s.counters := by simp [State.enterTraining]
@[simp] theorem State.setAnchor_counters : s.setAnchor.counters = s.counters := by
  unfold State.setAnchor; split <;> simp
@[simp] theorem State.enterRunning_counters : s.enterRunning.counters = s.counters := by
  unfold State.enterRunning; dsimp only; split <;> simp
@[simp] theorem State.runAllowances_counters : s.runAllowances.counters = s.counters := by
  unfold State.runAllowances; dsimp only; (repeat' split) <;> simp
@[simp] theorem State.handIfChanged_counters (q : Bool) (l : List Grade) (c : Grade) :
    (s.handIfChanged q l c).counters = s.counters := by unfold State.handIfChanged; split <;> simp
@[simp] theorem State.handCap_counters (c : Nat) : (s.handCap c).counters = s.counters := by
  unfold State.handCap; split <;> simp
@[simp] theorem State.formModeSet_counters (q : Bool) : (s.formModeSet q).counters = s.counters := by
  unfold State.formModeSet; dsimp only; split <;> simp
@[simp] theorem State.formCap_counters : s.formCap.counters = s.counters := by
  unfold State.formCap; split <;> simp
@[simp] theorem State.reform_counters : s.reform.counters = s.counters := by simp [State.reform]
@[simp] theorem State.checkSupply_counters : s.checkSupply.counters = s.counters := by
  unfold State.checkSupply; (repeat' split) <;> simp
@[simp] theorem State.powerTold_counters : s.powerTold.counters = s.counters := by simp [State.powerTold]
@[simp] theorem State.failRound_counters (r : Reason) : (s.failRound r).counters = s.counters := by simp [State.failRound]
@[simp] theorem State.setBaseForced_counters : s.setBaseForced.counters = s.counters := by simp [State.setBaseForced]
@[simp] theorem State.confirmFailure_counters : s.confirmFailure.counters = s.counters := by
  unfold State.confirmFailure; split <;> simp
@[simp] theorem State.judgeConfirms_counters : s.judgeConfirms.counters = s.counters := by
  unfold State.judgeConfirms; dsimp only; (repeat' split) <;> simp
@[simp] theorem State.writeRound_counters : s.writeRound.counters = s.counters := by simp [State.writeRound]
@[simp] theorem State.receiverReported_counters : s.receiverReported.counters = s.counters := by
  unfold State.receiverReported; (repeat' split) <;> simp

end Sys2Proof.Machine
end

