-- ==== Sys2Proof/Laws/PerInstr.lean ====
section
/-! SUPPORT. Laws stated command by command. `WellFormed`: a command that no interface carries is one of three named forms, so
every other command is well formed by its operand types. -/

namespace Sys2Proof.Laws.WellFormed

/-- The three forms that the operand types admit and no interface carries: a slice longer than 65,535 bytes (R120), an 'unknown'
request with a known code (R176), the return delay of G1 (R68). -/
def Statement (i : Instr) : Prop :=
  i.wellFormed = false →
    (∃ start index bytes, i = .sliceSubmit start index bytes ∧ 65535 < bytes.length) ∨
    (∃ code : Byte, i = .unknownRequest code ∧ 1 ≤ code.toNat ∧ code.toNat ≤ 12) ∨
    ∃ cancelled, i = .returnDelayExpiry ⟨.g1, cancelled⟩

/-- A command that is well formed whatever its operands satisfies the statement. -/
theorem of_wellFormed {i : Instr} (h : i.wellFormed = true) : Statement i := fun hf => by simp [h] at hf

theorem fullReset (straps : BitVec 11) : Statement (.fullReset straps) := of_wellFormed rfl
theorem characterReceived (data : Byte) (parity stopOk : Bool) : Statement (.characterReceived data parity stopOk) := of_wellFormed rfl
theorem gap : Statement .gap := of_wellFormed rfl
theorem carrierDetect (present : Bool) : Statement (.carrierDetect present) := of_wellFormed rfl
theorem quietWaitExpiry : Statement .quietWaitExpiry := of_wellFormed rfl
theorem sendComplete : Statement .sendComplete := of_wellFormed rfl
theorem stuckDrop : Statement .stuckDrop := of_wellFormed rfl
theorem joinTimerExpiry : Statement .joinTimerExpiry := of_wellFormed rfl
theorem peerLeft (peer : Addr) : Statement (.peerLeft peer) := of_wellFormed rfl
theorem beaconPeriod : Statement .beaconPeriod := of_wellFormed rfl
theorem slewTick : Statement .slewTick := of_wellFormed rfl
theorem offerClaimPeriod (which : Announcement) : Statement (.offerClaimPeriod which) := of_wellFormed rfl
theorem supplyReadyChange (high : Bool) : Statement (.supplyReadyChange high) := of_wellFormed rfl
theorem railPresentChange (milliVolts : Nat) : Statement (.railPresentChange milliVolts) := of_wellFormed rfl
theorem tripHoldExpiry : Statement .tripHoldExpiry := of_wellFormed rfl
theorem returnDelayExpiry (delay : DelayEnd) : Statement (.returnDelayExpiry delay) := fun h =>
  .inr (.inr ⟨delay.cancelled, by
    obtain ⟨g, c⟩ := delay
    cases g <;> first | rfl | simp [Instr.wellFormed, delayedGrade] at h⟩)
theorem raiseTimerExpiry (load : Load) : Statement (.raiseTimerExpiry load) := of_wellFormed rfl
theorem railMeasurement (milliVolts : Nat) : Statement (.railMeasurement milliVolts) := of_wellFormed rfl
theorem clearTimerExpiry : Statement .clearTimerExpiry := of_wellFormed rfl
theorem supplyGraceExpiry : Statement .supplyGraceExpiry := of_wellFormed rfl
theorem deliveredCurrentMeasurement (milliAmps : Nat) : Statement (.deliveredCurrentMeasurement milliAmps) := of_wellFormed rfl
theorem tripTimerExpiry : Statement .tripTimerExpiry := of_wellFormed rfl
theorem offTimeExpiry : Statement .offTimeExpiry := of_wellFormed rfl
theorem settleTimerExpiry : Statement .settleTimerExpiry := of_wellFormed rfl
theorem listenTimerExpiry : Statement .listenTimerExpiry := of_wellFormed rfl
theorem confirmTimerExpiry : Statement .confirmTimerExpiry := of_wellFormed rfl
theorem baseForcedExpiry : Statement .baseForcedExpiry := of_wellFormed rfl
theorem receiverStateChange (lane : Lane) (locks : Bool) : Statement (.receiverStateChange lane locks) := of_wellFormed rfl
theorem trainingTimerExpiry : Statement .trainingTimerExpiry := of_wellFormed rfl
theorem lanePacketReceived (lane : Lane) (bytes : List Byte) : Statement (.lanePacketReceived lane bytes) := of_wellFormed rfl
theorem lanePacketSent (lane : Lane) : Statement (.lanePacketSent lane) := of_wellFormed rfl
theorem dozeTimerExpiry : Statement .dozeTimerExpiry := of_wellFormed rfl
theorem lostOnWake (length : Nat) : Statement (.lostOnWake length) := of_wellFormed rfl
theorem sliceSubmit (start : Bool) (index : Byte) (bytes : List Byte) : Statement (.sliceSubmit start index bytes) := fun h =>
  .inl ⟨start, index, bytes, rfl, by simpa [Instr.wellFormed, sliceLengthOk] using h⟩
theorem sliceScan : Statement .sliceScan := of_wellFormed rfl
theorem sensorWriteComplete : Statement .sensorWriteComplete := of_wellFormed rfl
theorem dataReadyEdge : Statement .dataReadyEdge := of_wellFormed rfl
theorem sensorReadComplete (raw : Axes) : Statement (.sensorReadComplete raw) := of_wellFormed rfl
theorem sensorStall : Statement .sensorStall := of_wellFormed rfl
theorem motionFallbackExpiry : Statement .motionFallbackExpiry := of_wellFormed rfl
theorem motionDrain (count : Byte) : Statement (.motionDrain count) := of_wellFormed rfl
theorem audioFrameInput (left right : Half) : Statement (.audioFrameInput left right) := of_wellFormed rfl
theorem presentationTimeReached : Statement .presentationTimeReached := of_wellFormed rfl
theorem outputFramePeriod : Statement .outputFramePeriod := of_wellFormed rfl
theorem slipTimerExpiry : Statement .slipTimerExpiry := of_wellFormed rfl
theorem micCapture (sample : Half) : Statement (.micCapture sample) := of_wellFormed rfl
theorem micOutputSample : Statement .micOutputSample := of_wellFormed rfl
theorem remoteRestartTimerExpiry : Statement .remoteRestartTimerExpiry := of_wellFormed rfl
theorem remoteStart (target operation item : Byte) (value : Half) : Statement (.remoteStart target operation item value) := of_wellFormed rfl
theorem deadlineExpiry : Statement .deadlineExpiry := of_wellFormed rfl
theorem remoteResult : Statement .remoteResult := of_wellFormed rfl
theorem itemRead (item : Byte) : Statement (.itemRead item) := of_wellFormed rfl
theorem itemWrite (item : Byte) (value : Half) : Statement (.itemWrite item value) := of_wellFormed rfl
theorem statusRead : Statement .statusRead := of_wellFormed rfl
theorem counterRead (group : Byte) : Statement (.counterRead group) := of_wellFormed rfl
theorem rosterRead : Statement .rosterRead := of_wellFormed rfl
theorem allowanceRead : Statement .allowanceRead := of_wellFormed rfl
theorem laneRead : Statement .laneRead := of_wellFormed rfl
theorem framesRead : Statement .framesRead := of_wellFormed rfl
theorem restart : Statement .restart := of_wellFormed rfl
theorem restartTimerExpiry : Statement .restartTimerExpiry := of_wellFormed rfl
theorem unknownRequest (code : Byte) : Statement (.unknownRequest code) := fun h =>
  .inr (.inl ⟨code, rfl, by simp [Instr.wellFormed, unknownCode] at h; omega⟩)
theorem hostDeselect (clocked : Clocking) : Statement (.hostDeselect clocked) := of_wellFormed rfl
theorem railPowerLoss : Statement .railPowerLoss := of_wellFormed rfl
theorem characterMissing : Statement .characterMissing := of_wellFormed rfl

end Sys2Proof.Laws.WellFormed
end

