-- ==== Sys2Proof/Laws/Shared.lean ====
section
/-! SUPPORT. Once each, everything the shared operations of several statements can do: the computation and the grace of the power
manager, the announcing, a change of the lane agreement controller and the opening of a round, the feeding of a transmitter, the
schedule copy, the audio controller's power, the sensor port's level, the roster's hearing of a burst, and the reading of a host
frame. -/

namespace Sys2Proof.Machine

variable {s : State}

/-- Each claim held, as R55 has the computation read it, in roster order. -/
theorem claimantsOf_eq (r : Roster) : claimantsOf r = r.entries.filterMap (fun e => e.claim.map (fun c =>
    (⟨e.addr, min c.cls 2, c.floor, max c.want c.floor⟩ : Claimant))) := by
  have h : claimantOf = fun e => e.claim.map (fun c =>
      (⟨e.addr, min c.cls 2, c.floor, max c.want c.floor⟩ : Claimant)) := by
    funext e; unfold claimantOf; cases e.claim <;> rfl
  rw [claimantsOf, h]

/-- With a supplier entry the list is replaced, and SUPPLY_SHORT raised in the short case; else nothing is run (R58, R63, R64). -/
theorem State.runAllowances_eq : s.runAllowances =
    if s.roster.hasSupplier = true then { s with
      power := { s.power with allowances := some (computeAllowances s.roster) }
      host := { s.host with sticky :=
        if (computeAllowances s.roster).short = true then s.host.sticky ||| Flag.supplyShort.bit else s.host.sticky } }
    else s := by
  unfold State.runAllowances; dsimp only; (repeat' split) <;> rfl

/-- Only the grace and SUPPLY_LOST move, and only at a RELAY or HEADSET (R86). -/
theorem State.checkSupply_eq : s.checkSupply = { s with power := { s.power with
    lostActive := s.power.lostActive && !(s.tetherPowered && s.roster.hasSupplier)
    graceFrom :=
      if s.tetherPowered = false then s.power.graceFrom
      else if s.roster.hasSupplier = true then none
      else if s.power.graceFrom.isSome || s.power.lostActive then s.power.graceFrom else some s.clock.now } } := by
  unfold State.checkSupply; (repeat' split) <;> simp_all

/-- The copy becomes the roster's; a change of it closes the submission (R119). -/
theorem State.syncSchedule_eq : s.syncSchedule =
    if s.role = .source ∧ s.sliceSource.schedule ≠ scheduleOf s.roster then
      { s with sliceSource := { s.sliceSource with schedule := scheduleOf s.roster, submission := none } }
    else s := by
  unfold State.syncSchedule; dsimp only; (repeat' split) <;> simp_all

/-- The audio controller of a HEADSET follows the parked condition; nothing is counted (R159). -/
theorem State.syncAudioPower_eq : s.syncAudioPower =
    if s.role ≠ .headset ∨ s.parked = s.audioHeadset.down then s
    else if s.parked = true then { s with audioHeadset := { s.audioHeadset with
      queue := [], lastSeq := none, output := .waiting, slipFrom := none, twice := false, frameOut := (0, 0), micBuild := []
      down := true } }
    else { s with audioHeadset := { s.audioHeadset with
      down := false, capTaken := captureFrom s.audioHeadset.capTaken s.clock.now } } := by
  unfold State.syncAudioPower; (repeat' split) <;> simp_all

/-- A changed level at a HEADSET is noted during a write or a read, else its write starts (R131). -/
theorem State.handLevels_eq (before : Levels) : s.handLevels before =
    if s.role = .headset ∧ s.loads.current.motion ≠ before.motion then
      { s with motionHeadset :=
        if s.motionHeadset.port = .setting ∨ s.motionHeadset.reading.isSome = true then { s.motionHeadset with again := true }
        else { s.motionHeadset with
          port := .setting, writing := s.loads.current.motion, again := false, stallFrom := none, stalled := false } }
    else s := by
  unfold State.handLevels State.motionLevelChanged State.startSensorWrite; (repeat' split) <;> simp_all

/-- A burst that is no clash: nothing from address 0; else the roster, and for a usable BEACON then the clock (R35, R47). -/
theorem State.rosterHears_ordinary {h : Heard} (ha : s.ownAddress h = false) (hr : s.roleClash h = false) : s.rosterHears h =
    if h.sender = 0 then s
    else if h.kind = .beacon ∧ (beaconRole h.payload).isSome then
      (s.rosterTakes h).clockHears h.tether (fieldAt h.payload 0 4)
    else s.rosterTakes h := by
  simp [State.rosterHears, ha, hr]

/-- A request is read once the frame its code fixes is whole, and from no other byte of the selection (R175). -/
theorem readRequest_cons_eq_some {code : Byte} {args : List Byte} {i : Instr} :
    readRequest (code :: args) = some i ↔ requestLength code ≤ args.length + 1 ∧ requestOf code args = i := by
  by_cases h : args.length + 1 < requestLength code
  · simp [readRequest, h, Nat.not_le.mpr h]
  · simp [readRequest, h, Nat.not_lt.mp h]

/-- Levels handed to the sensor port leave the agreement controller and the power manager as they are. -/
@[simp] theorem State.plan_agree : s.plan.agree = s.agree := by
  unfold State.plan; split
  · rw [State.handLevels_eq]; split <;> rfl
  · rfl
@[simp] theorem State.plan_power : s.plan.power = s.power := by
  unfold State.plan; split
  · rw [State.handLevels_eq]; split <;> rfl
  · rfl
@[simp] theorem State.tellDataBlocks_agree (b : Bool) : (s.tellDataBlocks b).agree = s.agree := by
  unfold State.tellDataBlocks State.dataBlocksLeave State.dataBlocksEnter; (repeat' split) <;> rfl
@[simp] theorem State.tellDataBlocks_power (b : Bool) : (s.tellDataBlocks b).power = s.power := by
  unfold State.tellDataBlocks State.dataBlocksLeave State.dataBlocksEnter; (repeat' split) <;> rfl

/-- What a change of the agreement state leaves in the controller: the step timer of a timed state runs from now (R94). -/
theorem State.changeAgree_agree (st : AgreeState) (g : Option Grade) (r : Reason) : (s.changeAgree st g r).agree =
    { s.agree with state := st, chosen := g, reason := r, stepFrom := if st.timed then some s.clock.now else none } := by
  simp [State.changeAgree, State.writeSummary]
@[simp] theorem State.changeAgree_power (st : AgreeState) (g : Option Grade) (r : Reason) :
    (s.changeAgree st g r).power = s.power := by simp [State.changeAgree, State.writeSummary]

/-- The opening of a round, over the roster and the mode set as they stand (R96). -/
theorem State.openRound_agree (r : Reason) : (s.openRound r).agree = s.agree.opened r s := by
  unfold State.openRound Agree.opened
  (repeat' split) <;> simp_all [State.halt, State.enterSettle, State.changeAgree_agree, AgreeState.timed, Agree.haltedFor,
    State.setRound]

/-- A node takes SET_CHANGED and PATH_CHANGED by its role and its controller's state and reason (R96). -/
theorem State.takesTriggers_eq : s.takesTriggers = s.agree.takes s.role := by
  have h : s.onPath = decide (s.role ≠ .battery) := by unfold State.onPath atPicturePath; cases s.role <;> rfl
  rw [State.takesTriggers, Agree.takes, h]

/-- A path change (R93, R96). -/
theorem State.pathChanged_agree : s.pathChanged.agree = s.agree.afterPath true s := by
  unfold State.pathChanged Agree.afterPath
  rw [State.takesTriggers_eq]; split <;> simp_all [State.openRound_agree]

/-- A change of the own mode set (R96, R107). -/
theorem State.ownSetChanged_agree : s.ownSetChanged.agree = s.agree.afterSet true s := by
  unfold State.ownSetChanged Agree.afterSet
  rw [State.takesTriggers_eq]
  (repeat' split) <;> simp_all [State.openRound_agree, State.halt, State.changeAgree_agree, AgreeState.timed, Agree.haltedFor]

/-- Announcing an offer: its burst is offered and its period restarts, while ACTIVE (R57). -/
theorem State.announceOffer_eq {o : Offer} (h : s.roster.self.offer = some o) : s.announceOffer =
    if s.roster.join = .active then
      ({ s with power := { s.power with offerFrom := some s.clock.now } } : State).offerBurst .offer (offerPayload o)
    else s := by
  unfold State.announceOffer; rw [h]; split <;> simp_all

/-- A claim, in the same way (R57). -/
theorem State.announceClaim_eq {c : Claim} (h : s.roster.self.claim = some c) : s.announceClaim =
    if s.roster.join = .active then
      ({ s with power := { s.power with claimFrom := some s.clock.now } } : State).offerBurst .claim (claimPayload c)
    else s := by
  unfold State.announceClaim; rw [h]; split <;> simp_all

/-- Feeding from the send queue reaches the down-lane transmitter alone (R123). -/
theorem State.feedSlices_lanes : s.feedSlices.lanes = { s.lanes with downTx := s.feedSlices.lanes.downTx } := by
  have h : ∀ u : State, u.feedSlice.lanes = { u.lanes with downTx := u.feedSlice.lanes.downTx } := by
    intro u; unfold State.feedSlice; (repeat' split) <;> rfl
  unfold State.feedSlices; rw [h, h]

@[simp] theorem readRequest_nil : readRequest [] = none := rfl

end Sys2Proof.Machine
end

