-- ==== Sys2Proof/Tests/Slice0.lean ====
section
/-! SUPPORT. Tests: the well-formedness smoke, the reset state, worked cases of the spec, and for every statement of
Certificates/Slice0/Obligations.lean a witness that meets its hypotheses, clause by clause, at the ends of the ranges. Expected
values are the spec's; the rule or section is named at each. -/

namespace Sys2Proof.Tests

open Sys2Proof.Machine

/-! ## Small states -/

/-- Full reset at address 1 with the role's strap code (R26): CEILING G4, OFFER CLASS 0, 90 Hz. -/
def source : State := State.reset
def relay : State := State.reset.fullReset 197
def headset : State := State.reset.fullReset 198
def battery : State := State.reset.fullReset 199
/-- A strap fault: ADDR 0 (R29). -/
def faulted : State := State.reset.fullReset 192

def State.withState (st : AgreeState) (g : Option Grade) (s : State) : State :=
  { s with agree := { s.agree with state := st, chosen := g, stepFrom := some 5 } }

def State.active (s : State) : State := { s with roster := { s.roster with join := .active, joinFrom := none } }

/-- The node after a command. -/
def after (c : Instr) (s : State) : State :=
  match exec c s with
  | .next t => t
  | _ => s

/-- A peer's entry: its role, offer and claim, and a mode set and a CONFIRM of a round. -/
def peer (a : Addr) (r : Role) (o : Option Offer) (c : Option Claim) (m : Option ModeSet) (k : Option Confirm) : Entry :=
  { newEntry a with role := some r, lastHeard := some 0, offer := o, claim := c, modeSet := m, confirm := k }

def State.hearing (l : List Entry) (s : State) : State := { s with roster := { s.roster with peers := l } }

/-- A SOURCE at address 1 with a HEADSET at 5 on its path: the chain is complete. -/
def chained : State := State.hearing [peer 5 .headset none none none none] (State.active source)

/-! ## Well-formedness: each check refuses an ill-formed command -/

theorem test_wellFormed_refuses_long_slice (l : List Byte) (h : l.length = 65536) :
    Instr.wellFormed (.sliceSubmit true 0 l) = false := by simp [Instr.wellFormed, sliceLengthOk, h]
theorem test_wellFormed_takes_longest_slice (l : List Byte) (h : l.length = 65535) :
    Instr.wellFormed (.sliceSubmit true 0 l) = true := by simp [Instr.wellFormed, sliceLengthOk, h]
theorem test_wellFormed_refuses_known_code : Instr.wellFormed (.unknownRequest 5) = false := by decide
theorem test_wellFormed_takes_unknown_code : Instr.wellFormed (.unknownRequest 13) = true := by decide
theorem test_wellFormed_refuses_g1_delay : Instr.wellFormed (.returnDelayExpiry ⟨.g1, false⟩) = false := by decide

/-! ## Reset, decoding, worked cases of the spec -/

/-- `State.reset` is what FULL_RESET leaves with the straps of assumption 3. -/
theorem reset_is_full_reset : after (.fullReset 196) source = State.reset := by decide

/-- No table row has bits. -/
theorem test_no_word_is_a_command : decodeTableWord 8 1 = none := by decide

/-- R26: ROLE in STRAP0 and 1, ADDR in 2 to 4, REFRESH 5, CEILING 6 and 7, OFFER CLASS 8 and 9, MOTION MAX 10. -/
theorem test_straps :
    decodeStraps 0b10110110110 =
      { role := .headset, addr := 5, refresh120 := true, ceiling := .g3, offerClass := 1, motion2000 := true } := by decide

/-- R5: the frame of a NOTICE of address 3, kind 6, has the header 0x66 and the length 2; its check covers them. -/
theorem test_frame_head : (burstFrame 3 .notice [4, 0]).take 7 = [0x55, 0x55, 0xC3, 0x66, 2, 4, 0] := by decide

/-- Section 1.8's table of waits: 1,232, 1,584 and, with courtesy, 3,344 µs; the longest is 13,552 (R17). -/
theorem test_quiet_waits :
    requiredWait 1 0 false = 1232 ∧ requiredWait 3 0 false = 1584 ∧ requiredWait 5 0 true = 3344 ∧
      requiredWait 7 7 true = 13552 := by decide

/-- Section 3.4.1 to 3.4.3: the roster of the worked cases, with the SOURCE's offer and RELAY 3's want. -/
def worked (offer want : Nat) : Roster :=
  { (State.hearing
      [peer 2 .relay none (some ⟨100, 175, 0⟩) none none, peer 3 .relay none (some ⟨100, want, 0⟩) none none,
       peer 5 .headset none (some ⟨456, 894, 1⟩) none none] source).roster with
    self := { source.roster.self with offer := some ⟨offer, 0⟩ } }

theorem test_allowances_at_1000 :
    computeAllowances (worked 1000 175) =
      ⟨1000, 63, 937, false, [⟨2, 0, 175, false⟩, ⟨3, 0, 175, false⟩, ⟨5, 1, 587, false⟩]⟩ := by decide
theorem test_allowances_at_500 :
    computeAllowances (worked 500 175) =
      ⟨500, 32, 468, false, [⟨2, 0, 175, false⟩, ⟨3, 0, 175, false⟩, ⟨5, 1, 15, true⟩]⟩ := by decide
theorem test_allowances_shared :
    computeAllowances (worked 800 125) =
      ⟨800, 50, 750, false, [⟨2, 0, 170, false⟩, ⟨3, 0, 123, false⟩, ⟨5, 1, 456, false⟩]⟩ := by decide

/-- Sections 3.5 and 4.7: the caps of an allowance of 587 over a floor of 456 at droop levels 0 to 2. -/
theorem test_caps : [0, 1, 2].map (cappedAllowance 587 456) = [587, 555, 522] := by decide

/-- Section 4.2.1: targets at a cap of 587 with the lane at G4, in SHED_ORDER 0 and 2. -/
theorem test_targets :
    shed .headset 587 (shedOrder 0) 8 ⟨4, 3, 2, 3⟩ = ⟨4, 1, 1, 3⟩ ∧ shed .headset 587 (shedOrder 2) 8 ⟨4, 3, 2, 3⟩ = ⟨4, 1, 0, 3⟩ := by
  decide

/-- R66, R72: floors 100 and 456; wants 175 and 894. -/
theorem test_costs :
    floorCost .relay = 100 ∧ floorCost .headset = 456 ∧ totalCost .relay ⟨4, 0, 0, 0⟩ = 175 ∧
      totalCost .headset ⟨4, 3, 2, 3⟩ = 894 := by decide

/-- R118: the scan offsets of slices 1, 6 and 11 at 90 Hz. -/
theorem test_scan_offsets : [1, 6, 11].map (scanTime 0 false 0) = [925, 5555, 10185] := by decide

/-- R137's table. -/
theorem test_calibration :
    calibrate 1200 (-48) 16800 = (1280, false) ∧ calibrate 1 0 8192 = (1, false) ∧ calibrate (-1) 0 8192 = (-1, false) ∧
      calibrate 30000 (-10000) 16384 = (32767, true) ∧ calibrate (-32768) 0 16384 = (-32768, false) ∧
      calibrate 20000 0 32768 = (32767, true) := by decide

/-- R158's table. -/
theorem test_output_arithmetic :
    outputSample 200 2 30000 = 11718 ∧ outputSample 200 2 (-30000) = -11718 ∧ outputSample 200 1 30000 = 5859 ∧
      outputSample 256 1 (-1) = 0 ∧ outputSample 256 3 32767 = 32767 ∧ outputSample 0 3 12000 = 0 := by decide

/-- R46: a field just past the wrap is rebuilt above it, one just below is rebuilt below it. -/
theorem test_rebuilt_time :
    rebuildTether (2 ^ 32 - 5) 3 = 2 ^ 32 + 3 ∧ rebuildTether (2 ^ 32 + 5) (2 ^ 32 - 1) = 2 ^ 32 - 1 := by decide

/-! ## One step of each kind -/

/-- The twelve frames of section 11.4, ITEM_WRITE's value 10,000 and REMOTE_START's 6,000 low byte first, and an unknown code. -/
theorem test_request_frames :
    [[1, 30], [2, 7, 0x10, 0x27], [3], [4, 2], [5], [6], [7], [8, 3], [9], [10, 5, 2, 26, 0x70, 0x17], [11], [12], [13]].map readRequest =
      [Instr.itemRead 30, .itemWrite 7 10000, .statusRead, .counterRead 2, .rosterRead, .allowanceRead, .laneRead, .motionDrain 3,
        .framesRead, .remoteStart 5 2 26 6000, .remoteResult, .restart, .unknownRequest 13].map some := by decide
/-- R175: a partial frame is discarded; bytes after the frame are ignored, and clocked out of the reply. -/
theorem test_request_selection :
    selectionCommands [2, 7, 0x10] = [.hostDeselect ⟨0, 0⟩] ∧
      selectionCommands [4, 2, 9, 9, 9] = [.counterRead 2, .hostDeselect ⟨3, 0⟩] := by decide

/-- R12, R59: an OFFER of 1,000 mA heard by a SOURCE that offers 1,000 mA counts as RECEIVED and gives a total of 2,000 mA. -/
theorem test_offer_heard :
    (source.burstAccepted ⟨4, .offer, [0xE8, 3, 0], 0, 0⟩).counters.rail[1]? = some 1 ∧
      (source.burstAccepted ⟨4, .offer, [0xE8, 3, 0], 0, 0⟩).power.allowances.map AllowanceList.total = some 2000 := by decide
/-- R119: the HEADSET's BEACON gives the SOURCE its schedule. -/
theorem test_schedule_heard :
    (chained.burstAccepted ⟨5, .beacon, [0, 0, 0, 0, 3, 7, 9, 0, 0, 0, 2], 0, 0⟩).sliceSource.schedule = some ⟨9, true⟩ := by
  decide +kernel

/-- R176: an unknown code is answered UNKNOWN (5) and nothing else changes. -/
theorem test_unknown : (after (.unknownRequest 99) source).host.reply = [5] := by decide
/-- R178: a group above 4 is answered BAD_ARGUMENT (6). -/
theorem test_counterRead_bad : (after (.counterRead 5) source).host.reply = [6] := by decide
/-- A node whose request of the present selection has been taken, its reply waiting. -/
def replying (b : List Byte) (s : State) : State := { s with host := { s.host with reply := b, taken := true } }

/-- R175: bytes clocked after the reply's end are zero; after a reset in the selection every byte is. -/
theorem test_deselect : (after (.hostDeselect ⟨3, 0⟩) (replying [7, 8] source)).host.clocked = [7, 8, 0] := by decide
theorem test_deselect_after_reset :
    (after (.hostDeselect ⟨4, 1⟩) (replying [7, 8] source).restart).host.clocked = [7, 0, 0, 0] := by decide
/-- R175: a transaction carries exactly one request, also over a reset; the next selection begins a new one. -/
theorem test_one_request :
    after (.counterRead 0) (replying [7, 8] source) = replying [7, 8] source ∧
      (after .restart (replying [7, 8] source).restart).host.restartFrom = none := by decide
theorem test_next_selection :
    (after (.itemRead 30) (after (.hostDeselect ⟨2, 0⟩) (replying [7, 8] source))).host.reply = [0, 0x11, 1] := by decide
/-- R108: a node that is JOINING writes the round it adopts into its own mode set; one that has entered LISTEN does not. -/
theorem test_adopted_round :
    (source.roundHeard false 41).roster.self.modeSet.map ModeSet.round = some 41 ∧
      (({ source with agree := { source.agree with listened := true } } : State).roundHeard false 41).roster.self.modeSet.map
        ModeSet.round = some 0 := by decide
/-- R78, R125: the panel is dark at level 0 whatever the slice, and shows it at the level's brightness else. -/
theorem test_panel :
    ({ headset with loads := { headset.loads with current := ⟨1, 0, 0, 2⟩ } }.show 3 (some [9])).panelPort[3]? = some none ∧
      (headset.show 3 (some [9])).panelPort[3]? = some (some (1, [9])) := by decide
/-- R13, R28: at the end of the join the first bursts go behind the NOTICE, before the ANSWER, and the BEACON last, behind the MOTION. -/
theorem test_join_queue :
    (after .joinTimerExpiry { battery with rail := { battery.rail with
      queue := [⟨1, .notice, [3, 9], 0⟩, ⟨2, .answer, [1, 2, 0, 0, 0], 0⟩, ⟨3, .motion, [], 0⟩], nextId := 20 } }).rail.queue.map
        QEntry.kind = [.notice, .offer, .claim, .answer, .motion, .beacon] := by decide
/-- Section 11.1: clipped ry is bit 4, RANGE 6, FALLBACK 8, a rate of 2 stands in bits 9 and 10. -/
theorem test_motion_flags : motionFlags ⟨7, 9, ⟨0, 0, 0, 0, 0, 0⟩, 16, true, false, true, 2⟩ = 0x550 := by decide
/-- R71, section 11.4: the ALLOWANCE_READ of a SOURCE that has computed nothing: presence bit 4, the mode set of four grades, its
ceiling, no claimant, and the last notices. -/
theorem test_allowanceRead :
    (after .allowanceRead { source with power := { source.power with lastTrip := ⟨5, 2⟩ } }).host.reply =
      [0, 16] ++ List.replicate 9 0 ++ [15, 4] ++ List.replicate 9 0 ++ [0, 0, 5, 2, 0, 0] := by decide
/-- R165: a write above the range is held at its end and answered CLAMPED; IDENT is REFUSED. -/
theorem test_itemWrite_clamped : (after (.itemWrite 26 30000) source).host.reply = [1, 0x20, 0x4E] := by decide
theorem test_itemWrite_ident : (after (.itemWrite 30 0) source).host.reply = [4, 0x11, 1] := by decide
/-- R82: DROOP_CRIT stays 100 mV below DROOP_LOW. -/
theorem test_itemWrite_droop : (after (.itemWrite 7 11000) relay).item itemDroopCrit = 10700 := by decide
/-- R90: RAIL_ENABLE written 0 reads 0. -/
theorem test_railEnable : (after (.itemWrite 10 0) source).host.reply = [0, 0, 0] := by decide
/-- R169: a target that is the node's own address is SELF (10), one not in the roster NO_PEER (11). -/
theorem test_remoteStart_self : (after (.remoteStart 1 1 2 3) source).host.reply = [10] := by decide
theorem test_remoteStart_noPeer : (after (.remoteStart 9 1 2 3) source).host.reply = [11] := by decide
/-- R87, R88: the third measurement above the offer sets OVERDRAW. -/
theorem test_overdraw :
    (after (.deliveredCurrentMeasurement 1001)
      { source with power := { source.power with overrun := 2 } }).sticky .overdraw = true := by decide
/-- R89: 1,251 mA trips at an offer of 1,000 mA, 1,250 mA does not. -/
theorem test_sharp_trip : sharpTrip 1251 1000 = true ∧ sharpTrip 1250 1000 = false := by decide
/-- R111: RUNNING is left when the lock is lost. -/
theorem test_lock_lost :
    (after (.receiverStateChange .up false) { State.withState .running (some .g4) chained with
      lanes := { chained.lanes with upRx := .locked } }).agree.reason = .lockLost := by decide
/-- R121: a slice outside RUNNING is answered NO_LANE. -/
theorem test_sliceSubmit_noLane : (after (.sliceSubmit true 0 [1]) source).sliceSource.answer = answerNoLane := by decide
/-- R145, R176: a drain of 9 is refused. -/
theorem test_motionDrain_bad : (after (.motionDrain 9) source).host.reply = [6] := by decide
/-- R180, R181: MASK_LOW's default unmasks flags 8, 10 and 13, so DROOP_CRIT asserts the attention output and GIVE_UP does not. -/
theorem test_attention :
    ({ source with host := { source.host with sticky := Flag.droopCrit.bit } } : State).attn = true ∧
      ({ source with host := { source.host with sticky := Flag.giveUp.bit } } : State).attn = false := by decide

/-! ## Witnesses: the whole machine -/

theorem headset_bounded : headset.Bounded :=
  { counters := ⟨by decide, by decide, by decide, by decide, by decide⟩, railQueue := by decide, droop := by decide
    sendQueue := by decide, frames := by decide, slices := ⟨by decide, by decide, by decide⟩, motion := by decide
    playback := by decide, mic := ⟨by decide, by decide, by decide⟩, stale := by decide, items := by decide
    waiting := fun l => by cases l <;> exact ⟨List.Pairwise.nil, fun _ => Nat.zero_le _⟩
    anchor := fun _ => rfl, sensor := fun h => absurd rfl h }

theorem witness_FrontCommandRuns : source.pending = [] ∧ source.powered = true := by decide
theorem witness_EveryCommandAnswers :
    Instr.wellFormed (.unknownRequest 0) = true ∧ Instr.wellFormed (.unknownRequest 13) = true ∧
      1 ≤ (1 : Byte).toNat ∧ (12 : Byte).toNat ≤ 12 := by decide
/-- The three clauses: a SOURCE, a RELAY, and a node without power before a GAP and a HOST_DESELECT. -/
theorem witness_UnpoweredNodeStops :
    (source.powered = true ∧ source.tetherPowered = false) ∧ (relay.powered = true ∧ relay.tetherPowered = true) ∧
      (after .railPowerLoss relay).powered = false ∧ Instr.wellFormed .gap = true := by decide
theorem witness_BoundsAreKept : headset.Bounded ∧ ∃ t, step headset = .next t := ⟨headset_bounded, _, rfl⟩
/-- At the greatest tether time and slew. -/
theorem witness_ClocksNeverRunBack :
    ∃ s : State, s.clock.Bounded ∧ s.clock.tether = tetherMax ∧ s.clock.slew = 63 ∧ s.fullResetNext = false ∧
      ∃ t, step s = .next t :=
  ⟨{ source with clock := ⟨9, tetherMax, 63, 0⟩, pending := [.slewTick] }, ⟨by decide, by decide⟩, by decide, by decide,
    by decide, _, rfl⟩
theorem witness_ListenOnlyStaysSilent :
    faulted.roster.join = .listenOnly ∧ faulted.roster.joinFrom = none ∧ faulted.rail.queue = [] ∧ faulted.rail.sending = none ∧
      faulted.fullResetNext = false ∧ ∃ t, step faulted = .next t := ⟨by decide, by decide, by decide, by decide, by decide, _, rfl⟩
/-- Before a period's end and before a character that completes nothing. -/
theorem witness_StrapsAndItemsAreHeld :
    ∀ c ∈ [Instr.beaconPeriod, .characterReceived 0 true true], ∃ s : State, s.pending = [c] ∧ s.fullResetNext = false ∧
      s.itemsMayChange = false ∧ ∃ t, step s = .next t := by
  intro c hc
  refine ⟨{ source with pending := [c] }, rfl, ?_, ?_, ?_⟩ <;>
    rcases List.mem_pair.mp hc with rfl | rfl <;> first | rfl | exact ⟨_, rfl⟩
/-- Six peers, the most there are. -/
theorem witness_RosterFormIsKept :
    ∃ s : State, s.RosterSound ∧ s.roster.peers.length = 6 ∧ ∃ t, step s = .next t :=
  ⟨State.hearing ([2, 3, 4, 5, 6, 7].map (fun a => peer a .relay none none none none)) source,
    ⟨by decide, by decide, by decide, by decide, by decide, fun _ _ h => Option.some.inj h ▸ rfl⟩, by decide, _, rfl⟩
theorem witness_QueueOrderIsKept :
    ∃ s : State, s.rail.Ordered ∧ s.rail.queue.map QEntry.kind = [.notice, .offer, .beacon] ∧ ∃ t, step s = .next t :=
  ⟨{ source with rail := { source.rail with queue := [⟨0, .notice, [4, 0], 0⟩, ⟨1, .offer, [1, 2, 3], 0⟩, ⟨2, .beacon, [], 0⟩] } },
    ⟨by decide, by intro k; cases k <;> decide⟩, by decide, _, rfl⟩
theorem witness_LoadLevelsAreKept :
    headset.loads.Settled ∧ ∃ t, step headset = .next t :=
  ⟨⟨by decide, by decide, by decide, by decide⟩, _, rfl⟩

/-! ## Witnesses: the rail channel -/

/-- A receiver in the middle of a burst, its last stop bit at local time 0. -/
def assembling (chars : List Byte) (now : Nat) : State :=
  { State.active source with
    clock := ⟨now, now, 0, 0⟩, rail := { source.rail with rx := .assembling ⟨chars, 0, 0, 0⟩ } }

/-- A burst being sent: its kind, attempts, and how many characters have been heard. -/
def keying (k : BurstKind) (attempts heard : Nat) : State :=
  { State.active source with rail := { source.rail with
      sending := some ⟨⟨7, k, [4, 0], attempts⟩, burstFrame 1 k [4, 0], 0, heard⟩, nextId := 8 } }

def queued (l : List QEntry) : State :=
  { State.active source with rail := { source.rail with queue := l, nextId := 20, stuck := some (0, 0) } }

/-- The shortest and the longest payloads of section 1.2. -/
theorem witness_BurstIsHeardWhole :
    source.powered = true ∧ source.rail.sending = none ∧ source.rail.rx = .hunting ∧
      BurstKind.lengthOk .notice ([1, 2] : List Byte).length = true ∧ BurstKind.lengthOk .motion (List.replicate 20 (0 : Byte)).length = true ∧
      BurstKind.lengthOk .modeset (List.replicate 3 (0 : Byte)).length = true := by decide
/-- Hunting; a gap; a character after 353 µs, the first overdue time. -/
theorem witness_StartMarksAndGapsBoundBursts :
    (source.powered = true ∧ source.rail.rx = .hunting ∧ source.rail.sending = none) ∧
      (assembling [1] 353).powered = true ∧ (assembling [1] 353).rail.rx = .assembling ⟨[1], 0, 0, 0⟩ ∧
      (assembling [1] 353).rail.sending = none ∧ 0 + 352 < (assembling [1] 353).clock.now := by decide
theorem witness_GarbledAbandonsBurst :
    garbled 0 false true = true ∧ garbled 0 true false = true ∧ source.rail.rx = .hunting ∧
      (assembling [1] 352).rail.rx = .assembling ⟨[1], 0, 0, 0⟩ ∧ (assembling [1] 352).clock.now ≤ 0 + 352 ∧
      (assembling [1] 352).rail.sending = none := by decide
theorem witness_LongLengthAbandonsBurst :
    (assembling [1] 352).rail.rx = .assembling ⟨[1], 0, 0, 0⟩ ∧ ([1] : List Byte).length = 1 ∧ garbled 25 false true = false ∧
      24 < (25 : Byte).toNat ∧ (assembling [1] 352).clock.now ≤ 0 + 352 := by decide
/-- At the lengths 0 and 24. -/
theorem witness_WholeBurstIsJudged :
    ([1, 0, 9] : List Byte).length = 3 + (byteAt [1, 0, 9] 1).toNat ∧
      ((1 : Byte) :: 24 :: List.replicate 25 0).length = 3 + (byteAt (1 :: 24 :: List.replicate 25 0) 1).toNat ∧
      (byteAt (1 :: 24 :: List.replicate 25 0) 1).toNat ≤ 24 ∧ garbled 0 true true = false ∧
      (assembling [1, 0, 9] 352).clock.now ≤ 0 + 352 ∧ source.role = .source ∧ headset.role ≠ .source := by decide
/-- Heard as sent; a clash at attempts 6 and 7, the 7th and 8th clash, of a NOTICE and of an ASK. -/
theorem witness_SentCharactersAreCompared :
    (∃ x, (keying .notice 6 0).rail.sending = some x ∧ x.frame[x.heard]? = some 0x55 ∧ x.entry.attempts = 6) ∧
      (∃ x, (keying .ask 7 2).rail.sending = some x ∧ x.frame[x.heard]? = some 0xC3 ∧ (0 : Byte) ≠ 0xC3 ∧ x.entry.attempts = 7) ∧
      garbled 0x55 true true = false := by
  exact ⟨⟨_, rfl, by decide, rfl⟩, ⟨_, rfl, by decide, by decide, rfl⟩, by decide⟩
/-- Nothing begins: JOINING, carrier, sending, no entry. A head waits. -/
theorem witness_QuietTimeGatesSending :
    source.roster.join ≠ .active ∧ (keying .notice 0 0).rail.sending ≠ none ∧ (State.active source).rail.queue = [] ∧
      (queued [⟨0, .beacon, List.replicate 6 0, 7⟩]).roster.join = .active ∧
      (queued [⟨0, .beacon, List.replicate 6 0, 7⟩]).rail.carrierIn = false ∧
      (queued [⟨0, .beacon, List.replicate 6 0, 7⟩]).rail.sending = none ∧
      (queued [⟨0, .beacon, List.replicate 6 0, 7⟩]).rail.queue = ⟨0, .beacon, List.replicate 6 0, 7⟩ :: [] := by decide
theorem witness_SendingCompletes :
    (keying .ask 0 0).powered = true ∧ (keying .ask 0 0).rail.sending.isSome ∧ (keying .ask 0 0).remote.restartFrom = none ∧
      (keying .ask 0 0).rail.stuck = none ∧ (keying .ask 0 0).roster.join = .active ∧
      (∃ x, (keying .notice 0 0).rail.sending = some x ∧ some 6 ≠ some x.entry.id) ∧
      ∃ x, (keying .ask 0 0).rail.sending = some x ∧ x.entry.kind = .ask :=
  ⟨by decide, by decide, by decide, by decide, by decide, ⟨_, rfl, by decide⟩, _, rfl, rfl⟩
theorem witness_StuckHeadIsDropped :
    (queued [⟨0, .notice, [4, 0], 0⟩, ⟨1, .offer, [1, 2, 3], 0⟩]).rail.stuck = some (0, 0) ∧
      (queued [⟨0, .notice, [4, 0], 0⟩, ⟨1, .offer, [1, 2, 3], 0⟩]).rail.queue =
        ⟨0, .notice, [4, 0], 0⟩ :: [⟨1, .offer, [1, 2, 3], 0⟩] := by decide
def eightNotices : List QEntry := (List.range 8).map (fun i => ⟨i, .notice, [4, 0], 0⟩)
def sevenAndBeacon : List QEntry := (List.range 7).map (fun i => ⟨i, .notice, [4, 0], 0⟩) ++ [⟨9, .beacon, [], 0⟩]
/-- Listen-only; a waiting OFFER replaced; room; the newest BEACON gives way at 8; nothing gives way at 8. -/
theorem witness_OfferedBurstIsQueued :
    faulted.roster.join = .listenOnly ∧
      (BurstKind.replaceable .offer = true ∧ ∃ e ∈ (queued [⟨1, .offer, [1, 2, 3], 0⟩]).rail.queue, e.kind = .offer) ∧
      (queued []).rail.size < 8 ∧
      (8 ≤ (queued sevenAndBeacon).rail.size ∧ newestPeriodic sevenAndBeacon = some ⟨9, .beacon, [], 0⟩) ∧
      (8 ≤ (queued eightNotices).rail.size ∧ newestPeriodic eightNotices = none) := by decide

/-! ## Witnesses: joining, roster, tether clock -/

/-- A node that queued bursts while it was JOINING. -/
def joiningWith (q : List QEntry) (s : State) : State := { s with rail := { s.rail with queue := q, nextId := 20 } }
def joinQueue : List QEntry := [⟨1, .notice, [3, 9], 0⟩, ⟨2, .answer, [1, 2, 0, 0, 0], 0⟩, ⟨3, .motion, [], 0⟩]
/-- Each role at the end of its reset, with nothing queued, with a NOTICE, an ANSWER and a MOTION, and with a full queue; a SOURCE with
a complete chain; one with an empty mode set. -/
theorem witness_JoinEndsActive :
    (∀ s ∈ [source, relay, headset, battery], ∀ q ∈ [[], joinQueue, joinQueue ++ joinQueue ++ joinQueue.take 2],
      (joiningWith q s).powered = true ∧ (joiningWith q s).roster.join = .joining ∧ (joiningWith q s).roster.joinFrom = some 0 ∧
      (joiningWith q s).rail.sending = none ∧
      (∀ e ∈ (joiningWith q s).rail.queue, e.kind ≠ .beacon ∧ e.kind ≠ .offer ∧ e.kind ≠ .claim) ∧
      (joiningWith q s).roster.self.offer.isSome = atSupplier s.role ∧
      (joiningWith q s).roster.self.claim.isSome = !atSource s.role) ∧
    joinQueue.length + 3 ≤ 8 ∧
    source.roster.chainComplete = false ∧ chained.roster.chainComplete = true ∧ chained.power.modeSet ≠ [] := by decide
theorem witness_SilentPeerIsRemoved :
    ∃ e, chained.powered = true ∧ chained.roster.find 5 = some e ∧ e.lastHeard = some 0 ∧ (5 : Addr) ≠ chained.straps.addr ∧
      byteAt [4, 0] 0 = 4 ∧ chained.roster.find 6 = none := ⟨_, rfl, rfl, rfl, by decide, by decide, by decide⟩

/-- A HEADSET whose roster holds the SOURCE's offer and knows no grace. -/
def supplied (offer : Option Offer) : State :=
  let s := State.hearing [peer 2 .source offer none none none] (State.active headset)
  { s with power := { s.power with graceFrom := none } }
/-- R86: the last offer leaves with its entry, or is heard again as another. -/
theorem witness_SupplyFollows :
    ((supplied (some ⟨1000, 0⟩)).roster.hasSupplier = true ∧ (supplied none).roster.hasSupplier = false ∧
      (supplied (some ⟨1000, 0⟩)).tetherPowered = true ∧ source.tetherPowered = false ∧
      (supplied (some ⟨1000, 0⟩)).power.graceFrom = none) ∧
    (Entry.take ⟨2, .offer, [0, 0, 1], 0, 0⟩ (peer 2 .source (some ⟨1000, 0⟩) none none none)).offer ≠ some ⟨1000, 0⟩ := by decide
/-- R38, R86: the grace starts at the removal, 350 ms after the peer was last heard; the list is kept. -/
theorem test_grace_starts :
    (after (.peerLeft 2) (supplied (some ⟨1000, 0⟩))).power.graceFrom = some 350000 ∧
      (after (.peerLeft 2) (supplied (some ⟨1000, 0⟩))).power.allowances = none := by decide
theorem chained_sound : chained.RosterSound :=
  ⟨by decide, by decide, by decide, by decide, by decide, fun _ _ h => Option.some.inj h ▸ rfl⟩
/-- The path loses an entry, and gains one by a RELAY's first BEACON; at a node that takes triggers, in SETTLE, and at one that does not,
in HALTED with NOT_JOINED. -/
def twoHeadsets : State :=
  State.withState .settle none (State.hearing [peer 5 .headset none none none none, peer 6 .headset none none none none] (State.active source))
theorem witness_AgreeFollows :
    (twoHeadsets.roster.find 6 = some (peer 6 .headset none none none none) ∧ (peer 6 .headset none none none none).onPath = true ∧
      (peer 6 .battery none none none none).onPath = false) ∧
    (newEntry 4).onPath = false ∧ (Entry.take ⟨4, .beacon, [0, 0, 0, 0, 2, 7], 0, 0⟩ (newEntry 4)).onPath = true ∧
    (twoHeadsets.agree.takes twoHeadsets.role = true ∧ source.agree.takes source.role = false) ∧
    (twoHeadsets.roster.chainComplete = true ∧ source.roster.chainComplete = false ∧ twoHeadsets.power.modeSet ≠ []) := by decide
/-- R93, R96: the removal of one of two HEADSETs opens a round; of the last, it halts the node. -/
theorem test_path_changed :
    (let t := after (.peerLeft 6) twoHeadsets
     t.agree.reason = .pathChanged ∧ t.agree.state = .settle ∧ t.agree.round = 1) ∧
    (after (.peerLeft 5) (State.withState .settle none chained)).agree.reason = .chainIncomplete := by decide

/-- A HEADSET entry with an anchor, the one lowest in address. -/
def anchored : Entry := { peer 5 .headset none none none none with anchor := some ⟨9, true⟩ }
theorem witness_ScheduleFollows :
    source.role = .source ∧ anchored ∈ (State.hearing [anchored] source).roster.entries ∧ anchored.role = some .headset ∧
      anchored.anchor = some ⟨9, true⟩ ∧ source.sliceSource.schedule ≠ some ⟨9, true⟩ ∧
      ∀ x ∈ (State.hearing [anchored] source).roster.entries,
        x.role = some .headset → x.anchor ≠ none → anchored.addr.toNat ≤ x.addr.toNat := by decide
/-- A new peer at address 7, and the one held at 5. -/
theorem witness_BurstUpdatesItsSendersEntry :
    chained.RosterSound ∧ (7 : Addr) ≠ 0 ∧ (7 : Addr) ≠ chained.straps.addr ∧ chained.roster.peers.length < 6 ∧
      chained.roster.find 7 = none ∧ chained.roster.find 5 ≠ none :=
  ⟨chained_sound, by decide, by decide, by decide, by decide, by decide⟩
/-- BEACONs: a SOURCE's of 6 characters, a HEADSET's of 11 with the period codes 0 and 2 and an anchor of the low bits 9, and two of
no usable form. -/
theorem witness_AnnouncementsReadBack :
    ((⟨65535, 0⟩ : Offer).current ≤ 65535 ∧ (⟨65535, 65535, 255⟩ : Claim).want ≤ 65535) ∧
    (byteAt [0, 0, 0, 0, 1, 7] 4 = Role.source.code ∧ ([0, 0, 0, 0, 1, 7] : List Byte).length = 6) ∧
    (byteAt [0, 0, 0, 0, 3, 7, 9, 0, 0, 0, 2] 4 = Role.headset.code ∧ ([0, 0, 0, 0, 3, 7, 9, 0, 0, 0, 2] : List Byte).length = 11 ∧
      (byteAt [0, 0, 0, 0, 3, 7, 9, 0, 0, 0, 2] 10).toNat = 2 ∧ fieldAt [0, 0, 0, 0, 3, 7, 9, 0, 0, 0, 2] 6 4 = 9 ∧
      (⟨2 ^ 32 + 9, false⟩ : Anchor).time % 2 ^ 32 = 9 ∧ (byteAt [0, 0, 0, 0, 3, 7, 9, 0, 0, 0, 0] 10).toNat ≠ 1) ∧
    (∀ r : Role, byteAt [0, 0, 0, 0, 9, 7] 4 ≠ r.code) ∧ ([0, 0, 0, 0, 1] : List Byte).length ≠ 6 :=
  ⟨by decide, by decide, by decide, by intro r; cases r <;> decide, by decide⟩
/-- A node at address 1 and 3 that hears its own address; a SOURCE at 3 that hears a SOURCE's BEACON from 2, from 0 and from 4; a
node already listen-only. -/
theorem witness_AddressClashSilencesNode :
    (source.straps.addr ≠ 0 ∧ source.roster.join ≠ .listenOnly ∧ source.role ≠ .battery ∧ battery.role = .battery) ∧
    (let third : State := State.reset.fullReset 204
     third.role = .source ∧ third.straps.addr = 3 ∧ beaconRole [0, 0, 0, 0, 1, 7] = some .source ∧
       (2 : Addr).toNat < third.straps.addr.toNat ∧ (0 : Addr).toNat < third.straps.addr.toNat ∧
       ¬ (4 : Addr).toNat < third.straps.addr.toNat ∧ third.roster.peers.length < 6 ∧
       (third.clashFound .roleClash).roster.join = .listenOnly) ∧
    ((5 : Addr) ≠ 0 ∧ (5 : Addr) ≠ source.straps.addr ∧
      byteAt [0, 0, 0, 0, 3, 7, 9, 0, 0, 0, 2] 4 = Role.headset.code ∧ ([0, 0, 0, 0, 3, 7, 9, 0, 0, 0, 2] : List Byte).length = 11 ∧
      (∀ r ∈ [Role.source, .relay, .headset, .battery], byteAt [0, 0, 0, 0, 9, 7] 4 ≠ r.code) ∧
      beaconRole [0, 0, 0, 0, 3, 7, 9, 0, 0, 0, 2] ≠ some .source) := by decide
/-- Offsets 64, 63, 1 and 0; a slew of 0 and of 63. -/
theorem witness_TetherClockIsSteered :
    100 + 64 ≤ rebuildTether 100 164 ∧ (100 < rebuildTether 100 163 ∧ rebuildTether 100 163 < 100 + 64) ∧
      (100 < rebuildTether 100 101 ∧ rebuildTether 100 101 < 100 + 64) ∧ rebuildTether 100 100 ≤ 100 ∧ source.clock.slew = 0 ∧
      0 < ({ source with clock := ⟨9, 9, 63, 0⟩ } : State).clock.slew := by decide
/-- A HEADSET's step at 90 Hz: of 924 and of 925 µs, the slice interval; a scan at 50, passed and not; blocks late by 1 µs and not. -/
theorem witness_TetherClockIsSteered_headset :
    (headset.role = .headset ∧ headset.powered = true ∧ headset.sliceHeadset.anchor = none ∧ headset.audioHeadset.queue = []) ∧
    (11111 / 12 = 925 ∧ rebuildTether 0 924 - 0 < 925 ∧ 925 ≤ rebuildTether 0 925 - 0 ∧ 0 + 64 ≤ rebuildTether 0 924) ∧
    (49 < 50 + 0 * 11111 + 0 * 11111 / 12 ∧ 50 + 0 * 11111 + 0 * 11111 / 12 ≤ 50) ∧
    ((⟨none, 20, List.replicate 48 (0, 0)⟩ : PlayBlock).lastTime < 1000 ∧
      1000 ≤ (⟨none, 21, List.replicate 3 (0, 0)⟩ : PlayBlock).lastTime) := by decide
theorem witness_RebuiltTimeIsNearest : (2 ^ 48 - 1 : Nat) ≤ 2 ^ 48 - 1 ∧ (2 ^ 32 - 1 : Nat) < 2 ^ 32 := by decide
theorem witness_PeriodicBurstsAreOffered :
    ∃ s : State, s.powered = true ∧ s.roster.join = .active ∧ s.roster.beaconFrom = some 0 ∧ s.power.offerFrom = some 0 ∧
      s.power.claimFrom = some 0 ∧ s.roster.self.offer.isSome ∧ s.roster.self.claim.isSome :=
  ⟨{ State.active battery with
      roster := { (State.active battery).roster with beaconFrom := some 0 }
      power := { battery.power with offerFrom := some 0, claimFrom := some 0 } }, by decide⟩

/-! ## Witnesses: power and loads -/

def holding (seen present : Bool) : State :=
  { battery with power := { battery.power with
      supplier := some .tripHold, holdFrom := some 0, fallSeen := seen, railPresent := present } }

/-- Outside TRIP_HOLD; in it with the rail falling below 2,000 mV, rising to it with no fall seen, and with one. -/
theorem witness_BatteryStateFollowsInputs :
    (battery.role = .battery ∧ battery.power.supplier ≠ some .tripHold) ∧
      ((holding false true).power.supplier = some .tripHold ∧ (holding false true).power.railPresent = true ∧ 1999 < 2000) ∧
      ((holding false false).power.railPresent = false ∧ (holding false false).power.fallSeen = false) ∧
      ((holding true false).power.railPresent = false ∧ (holding true false).power.fallSeen = true ∧
        (holding true false).power.holdFrom = some 0) ∧ byteAt [2, 1] 0 = 2 := by decide
/-- The largest total: a SOURCE of 3,000 mA and two BATTERY nodes of 1,500 mA. -/
theorem witness_TotalsAreFormed :
    let r := (State.hearing [peer 5 .battery (some ⟨1500, 0⟩) none none none, peer 6 .battery (some ⟨1500, 0⟩) none none none]
      (State.active source)).roster
    let r3 : Roster := { r with self := { r.self with offer := some ⟨3000, 0⟩ } }
    let offers := r3.entries.filterMap (fun e => e.offer.map Offer.current)
    offers.length ≤ 3 ∧ (∀ x ∈ offers, x ≤ 3000) ∧ (offers.filter (fun x => decide (1500 < x))).length ≤ 1 ∧
      (computeAllowances r3).total = 6000 := by decide
/-- Supply short, and not. -/
theorem witness_AllowancesFitTheBudget :
    (computeAllowances (worked 40 175)).short = true ∧ (computeAllowances (worked 500 175)).short = false := by decide

def granted (allowance droop : Nat) (parked crit : Bool) : State :=
  { headset with power := { headset.power with
      droop := droop, critActive := crit
      allowances := some ⟨1000, 63, 937, false, [⟨1, 1, allowance, parked⟩]⟩ } }

/-- Parked; FLOORS hold; no list; a grant at the floor and above it, at droop levels 0 and 4. -/
theorem witness_EffectiveCapByCases :
    headset.tetherPowered = true ∧ (granted 15 0 true false).parked = true ∧
      ((granted 587 0 false true).parked = false ∧ (granted 587 0 false true).floorsHold = true) ∧
      (headset.parked = false ∧ headset.floorsHold = false ∧ headset.power.allowances = none) ∧
      ((granted 456 4 false false).parked = false ∧ (granted 456 4 false false).floorsHold = false ∧
        (granted 456 4 false false).ownGrant = some ⟨1, 1, 456, false⟩ ∧ (granted 456 4 false false).power.droop ≤ 4) := by decide
/-- R54's four claims at the defaults. -/
theorem witness_EffectiveCapByCases_claims :
    source.ownClaim = none ∧ battery.ownClaim = some ⟨15, 15, 2⟩ ∧ relay.ownClaim = some ⟨100, 175, 0⟩ ∧
      (headset.item itemPanelWant ≤ 4 ∧ headset.item itemAudioWant ≤ 3 ∧ headset.item itemMotionWant ≤ 3) ∧
      battery.role = .battery ∧ relay.role = .relay ∧ headset.role = .headset := by decide
/-- Every load at its highest level; a RELAY that is not parked. -/
theorem witness_TargetsFitTheCap_costs :
    (⟨4, 4, 3, 3⟩ : Levels).lane ≤ 4 ∧ totalCost .headset ⟨4, 4, 3, 3⟩ = 120 + 170 + 700 + 90 + 9 ∧ relay.role = .relay ∧
      relay.parked = false := by decide
theorem witness_TargetsFitTheCap :
    ((granted 15 0 true false).tetherPowered = true ∧ (granted 15 0 true false).parked = true) ∧ headset.role = .headset ∧ headset.parked = false ∧ headset.item itemPanelWant ≤ 4 ∧ headset.item itemAudioWant ≤ 3 ∧
      headset.item itemMotionWant ≤ 3 := by decide

def delaying (crit : Bool) : State :=
  { granted 894 0 false crit with power := { (granted 894 0 false crit).power with delayG4 := .running 0 } }

def rising (level : Nat) : State :=
  { headset with loads := { headset.loads with
      target := { headset.loads.target with panel := 3 }, current := { headset.loads.current with panel := level }
      panelFrom := some 0 } }

/-- A grade still a candidate and one that is none; a load two below, one below and at its target. -/
theorem witness_RisesArePaced :
    ((delaying false).tetherPowered = true ∧ (delaying false).power.delay .g4 = .running 0 ∧
      candidate (delaying false).role (delaying false).effectiveCap (delaying false).effectiveCeiling .g4 = true) ∧
    candidate (delaying true).role (delaying true).effectiveCap (delaying true).effectiveCeiling .g4 = false ∧
    (∀ n ∈ [1, 2, 3], (rising n).powered = true ∧ (rising n).loads.timer .panel = some 0) := by decide

def faulting (crit : Bool) (clear : Option Nat) : State :=
  { headset with power := { headset.power with critActive := crit, clearFrom := clear, measureFrom := some 0, graceFrom := some 0 } }

/-- 10,799 and 10,800 mV lie on either side of DROOP_LOW, 9,999 and 10,000 of DROOP_CRIT. -/
theorem witness_RailIsMonitored :
    ((faulting false none).powered = true ∧ (faulting false none).tetherPowered = true ∧
      (faulting false none).power.measureFrom = some 0) ∧
    (10799 < headset.item itemDroopLow ∧ headset.item itemDroopLow ≤ 10800) ∧
    (9999 < headset.item itemDroopCrit ∧ headset.item itemDroopCrit ≤ 10000) ∧
    ((faulting true none).power.critActive = true ∧ (faulting true none).power.clearFrom = none) ∧
    (faulting true (some 0)).power.clearFrom = some 0 ∧ (faulting false none).power.graceFrom = some 0 ∧
    headset.roster.join ≠ .listenOnly ∧ headset.rail.size < 8 ∧
    ((byteAt [1, 0] 0).toNat = 1 ∧ (byteAt [2, 0] 0).toNat = 2 ∧ (byteAt [3, 0] 0).toNat = 3 ∧ 3 < (byteAt [4, 0] 0).toNat ∧
      (byteAt [0, 0] 0).toNat = 0 ∧ source.tetherPowered = false) := by decide
/-- 1,000 mA neither counts nor trips at an offer of 1,000; 1,251 trips at once; 1,001 trips as the tenth. -/
theorem witness_DeliveredCurrentIsJudged :
    (source.powered = true ∧ source.power.supplier = some .railOn ∧ source.power.trip = .none ∧
      source.power.measureFrom = some 0 ∧ source.offeredCurrent = 1000) ∧
    ¬ (5 * 1000 < 4 * 1000) ∧ 5 * 1000 < 4 * 1251 ∧ ¬ (5 * 1000 < 4 * 1001) ∧ source.power.overdrawAt = none := by decide
theorem witness_SwitchOpensAndCloses :
    (∀ l ∈ [true, false], ({ source with power := { source.power with trip := .pending 0 l } } : State).power.trip = .pending 0 l) ∧
      ({ source with power := { source.power with trip := .offTime 0 } } : State).power.trip = .offTime 0 ∧
      source.powered = true := by decide

/-! ## Witnesses: lane agreement -/

def inRound (st : AgreeState) (m : Option ModeSet) (k : Option Confirm) : State :=
  State.withState st (some .g2) (State.hearing [peer 5 .headset none none m k] (State.active source))

/-- The peer holds no mode set of the round, and one. -/
theorem witness_SettleEndsInListen :
    (inRound .settle none none).powered = true ∧ (inRound .settle none none).agree.state = .settle ∧
      (inRound .settle none none).agree.stepFrom = some 5 ∧ (inRound .settle none none).roster.self.modeSet.isSome ∧
      (∃ e ∈ (inRound .settle none none).roster.peers,
        e.onPath = true ∧ Entry.heldSet (inRound .settle none none).agree.round e = none) ∧
      (∀ e ∈ (inRound .settle (some ⟨0, [1], 4⟩) none).roster.peers, e.onPath = true →
        (Entry.heldSet (inRound .settle (some ⟨0, [1], 4⟩) none).agree.round e).isSome) := by decide
/-- A MODESET of an address with no entry yet, of a peer on the path, and of a BATTERY. -/
theorem witness_SettleEndsInListen_stored :
    chained.roster.find 3 = none ∧ chained.roster.peers.length < 6 ∧ modeSetPermitted (newEntry 3).role = true ∧
      chained.roster.find 5 ≠ none ∧ modeSetPermitted (some .battery) = false := by decide
/-- Rounds 1 and 32,767 later, 0 the same, 32,768 and 65,535 none of it; JOINING stays halted, a settling node adopts, with its chain
complete and not. -/
theorem witness_SettleEndsInListen_adoption :
    (later (1 : Half) 0 = true ∧ later (32767 : Half) 0 = true ∧ later (32768 : Half) 0 = false ∧ later (65535 : Half) 0 = false) ∧
    (source.onPath = true ∧ source.agree.state = .halted ∧ source.agree.reason = .notJoined ∧ battery.onPath = false ∧
      source.agree.listened = false) ∧
    ((inRound .settle none none).agree.state ≠ .halted ∧ (inRound .settle none none).roster.chainComplete = true ∧
      (State.withState .settle none source).roster.chainComplete = false) := by decide
/-- The current round in SETTLE, in LISTEN with a set missing, and in CONFIRMING; a stored MODESET and CONFIRM of the peer. -/
theorem witness_SettleEndsInListen_current :
    (inRound .settle none none).agree.state ≠ .listen ∧ (inRound .settle none none).agree.state ≠ .confirming ∧
    (∃ e ∈ (inRound .listen none none).roster.path, Entry.heldSet (inRound .listen none none).agree.round e = none) ∧
    (inRound .confirming none none).agree.state = .confirming ∧ chained.RosterSound ∧
    ∃ e, chained.roster.find 5 = some e ∧ modeSetPermitted e.role = true :=
  ⟨by decide, by decide, by decide, by decide, chained_sound, _, rfl, by decide⟩

def setsOf (s : State) : List (List Byte) := s.roster.path.map (fun e => (Entry.heldSet s.agree.round e).getD [1])

def confirmsOf (s : State) : List (Option Byte) :=
  (s.roster.peers.filter Entry.onPath).map (Entry.confirmOf s.agree.round)

theorem listening : (inRound .listen none none).powered = true ∧ (inRound .listen none none).agree.state = .listen ∧
    (inRound .listen none none).agree.stepFrom = some 5 ∧ (inRound .listen none none).power.modeSet ≠ [] := by decide
/-- No common grade: the peer's set is empty. -/
theorem witness_ListenEndsInChoice_none (g : Grade) :
    ∃ l ∈ setsOf (inRound .listen (some ⟨0, [], 4⟩) none), gradeCode g ∉ l := by cases g <;> decide
/-- A silent peer: G1 is in every set, no higher grade is; no CONFIRM, a matching one, and another. -/
theorem witness_ListenEndsInChoice_silent (h : Grade) :
    (∀ l ∈ setsOf (inRound .listen none none), gradeCode .g1 ∈ l) ∧
      (gradeNum .g1 < gradeNum h → ∃ l ∈ setsOf (inRound .listen none none), gradeCode h ∉ l) ∧
      confirmsOf (inRound .listen none none) = [none] ∧
      confirmsOf (inRound .listen none (some ⟨0, 1⟩)) = [some (gradeCode .g1)] ∧
      confirmsOf (inRound .listen none (some ⟨0, 2⟩)) = [some 2] ∧ (2 : Byte) ≠ gradeCode .g1 ∧
      (inRound .listen none (some ⟨0, 2⟩)).agree.failures < 3 ∧
      (inRound .listen none (some ⟨0, 2⟩)).roster.chainComplete = true := by cases h <;> decide

/-- The own CONFIRM of G2 stands in the self entry. -/
def confirming (k : Option Confirm) : State :=
  let s := inRound .confirming none k
  { s with roster := { s.roster with self := { s.roster.self with confirm := some ⟨0, 2⟩ } } }
def heardOf (k : Option Confirm) : List (Option Byte) := (confirming k).roster.path.map (Entry.confirmOf (confirming k).agree.round)
/-- The last MODESET of the round is held, and the last matching CONFIRM, one of another grade, and none. -/
theorem witness_ListenEndsInChoice_heard :
    ((inRound .listen (some ⟨0, [1, 2], 4⟩) none).onPath = true ∧
      ∀ e ∈ (inRound .listen (some ⟨0, [1, 2], 4⟩) none).roster.path,
        (Entry.heldSet (inRound .listen (some ⟨0, [1, 2], 4⟩) none).agree.round e).isSome) ∧
    ((confirming none).onPath = true ∧ (confirming none).agree.state = .confirming ∧ (confirming none).agree.chosen = some .g2) ∧
    (heardOf (some ⟨0, 2⟩) = [some (gradeCode .g2), some (gradeCode .g2)]) ∧
    (heardOf (some ⟨0, 3⟩) = [some (gradeCode .g2), some 3] ∧ (3 : Byte) ≠ gradeCode .g2) ∧
    (heardOf none = [some (gradeCode .g2), none]) := by decide
/-- TRAINING is entered at a SOURCE, at a HEADSET, and at a parked one. -/
theorem witness_ListenEndsInChoice_training :
    none ∉ confirmsOf (inRound .listen none (some ⟨0, 1⟩)) ∧ (confirming (some ⟨0, 2⟩)).parked = false ∧
      (confirming (some ⟨0, 2⟩)).tetherPowered = false ∧ headset.tetherPowered = true ∧ headset.parked = false ∧
      (State.withState .confirming (some .g2) (granted 15 0 true false)).parked = true := by decide
/-- R111: TRAINING orders the owned transmitter and receiver at the chosen grade. -/
theorem test_training_orders :
    let l := ((confirming (some ⟨0, 2⟩)).roundHeard true 0).lanes
    l.downTx.state = .training ∧ l.upRx = .seeking ∧ l.grade = some .g2 ∧ l.upTx.state = .off ∧ l.downRx = .off := by decide
/-- What the node does then: TRAINING, a failure, and nothing (R101). -/
theorem test_confirm_heard :
    ((confirming (some ⟨0, 2⟩)).roundHeard true 0).agree.state = .training ∧
      ((confirming (some ⟨0, 3⟩)).roundHeard true 0).agree.reason = .confirmFailed ∧
      ((confirming none).roundHeard true 0).agree.state = .confirming := by decide

def failing (st : AgreeState) (f n : Nat) (s : State) : State :=
  let u := State.withState st (some .g4) s
  { u with agree := { u.agree with failures := f, laneFaults := n, baseForcedFrom := some 0 } }

/-- Failure counts 2 and 3; lane faults 1 and 2, before a second and a third; an incomplete chain; a HEADSET. -/
theorem witness_FailedStepsOpenARound :
    ((failing .confirming 2 0 chained).powered = true ∧ (failing .confirming 2 0 chained).onPath = true ∧
      (failing .confirming 2 0 chained).agree.state = .confirming ∧ (failing .confirming 2 0 chained).agree.stepFrom = some 5 ∧
      (failing .confirming 2 0 chained).roster.chainComplete = true ∧ (failing .confirming 2 0 chained).power.modeSet ≠ [] ∧
      (failing .confirming 2 0 chained).agree.failures < 3) ∧
    (3 ≤ (failing .confirming 3 0 chained).agree.failures ∧ (failing .confirming 3 0 chained).parked = false) ∧
    (failing .confirming 3 0 source).roster.chainComplete = false ∧
    ((failing .training 0 1 chained).agree.state = .training ∧ min (1 + 1) 65535 % 3 ≠ 0 ∧ min (2 + 1) 65535 % 3 = 0 ∧
      (failing .training 0 2 chained).agree.chosen = some .g4) ∧
    (failing .training 0 2 chained).agree.baseForcedFrom = some 0 ∧ (failing .training 0 2 headset).role ≠ .source := by decide

/-- BASE_FORCED from time 0 at the third failure, the step running from a time. -/
def forced (st : AgreeState) (f t : Nat) : State :=
  let u := failing st f 0 chained
  { u with agree := { u.agree with stepFrom := some t } }

/-- The step timer runs out at the expiry's very µs, and one later; two failures and three; a step with no such timer. -/
theorem witness_FailedStepsOpenARound_baseForced :
    (∀ st ∈ [AgreeState.settle, .listen, .confirming], (forced st 3 9850000).powered = true ∧ (forced st 3 9850000).onPath = true ∧
      (forced st 3 9850000).agree.state = st ∧ (forced st 3 9850000).agree.baseForcedFrom = some 0 ∧
      ((forced st 3 9850000).advanceTo (0 + 10000000)).clock.now = 10000000) ∧
    (9920000 + 80000 ≤ 10000000 ∧ 9850000 + 150000 ≤ 10000000 ∧ ¬ 9850001 + 150000 ≤ 10000000) ∧
    (3 ≤ (forced .confirming 3 9850000).agree.failures ∧ ¬ 3 ≤ (forced .confirming 2 9850000).agree.failures) ∧
    (forced .running 0 5).agree.state = .running := by decide
/-- R103: at the moment of a fourth failure BASE_FORCED holds again for 10,000 ms (the one round is assumption 44's); with none, it ends
and the larger set opens a round. -/
theorem test_base_forced_again :
    let t := after .baseForcedExpiry (forced .confirming 3 9850000)
    t.agree.baseForcedFrom = some 10000000 ∧ t.agree.failures = 0 ∧ t.agree.reason = .confirmFailed ∧ t.power.modeSet = [.g1] := by decide
theorem test_base_forced_ends :
    let s : State := { forced .confirming 3 9850001 with
      power := { source.power with modeSet := [.g1] } }
    let t := after .baseForcedExpiry s
    t.agree.baseForcedFrom = none ∧ t.agree.reason = .setChanged ∧ t.agree.round = 1 ∧ t.power.modeSet = [.g1, .g2, .g3, .g4] := by decide

def receiving (st : AgreeState) (r : RxState) (d : Bool) (s : State) : State :=
  { State.withState st (some .g4) s with lanes := { s.lanes with upRx := r, downRx := r, dozing := d } }

/-- No such receiver; OFF; a lock outside TRAINING, in it at a RELAY half locked, and the one that completes it; a loss outside
RUNNING, in it, and while dozing. -/
theorem witness_ReceiversDriveTheRound :
    (ownsRx chained.role .down = false ∧ chained.lanes.rx .up = .off ∧ chained.powered = true) ∧
    ((receiving .settle .seeking false chained).lanes.rx .up = .seeking ∧ ownsRx chained.role .up = true ∧
      (receiving .settle .seeking false chained).agree.state ≠ .training) ∧
    ((receiving .training .seeking false relay).agree.state = .training ∧
      ({ receiving .training .seeking false relay with
          lanes := (receiving .training .seeking false relay).lanes.setRx .up .locked } : State).locked = false) ∧
    ((receiving .training .seeking false chained).agree.state = .training ∧
      ({ receiving .training .seeking false chained with
          lanes := (receiving .training .seeking false chained).lanes.setRx .up .locked } : State).locked = true) ∧
    ((receiving .training .seeking false headset).sliceHeadset.anchor = none ∧ ownsRx headset.role .down = true) ∧
    ((receiving .running .locked false chained).lanes.rx .up = .locked ∧ (receiving .running .locked false chained).agree.state = .running ∧
      chained.roster.chainComplete = true ∧ chained.power.modeSet ≠ []) ∧
    ((receiving .running .locked true relay).lanes.dozing = true ∧ (receiving .running .locked true relay).lanes.rx .down = .locked) := by
  decide

/-! ## Witnesses: the lane engine and the picture -/

/-- A SOURCE that holds records of the frames 0 to n − 1. -/
def showing (n : Nat) : State :=
  { source with sliceSource := { source.sliceSource with
      frames := (List.range n).map (fun i => ⟨BitVec.ofNat 16 i, i, 0⟩) } }

theorem witness_LanePacketsArriveWhole :
    ((receiving .running .locked false headset).role = .headset ∧ (receiving .running .locked false headset).lanes.downRx = .locked ∧
      (receiving .running .locked false headset).lanes.dozing = false) ∧
    ((receiving .running .locked false source).role = .source ∧ (receiving .running .locked false source).lanes.upRx = .locked) ∧
    1 ≤ ([7] : List Byte).length ∧ (⟨0, 11, 0, [7]⟩ : SendSlice).index ≤ 11 ∧ (12 : Byte).toNat ≤ 12 ∧
    (List.replicate 48 ((0 : Half), (0 : Half))).length = 48 ∧ (List.replicate 48 (0 : Half)).length = 48 ∧
    (showing 3).sliceSource.frames.length < 4 ∧ (showing 4).sliceSource.frames.length = 4 := by decide
/-- R128: a fifth record removes the oldest. -/
theorem test_frames_kept :
    ((showing 4).frameShownArrives ⟨9, 9, 9⟩).sliceSource.frames.map FrameShown.frame = [1, 2, 3, 9] := by decide

def shownPacket : Packet := makePacket .frameShown (leBytes 2 9 ++ leBytes 4 9 ++ [12])

def relaying (t : Transmitter) (d : Bool) : State :=
  let u := receiving .running .locked d relay
  { u with lanes := { u.lanes with upTx := t, dozeFrom := some 0 } }

theorem shownPacket_is_good : goodPacket .up shownPacket.bytes = some .frameShown := by decide +kernel
theorem shortPacket_is_bad : goodPacket .up [1, 2, 3] = none := rfl

/-- A receiver that is OFF; a packet that is not good; a good one at an end node, and at a RELAY outside RUNNING and in it, its
transmitter free and busy; doze. -/
theorem witness_PacketsReceivedAreJudged :
    source.lanes.rx .up ≠ .locked ∧ goodPacket .up [1, 2, 3] = none ∧ goodPacket .up shownPacket.bytes = some .frameShown ∧
    ((receiving .running .locked false source).role ≠ .relay ∧ (receiving .running .locked false source).lanes.dozing = false) ∧
    ((receiving .settle .locked false relay).role = .relay ∧ (receiving .settle .locked false relay).agree.state ≠ .running) ∧
    ((relaying ⟨.running, none, 0, []⟩ false).agree.state = .running ∧
      ((relaying ⟨.running, none, 0, []⟩ false).lanes.tx .up).state = .running ∧
      ((relaying ⟨.running, none, 0, []⟩ false).lanes.tx .up).sending = none ∧
      ((relaying ⟨.running, some shownPacket, 0, [shownPacket]⟩ false).lanes.tx .up).waiting ≠ []) ∧
    ((relaying .idle true).lanes.dozing = true ∧ (relaying .idle true).lanes.downRx = .locked) ∧
    ((relaying .idle false).lanes.dozing = false ∧ (relaying .idle false).lanes.dozeFrom = some 0) :=
  ⟨by decide, shortPacket_is_bad, shownPacket_is_good, by decide, by decide, ⟨rfl, rfl, rfl, List.cons_ne_nil _ _⟩, by decide, by decide⟩

def sendingDown (w : List Packet) (q : List SendSlice) : State :=
  { State.withState .running (some .g4) source with
    lanes := { source.lanes with downTx := ⟨.running, some (slicePacket ⟨0, 0, 0, [7]⟩), 0, w⟩, grade := some .g4 }
    sliceSource := { source.sliceSource with sendQueue := q } }

/-- A slice sent whole: another packet waits; none waits, the queue holds one slice and two. -/
theorem witness_PacketSentFreesItsTransmitter :
    (∀ w ∈ [[], [shownPacket]], ((sendingDown w []).lanes.tx .down).sending = some (slicePacket ⟨0, 0, 0, [7]⟩) ∧
      ((sendingDown w []).lanes.tx .down).waiting = w ∧ (sendingDown w []).powered = true ∧
      ((sendingDown w []).lanes.tx .down).state = .running) ∧
    ((sendingDown [] [⟨0, 0, 0, [7]⟩, ⟨0, 1, 9, [8]⟩]).sliceSource.sendQueue.drop 1 = ⟨0, 1, 9, [8]⟩ :: []) ∧
    (receiving .running .locked false relay).role ≠ .source := by
  refine ⟨fun w hw => ⟨rfl, rfl, rfl, rfl⟩, rfl, by decide⟩

/-- R113: the audio block goes before the slice, the motion record before the frame-shown record before the microphone block. -/
theorem test_transmitter_order :
    firstInOrder [⟨.slice, [3]⟩, ⟨.audio, [5]⟩] = some ⟨.audio, [5]⟩ ∧
      firstInOrder [⟨.mic, [3]⟩, ⟨.frameShown, [4]⟩, ⟨.motion, [5]⟩] = some ⟨.motion, [5]⟩ ∧
      firstInOrder [⟨.mic, [3]⟩, ⟨.frameShown, [4]⟩] = some ⟨.frameShown, [4]⟩ := by decide

def submitting (sub : Option Submission) (q : Nat) : State :=
  { State.withState .running (some .g1) source with sliceSource := { source.sliceSource with
      schedule := some ⟨100, true⟩, submission := sub, sendQueue := List.replicate q ⟨0, 0, 0, [7]⟩ } }

/-- The refusals in their order, the budget's end at 9,216 bytes (G1, 120 Hz), and an accepted first and last index. -/
theorem witness_SubmittedSliceIsJudged :
    relay.role ≠ .source ∧ source.agree.state ≠ .running ∧
    (State.withState .running (some .g1) source).sliceSource.schedule = none ∧
    ((submitting none 0).agree.state = .running ∧ (submitting none 0).sliceSource.schedule = some ⟨100, true⟩ ∧
      (submitting none 0).agree.chosen = some .g1) ∧
    ¬ ((0 : Nat) = 0 ∧ false = true) ∧ gradeNum .g1 * 9216 = 9216 ∧
    (4 ≤ (submitting none 4).sliceSource.sendQueue.length ∧ (submitting none 3).sliceSource.sendQueue.length < 4) ∧
    (∃ u, (submitting (some ⟨3, 11⟩) 0).sliceSource.submission = some u ∧ u.next = 11) := by decide

/-- What the down-lane transmitter is fed from: one that is not running, one where a slice waits, a free one, and a busy one. -/
theorem witness_SubmittedSliceIsJudged_fed :
    (submitting none 0).lanes.downTx.state ≠ .running ∧
    (∃ w ∈ (sendingDown [slicePacket ⟨0, 1, 9, [8]⟩] []).lanes.downTx.waiting, w.kind = .slice) ∧
    ((receiving .running .off false source).lanes.downTx.sending = none) ∧
    (∀ w ∈ (sendingDown [shownPacket] []).lanes.downTx.waiting, w.kind ≠ .slice) ∧
    ((sendingDown [] []).lanes.downTx.state = .running ∧ (sendingDown [] []).lanes.downTx.sending ≠ none) :=
  ⟨by decide, ⟨_, List.mem_singleton.mpr rfl, rfl⟩, rfl, by intro w hw; rw [List.mem_singleton.mp hw]; decide, rfl, by simp [sendingDown]⟩

def scanning (k : Nat) (held incoming : Option HeldSlice) (st : AgreeState) : State :=
  { State.withState st none headset with sliceHeadset := { headset.sliceHeadset with
      anchor := some 50, frame := 2, index := k, slots := headset.sliceHeadset.slots.set k ⟨held, incoming⟩ } }

/-- Arrivals at, after and before the held and incoming frames; a scan of index 0 and of 11, fresh, passed over, held and dark. -/
theorem witness_SliceBufferIsFilledAndScanned :
    ((scanning 0 none none .running).clock.tether < 1 ∧ (scanning 0 none none .running).clock.tether ≥ 0) ∧
    (later (5 : Half) 5 = false ∧ later (6 : Half) 5 = true) ∧
    ((scanning 0 none none .running).sliceHeadset.anchor = some 50 ∧ headset.sliceHeadset.anchor = none) ∧
    (∃ i, ((scanning 11 none (some ⟨2, 90, [7]⟩) .running).sliceHeadset.slot 11).incoming = some i ∧ i.frame = BitVec.ofNat 16 2) ∧
    (∃ i, ((scanning 0 (some ⟨0, 9, [7]⟩) (some ⟨1, 90, [7]⟩) .settle).sliceHeadset.slot 0).incoming = some i ∧
      later (BitVec.ofNat 16 2) i.frame = true) ∧
    ((scanning 11 none none .settle).sliceHeadset.slot 11).held = none ∧ 50 + 2 * 11111 + 11 * 11111 / 12 ≤ tetherMax := by
  exact ⟨by decide, by decide, by decide, ⟨_, rfl, by decide⟩, ⟨_, rfl, by decide⟩, by decide, by decide⟩
theorem witness_SliceBuffer_sized : (scanning 11 none none .running).sliceHeadset.Sized := ⟨by decide, by decide, by decide⟩

/-! ## Witnesses: motion and audio -/

def sensor (p : PortState) (again : Bool) (level : Nat) : State :=
  { headset with motionHeadset := { headset.motionHeadset with
      port := p, again := again, writing := level, rateLevel := some 3, stallFrom := some 0 } }

/-- A parked HEADSET: the planner takes the motion level from 2 to 0. -/
def levelFalls (p : PortState) (r : Option SensorRead) : State :=
  { granted 15 0 true false with motionHeadset := { headset.motionHeadset with port := p, reading := r } }
/-- The level changes with the port free, SETTING, and reading; it does not at a HEADSET at its floor levels, and rises. -/
theorem witness_SensorPortIsDriven_level :
    (levelFalls .sampling none).plan.loads.current.motion = 0 ∧ (levelFalls .sampling none).loads.current.motion = 2 ∧
      (levelFalls .sampling none).role = .headset ∧ (levelFalls .sampling none).powered = true ∧
      (levelFalls .setting none).motionHeadset.port = .setting ∧
      (levelFalls .sampling (some ⟨400, 500⟩)).motionHeadset.reading ≠ none ∧ headset.plan.loads.current.motion = 2 ∧
      (let l : Loads := { headset.loads with current := { headset.loads.current with motion := 1 }, motionFrom := some 0 }
       l.timer .motion = some 0 ∧ l.current.get .motion < l.target.get .motion) := by decide
/-- R131: level 0 writes the sensor's stop setting; during a write the change is noted. -/
theorem test_level_falls :
    (levelFalls .sampling none).plan.motionHeadset.port = .setting ∧ (levelFalls .sampling none).plan.motionHeadset.writing = 0 ∧
      (levelFalls .setting none).plan.motionHeadset.again = true := by decide

theorem witness_SensorPortIsDriven :
    ((sensor .setting true 1).motionHeadset.port = .setting ∧ (sensor .setting true 1).motionHeadset.again = true) ∧
    ((sensor .setting false 0).motionHeadset.again = false ∧ (sensor .setting false 0).motionHeadset.writing = 0) ∧
    (sensor .setting false 3).motionHeadset.writing ≠ 0 ∧
    ((sensor .sampling false 3).motionHeadset.port = .sampling ∧ (sensor .sampling false 3).motionHeadset.stallFrom = some 0 ∧
      (sensor .sampling false 3).motionHeadset.rateLevel = some 3) ∧ (sensor .off false 0).motionHeadset.port ≠ .setting := by decide

def someRecord : MotionRecord := ⟨5, 9000, ⟨0, 0, 0, 0, 0, 0⟩, 0, false, false, false, 2⟩

def sampling (r : Option SensorRead) (l : Option (MotionRecord × Bool)) : State :=
  { headset with motionHeadset := { headset.motionHeadset with reading := r, lastRecord := l, fallbackFrom := some 0 } }

/-- A read under way and none; a record not yet offered, one offered, and a listen-only node. -/
theorem witness_SampleBecomesRecord :
    (sampling none none).motionHeadset.reading = none ∧ (sampling (some ⟨400, 500⟩) none).motionHeadset.reading = some ⟨400, 500⟩ ∧
    ((sampling none (some (someRecord, false))).motionHeadset.fallbackFrom = some 0 ∧
      (sampling none (some (someRecord, false))).motionHeadset.lastRecord = some (someRecord, false) ∧
      (sampling none (some (someRecord, false))).roster.join ≠ .listenOnly) ∧
    (∀ z, (sampling none (some (someRecord, true))).motionHeadset.lastRecord ≠ some (z, false)) ∧ faulted.roster.join = .listenOnly :=
  ⟨by decide, by decide, by decide, by intro z h; simp [sampling] at h, by decide⟩

def collecting (n : Nat) (newest : Option (Half × Nat)) : State :=
  { source with motionSource := ⟨List.replicate n someRecord, newest⟩ }

/-- No request is taken. Queues of 0, 63 and 64; a later sequence; a stamp 2,000 and 2,001 µs later; counts 0, 1, 8 and 9. -/
theorem witness_MotionQueueIsServed :
    (collecting 63 none).host.taken = false ∧ ((collecting 63 none).motionSource.queue.length < 64 ∧ (collecting 64 none).motionSource.queue.length = 64) ∧
    (later someRecord.sequence 4 = true ∧ later someRecord.sequence 5 = false) ∧
    (7000 + 2000 ≥ someRecord.stamp ∧ 6999 + 2000 < someRecord.stamp) ∧ (collecting 0 none).motionSource.queue = [] ∧
    ((0 : Byte).toNat = 0 ∧ 8 < (9 : Byte).toNat ∧ 1 ≤ (1 : Byte).toNat ∧ (8 : Byte).toNat ≤ 8) ∧ headset.role ≠ .source :=
  ⟨rfl, by simp [collecting], by decide, by decide, rfl, by decide, by decide⟩

def building (n : Nat) (st : AgreeState) (t : Transmitter) : State :=
  { State.withState st none source with
    audioSource := { source.audioSource with builder := List.replicate n (0, 0) }, lanes := { source.lanes with downTx := t } }

def capturing (n : Nat) (st : AgreeState) (t : Transmitter) : State :=
  { State.withState st none headset with
    audioHeadset := { headset.audioHeadset with micBuild := List.replicate n 0 }, lanes := { headset.lanes with upTx := t } }

def busyWith (k : PacketKind) : Transmitter := ⟨.running, some shownPacket, 0, [⟨k, []⟩]⟩

/-- A HEADSET in its grace, with the action PARK; its queue and block are not empty. -/
def toPark (down : Bool) : State :=
  { headset with
    items := headset.items.set 9 2
    audioHeadset := { headset.audioHeadset with queue := [⟨none, 5, [(1, 1)]⟩], micBuild := [7], output := .playing, down := down } }
theorem witness_AudioBlocksAreBuilt_parking :
    (granted 15 0 true false).role = .headset ∧ (granted 15 0 true false).parked = true ∧
      (granted 15 0 true false).audioHeadset.down = false ∧ headset.parked = headset.audioHeadset.down ∧ source.role ≠ .headset ∧
      (toPark false).powered = true ∧ (toPark false).role = .headset ∧ (toPark false).power.graceFrom = some 0 ∧
      (toPark false).item itemActionSupplyLost = 2 ∧ (toPark true).audioHeadset.down = true := by decide
/-- R159: parking empties the queue and the block uncounted, and the output waits. -/
theorem test_parking :
    let t := after .supplyGraceExpiry (toPark false)
    t.audioHeadset.queue = [] ∧ t.audioHeadset.micBuild = [] ∧ t.audioHeadset.output = .waiting ∧ t.counters.audio = source.counters.audio := by
  decide

/-- R148: the starts of a millisecond's frame periods, the last and the next millisecond's first. -/
theorem test_frame_periods : [0, 1, 20, 21, 979, 980, 1000].map nextFramePeriod = [0, 20, 20, 41, 979, 1000, 1000] := by decide

/-- Builders of 46 and 47; outside RUNNING; in it with nothing replaced, and with a block replaced. -/
theorem witness_AudioBlocksAreBuilt :
    (let u : State := { headset with
        clock := ⟨5000, 5000, 0, 0⟩, audioHeadset := { headset.audioHeadset with down := true, capTaken := some 4979 } }
     u.role = .headset ∧ u.parked = false ∧ u.audioHeadset.down = true ∧ u.clock.now ≤ nextFramePeriod (4979 + 1) ∧
       ¬ u.clock.now ≤ nextFramePeriod (3000 + 1)) ∧
    ((building 46 .settle .idle).audioSource.builder.length < 47 ∧ (building 47 .settle .idle).audioSource.builder.length = 47 ∧
      (building 47 .settle .idle).agree.state ≠ .running ∧ (building 47 .running .idle).lanes.downTx.sending = none ∧
      ((building 47 .running (busyWith .audio)).lanes.downTx.sending ≠ none ∧
        ∃ q ∈ (building 47 .running (busyWith .audio)).lanes.downTx.waiting, q.kind = .audio)) ∧
    (headset.role = .headset ∧ headset.parked = false ∧ (granted 15 0 true false).parked = true) ∧
    ((capturing 46 .settle .idle).audioHeadset.micBuild.length < 47 ∧ (capturing 47 .settle .idle).audioHeadset.micBuild.length = 47 ∧
      ((capturing 47 .running (busyWith .mic)).lanes.upTx.sending ≠ none ∧
        ∃ q ∈ (capturing 47 .running (busyWith .mic)).lanes.upTx.waiting, q.kind = .mic)) :=
  ⟨by decide, ⟨by simp [building], by simp [building], by decide, rfl, by decide, by decide⟩, by decide, by simp [capturing], by simp [capturing],
    by decide, by decide⟩

def playing (o : Output) (l : List PlayBlock) (last : Option (Half × Half)) (twice : Bool) : State :=
  { headset with audioHeadset := { headset.audioHeadset with
      output := o, queue := l, lastFrame := last, twice := twice, slipFrom := some 0, lastSeq := some 5 } }

def block (t n : Nat) : PlayBlock := ⟨none, t, List.replicate n (0, 0)⟩

/-- Gaps of 1 to 4 and of 5; the last frame in time and 1 µs late; 480 frames and more; microphone queues of 960. -/
theorem witness_AudioBlocksAreQueued :
    ((playing .waiting [block 0 48] none false).audioHeadset.lastSeq = some 5 ∧ later (10 : Half) 5 = true ∧
      (10 - 5 - 1 : Half).toNat = 4 ∧ 4 < (11 - 5 - 1 : Half).toNat ∧ (6 - 5 - 1 : Half).toNat = 0) ∧
    (21 + 979 = 1000 ∧ 20 + 979 < 1000) ∧
    ((playing .waiting [block 0 48] none false).audioHeadset.frameCount + 48 + 48 * 4 ≤ 480 ∧ 480 < 433 + 48 + 48 * 0) ∧
    (source.audioSource.micCount + 48 ≤ 960 ∧ 960 < 913 + 48) ∧
    (relay.role ≠ .source ∧ source.audioSource.micQueue = []) ∧
    (⟨7, [1, 2]⟩ : MicBlock).samples = 1 :: [2] := by decide
/-- Each output state; the head frame with frames behind it and the last of its block; ramp frames 1, 47 and 48; slip errors of
42, 41, −41 and −42 µs. -/
theorem witness_OutputFollowsTheQueue :
    source.role ≠ .headset ∧ (playing .waiting [] none false).audioHeadset.output = .waiting ∧
    ((playing .playing [block 0 2] none false).audioHeadset.queue = block 0 2 :: [] ∧ (block 0 2).frames = (0, 0) :: [(0, 0)] ∧
      (block 0 1).frames = (0, 0) :: [] ∧ (playing .playing [block 0 2] none true).audioHeadset.twice = true) ∧
    (playing .playing [] none false).audioHeadset.queue = [] ∧
    (∀ j ∈ [0, 46, 47], (playing (.ramping j) [] (some (9, 9)) false).audioHeadset.output = .ramping j ∧
      (playing (.ramping j) [] (some (9, 9)) false).audioHeadset.lastFrame = some (9, 9)) ∧
    ((playing .waiting [block 90 48] none false).audioHeadset.queue = block 90 48 :: [] ∧ (block 90 48).headTime ≤ tetherMax) ∧
    ((playing .playing [block 64042 48] none false).audioHeadset.slipFrom = some 0 ∧ 64000 + 42 ≤ (block 64042 48).headTime ∧
      (block 63958 48).headTime + 42 ≤ 64000 ∧ (64000 < (block 63959 48).headTime + 42 ∧ (block 64041 48).headTime < 64000 + 42)) := by
  decide
theorem witness_OutputArithmeticIsExact : (256 : Nat) ≤ 256 ∧ (48 : Nat) ≤ 48 := by decide

/-! ## Witnesses: remote requests, resets, items, host port -/

def asking (st : RemoteState) : State :=
  { chained with remote := { chained.remote with state := st, target := 5, tag := 1, deadlineFrom := some 0 } }

theorem witness_RemoteRequestRunsItsCourse :
    faulted.host.taken = false ∧ chained.host.taken = false ∧ faulted.roster.join = .listenOnly ∧ (asking .queued).remote.state = .queued ∧ (asking .awaiting).remote.state = .awaiting ∧
    ((1 : Byte).toNat = chained.straps.addr.toNat ∧ (5 : Byte).toNat ≠ chained.straps.addr.toNat ∧
      chained.roster.join ≠ .listenOnly ∧ (∃ e ∈ chained.roster.peers, e.addr.toNat = (5 : Byte).toNat) ∧
      ¬ ∃ e ∈ chained.roster.peers, e.addr.toNat = (8 : Byte).toNat) ∧
    (asking .awaiting).remote.deadlineFrom = some 0 ∧
    (∀ st ∈ [RemoteState.idle, .done, .timeout, .giveUp, .restarted], (asking st).remote.state = st) := by decide
/-- An ASK to address 1 from 5, of each operation 1 to 4, 0 and 5; one to another node; an ANSWER that matches and one of another tag. -/
theorem witness_AsksAreServedAndAnswersMatched :
    ((byteAt [1, 9, 1, 0, 0, 0] 0).toNat = chained.straps.addr.toNat ∧ (5 : Addr) ≠ chained.straps.addr ∧
      chained.remote.restartFrom = none ∧ (byteAt [2, 9, 1, 0, 0, 0] 0).toNat ≠ chained.straps.addr.toNat) ∧
    (∀ op ∈ [1, 2, 3, 4], byteAt [1, 9, op, 4, 7, 0] 2 = op) ∧
    (chained.counters.group 4)[(halfAt [1, 9, 3, 4, 7, 0] 4).toNat]? = some 0 ∧
    (chained.counters.group 4)[(halfAt [1, 9, 3, 4, 8, 0] 4).toNat]? = none ∧ chained.counters.group 5 = [] ∧
    ((byteAt [1, 9, 0] 2).toNat = 0 ∧ 4 < (byteAt [1, 9, 5] 2).toNat) ∧
    ((asking .awaiting).remote.state = .awaiting ∧ (5 : Addr).toNat = (asking .awaiting).remote.target.toNat ∧
      byteAt [1, 1, 0, 0, 0] 1 = (asking .awaiting).remote.tag ∧ byteAt [1, 2, 0, 0, 0] 1 ≠ (asking .awaiting).remote.tag) := by decide

def restarting : State :=
  { keying .answer 0 0 with
    host := { source.host with restartFrom := some 0 }
    remote := { source.remote with restartFrom := some 0, restartAnswer := some 7 } }

theorem witness_ResetsRestoreTheirValues :
    restarting.powered = true ∧ restarting.host.restartFrom = some 0 ∧ restarting.remote.restartFrom = some 0 ∧
    (restarting.rail.sending.map (fun x => (x.entry.kind, some x.entry.id))) = some (.answer, restarting.remote.restartAnswer) ∧
    source.host.restartFrom = none ∧ source.host.taken = false ∧ (replying [7, 8] source).host.taken = true ∧
    faulted.straps.addr = 0 ∧ battery.role = .battery ∧ battery.power.supplyReady = false ∧
    -- two states that differ only in what a full reset does not keep
    (restarting.clock.now = source.clock.now ∧ restarting.rail.carrierIn = source.rail.carrierIn ∧
      restarting.power.supplyReady = source.power.supplyReady ∧ restarting.power.railPresent = source.power.railPresent ∧
      restarting.freeCount = source.freeCount ∧ restarting.pending = source.pending) ∧
    ({ restarting with host := source.host }).host = source.host := by decide
/-- Items 30 and 31; one that does not apply; each kind of item at its ends; RAIL_ENABLE in each state of the switch. -/
theorem witness_ItemsAreReadAndWritten :
    (source.powered = true ∧ source.host.taken = false ∧ source.items.length = 31 ∧ 30 < (31 : Byte).toNat ∧ (30 : Byte).toNat ≤ 30) ∧
    (source.role ∉ [Role.headset] ∧ relay.role ∈ [Role.relay, .headset] ∧ source.role ∈ [Role.source]) ∧
    (source.power.trip = .none ∧ ({ source.power with trip := .offTime 0 } : Power).latched = false) ∧
    (source.power.supplier ≠ some .railLatched ∧ source.power.latched = false ∧ source.power.trip = .none) ∧
    ({ source.power with supplier := some .railLatched } : Power).latched = true ∧
    ({ source.power with trip := .pending 0 true } : Power).latched = true := by decide
/-- A BATTERY, a SOURCE in each trip state and a listen-only node, for the conditions a read leaves set; an entry with every field, and one
with none. -/
theorem witness_HostRequestsAreAnswered_fields :
    (holding false true).power.supplier = some .tripHold ∧ faulted.roster.join = .listenOnly ∧
    ({ peer 5 .headset (some ⟨1, 3⟩) (some ⟨1, 2, 1⟩) (some ⟨7, [1, 2], 4⟩) (some ⟨7, 2⟩) with
        summary := some 0x15, anchor := some ⟨9, true⟩ } : Entry).anchor.isSome ∧
    ((newEntry 5).role = none ∧ (newEntry 5).lastHeard = none ∧ (newEntry 5).summary = none) := by decide
/-- Section 11.4: an entry's 32 bytes, an age of 2,999 µs in whole ms. -/
theorem test_roster_entry :
    entryBytes 2999 { peer 5 .headset (some ⟨0x0102, 3⟩) (some ⟨456, 894, 1⟩) (some ⟨0x0708, [1, 2], 4⟩) (some ⟨0x0708, 2⟩) with
        summary := some 0x15, anchor := some ⟨0x0A0B, true⟩ } =
      [5, 3, 0x7F, 2, 0, 0x15, 2, 1, 3, 0xC8, 1, 0x7E, 3, 1, 8, 7, 2, 1, 2, 0, 0, 4, 8, 7, 2, 0x0B, 0x0A, 0, 0, 0, 0, 2] := by decide
theorem witness_HostRequestsAreAnswered :
    1 < ([1, 30] : List Byte).length ∧ 5 < ([10, 5, 2, 26, 0x70, 0x17] : List Byte).length ∧
    source.powered = true ∧ source.host.taken = false ∧ (replying [7, 8] source).host.taken = true ∧
    (replying [7, 8] source).restart.host.cut = some [7, 8] ∧ hostRequest (.counterRead 5) = true ∧ 4 < (5 : Byte).toNat ∧ (4 : Byte).toNat ≤ 4 ∧ (0 : Byte).toNat = 0 ∧ 12 < (13 : Byte).toNat ∧
    headset.power.allowances = none ∧ (granted 587 0 false false).power.allowances ≠ none ∧
    headset.tetherPowered = true ∧ headset.onPath = true ∧ relay.role ≠ .source ∧
    source.agree.baseForcedFrom = none ∧ (failing .settle 0 0 source).agree.baseForcedFrom = some 0 := by decide

end Sys2Proof.Tests
end

section
/-! SUPPORT. The bounds command by command. Every command's effect is put together from operations that keep the bounds
(Laws/Bounds.lean): here each command keeps them too, and with that every step. -/

namespace Sys2Proof.Machine

open Host (Outcome)

/-- If the outcome is a next state, that state is bounded. -/
def BoundedNext (o : Outcome State Fault Refusal) : Prop := ∀ t, o = .next t → t.Bounded

theorem boundedNext_next {s : State} (h : s.Bounded) : BoundedNext (.next s) := by
  rintro t ⟨⟩
  exact h

variable {s : State}

/-! ## The shared forms of a command -/

theorem whilePowered_bounded (h : s.Bounded) {act : State → State} (ha : (act s).Bounded) :
    BoundedNext (whilePowered s act) := by
  refine boundedNext_next ?_
  split
  · exact ha
  · exact h

theorem onRequest_bounded (h : s.Bounded) {act : State → State} (ha : (act s).Bounded) :
    BoundedNext (onRequest s act) := by
  refine whilePowered_bounded h ?_
  split
  · exact h
  · exact ha

/-- A timer's expiry keeps the bounds if what it does keeps them, whenever it was due. -/
theorem runOut_bounded (h : s.Bounded) (start : Option Nat) (span : Nat) {act : Nat → State → State}
    (ha : ∀ due u, u.Bounded → (act due u).Bounded) : (runOut start span s act).Bounded := by
  unfold runOut
  split
  · exact h
  · exact ha _ _ (h.advanceTo _)

theorem stepOver_bounded (h : s.Bounded) (st : AgreeState) (span : Nat) {act : State → State}
    (ha : ∀ u, u.Bounded → (act u).Bounded) : (s.stepOver st span act).Bounded := by
  unfold State.stepOver
  split
  · exact runOut_bounded h _ _ (fun _ u hu => ha u hu)
  · exact h

theorem ne_relay_of_source (hr : s.role = .source) : s.role ≠ .relay := by simp [hr]
theorem ne_relay_of_headset (hr : s.role = .headset) : s.role ≠ .relay := by simp [hr]

/-! ## Rail -/

theorem execCharacterReceived_bounded (h : s.Bounded) (data : Byte) (parity stopOk : Bool) :
    BoundedNext (execCharacterReceived data parity stopOk s) := by
  refine whilePowered_bounded h ?_
  split
  · next x hx => exact (h.advance charTime).compareSent hx data _
  · exact (h.gapIfDue.advance charTime).hear data _ _ _

theorem execCharacterMissing_bounded (h : s.Bounded) : BoundedNext (execCharacterMissing s) := by
  refine whilePowered_bounded h ?_
  split
  · next x hx => exact h.clash hx
  · exact h

theorem execGap_bounded (h : s.Bounded) : BoundedNext (execGap s) := by
  refine whilePowered_bounded h ?_
  split
  · exact h
  · exact (h.advanceTo _).abandon _

theorem execCarrierDetect_bounded (h : s.Bounded) (present : Bool) : BoundedNext (execCarrierDetect present s) :=
  boundedNext_next (h.carrierChange present)

theorem execQuietWaitExpiry_bounded (h : s.Bounded) : BoundedNext (execQuietWaitExpiry s) := by
  refine whilePowered_bounded h ?_
  split
  · exact h
  · split
    · exact h
    · next e rest hq => exact (h.advanceTo (s.waitEnds e)).beginSending hq

theorem execSendComplete_bounded (h : s.Bounded) : BoundedNext (execSendComplete s) := by
  refine whilePowered_bounded h ?_
  split
  · exact h
  · exact (h.advanceTo _).completeSending _

theorem execStuckDrop_bounded (h : s.Bounded) : BoundedNext (execStuckDrop s) :=
  whilePowered_bounded h (runOut_bounded h _ _ fun _ _ hu => hu.dropHead)

/-! ## Roster and tether clock -/

theorem execJoinTimerExpiry_bounded (h : s.Bounded) : BoundedNext (execJoinTimerExpiry s) :=
  whilePowered_bounded h (runOut_bounded h _ _ fun _ _ hu => hu.becomeActive)

theorem execPeerLeft_bounded (h : s.Bounded) (peer : Addr) : BoundedNext (execPeerLeft peer s) := by
  refine whilePowered_bounded h ?_
  split
  · exact h
  · exact runOut_bounded h _ _ fun _ _ hu => hu.removeEntry _

theorem execBeaconPeriod_bounded (h : s.Bounded) : BoundedNext (execBeaconPeriod s) :=
  whilePowered_bounded h (runOut_bounded h _ _ fun _ _ hu => (hu.withRoster _).offerBeacon)

theorem execSlewTick_bounded (h : s.Bounded) : BoundedNext (execSlewTick s) := by
  refine whilePowered_bounded h ?_
  split
  · exact h
  · exact runOut_bounded h _ _ fun _ _ hu => hu.withClock _

theorem execRosterRead_bounded (h : s.Bounded) : BoundedNext (execRosterRead s) :=
  onRequest_bounded h (h.withReply _ _)

/-! ## Supply and loads -/

theorem execOfferClaimPeriod_bounded (h : s.Bounded) (which : Announcement) :
    BoundedNext (execOfferClaimPeriod which s) := by
  refine whilePowered_bounded h ?_
  cases which with
  | offer => exact runOut_bounded h _ _ fun _ _ hu => hu.announceOffer
  | claim => exact runOut_bounded h _ _ fun _ _ hu => hu.announceClaim

theorem execSupplyReadyChange_bounded (h : s.Bounded) (high : Bool) : BoundedNext (execSupplyReadyChange high s) :=
  have h1 := h.keepPower (b := { s.power with supplyReady := high }) rfl
  whilePowered_bounded h1 h1.readyChanged

theorem execRailPresentChange_bounded (h : s.Bounded) (milliVolts : Nat) :
    BoundedNext (execRailPresentChange milliVolts s) :=
  have h1 := h.keepPower (b := { s.power with railPresent := railIsPresent milliVolts }) rfl
  whilePowered_bounded h1 (h1.presentChanged _)

theorem execTripHoldExpiry_bounded (h : s.Bounded) : BoundedNext (execTripHoldExpiry s) := by
  refine whilePowered_bounded h ?_
  split
  · exact runOut_bounded h _ _ fun _ _ hu => hu.endTripHold
  · exact h

theorem setDelay_droop (p : Power) (g : Grade) (d : Delay) : (p.setDelay g d).droop = p.droop := by cases g <;> rfl

theorem execReturnDelayExpiry_bounded (h : s.Bounded) (delay : DelayEnd) :
    BoundedNext (execReturnDelayExpiry delay s) := by
  refine whilePowered_bounded h (runOut_bounded h _ _ fun _ u hu => ?_)
  split
  · exact hu.keepPower (setDelay_droop _ _ _)
  · exact (hu.keepPower (setDelay_droop _ _ _)).reform

theorem execRaiseTimerExpiry_bounded (h : s.Bounded) (load : Load) : BoundedNext (execRaiseTimerExpiry load s) :=
  whilePowered_bounded h (runOut_bounded h _ _ fun _ _ hu => hu.raiseLoad load)

theorem execRailMeasurement_bounded (h : s.Bounded) (milliVolts : Nat) :
    BoundedNext (execRailMeasurement milliVolts s) := by
  refine whilePowered_bounded h ?_
  split
  · exact runOut_bounded h _ _ fun _ _ hu => (hu.keepPower (by rfl)).measureRail _
  · exact h

theorem execClearTimerExpiry_bounded (h : s.Bounded) : BoundedNext (execClearTimerExpiry s) :=
  whilePowered_bounded h (runOut_bounded h _ _ fun _ _ hu => (hu.keepPower (by rfl)).reform)

theorem execSupplyGraceExpiry_bounded (h : s.Bounded) : BoundedNext (execSupplyGraceExpiry s) :=
  whilePowered_bounded h (runOut_bounded h _ _ fun _ _ hu => ((hu.keepPower (by rfl)).raise _).reform)

theorem execDeliveredCurrentMeasurement_bounded (h : s.Bounded) (milliAmps : Nat) :
    BoundedNext (execDeliveredCurrentMeasurement milliAmps s) := by
  refine whilePowered_bounded h ?_
  split
  · exact runOut_bounded h _ _ fun _ _ hu => (hu.keepPower (by rfl)).measureCurrent _
  · exact h

theorem execTripTimerExpiry_bounded (h : s.Bounded) : BoundedNext (execTripTimerExpiry s) := by
  refine whilePowered_bounded h ?_
  split
  · exact runOut_bounded h _ _ fun _ _ hu => hu.openSwitch _
  · exact h

theorem execOffTimeExpiry_bounded (h : s.Bounded) : BoundedNext (execOffTimeExpiry s) := by
  refine whilePowered_bounded h ?_
  split
  · exact runOut_bounded h _ _ fun _ _ hu => hu.closeSwitch
  · exact h

theorem execAllowanceRead_bounded (h : s.Bounded) : BoundedNext (execAllowanceRead s) :=
  onRequest_bounded h (h.withReply _ _)

/-! ## Agreement -/

theorem execSettleTimerExpiry_bounded (h : s.Bounded) : BoundedNext (execSettleTimerExpiry s) :=
  whilePowered_bounded h (stepOver_bounded h _ _ fun _ hu => hu.enterListen)

theorem execListenTimerExpiry_bounded (h : s.Bounded) : BoundedNext (execListenTimerExpiry s) :=
  whilePowered_bounded h (stepOver_bounded h _ _ fun _ hu => hu.choose)

theorem execConfirmTimerExpiry_bounded (h : s.Bounded) : BoundedNext (execConfirmTimerExpiry s) :=
  whilePowered_bounded h (stepOver_bounded h _ _ fun _ hu => hu.confirmFailure)

theorem execTrainingTimerExpiry_bounded (h : s.Bounded) : BoundedNext (execTrainingTimerExpiry s) :=
  whilePowered_bounded h (stepOver_bounded h _ _ fun _ hu => hu.trainingFailure)

theorem execBaseForcedExpiry_bounded (h : s.Bounded) : BoundedNext (execBaseForcedExpiry s) :=
  whilePowered_bounded h (runOut_bounded h _ _ fun _ _ hu => hu.endBaseForced)

theorem execLaneRead_bounded (h : s.Bounded) : BoundedNext (execLaneRead s) :=
  onRequest_bounded h (h.withReply _ _)

/-! ## Lane engine -/

theorem execReceiverStateChange_bounded (h : s.Bounded) (lane : Lane) (locks : Bool) :
    BoundedNext (execReceiverStateChange lane locks s) := by
  refine whilePowered_bounded h ?_
  split
  · split
    · exact (h.setReceiver _ _).receiverReported
    · split
      · exact h
      · exact (h.setReceiver _ _).receiverReported
    · exact h
  · exact h

theorem execLanePacketReceived_bounded (h : s.Bounded) (lane : Lane) (bytes : List Byte) :
    BoundedNext (execLanePacketReceived lane bytes s) := by
  refine whilePowered_bounded h ?_
  split
  · split
    · exact (h.bump _).restartDoze _
    · exact (h.takePacket _ _).restartDoze _
  · exact h

theorem execLanePacketSent_bounded (h : s.Bounded) (lane : Lane) : BoundedNext (execLanePacketSent lane s) := by
  refine whilePowered_bounded h ?_
  split
  · exact h
  · exact ((h.advanceTo _).countSent _ _).freeTransmitter _

theorem execDozeTimerExpiry_bounded (h : s.Bounded) : BoundedNext (execDozeTimerExpiry s) := by
  refine whilePowered_bounded h ?_
  split
  · exact h
  · refine runOut_bounded h _ _ fun _ u hu => hu.withLanes fun l => ?_
    cases l with
    | down => exact hu.waiting .down
    | up => exact hu.waiting .up

theorem execLostOnWake_bounded (h : s.Bounded) (length : Nat) : BoundedNext (execLostOnWake length s) := by
  refine whilePowered_bounded h ?_
  split
  · exact ((h.advance _).bump _).restartDoze _
  · exact h

/-! ## Picture -/

theorem execSliceSubmit_bounded (h : s.Bounded) (start : Bool) (index : Byte) (bytes : List Byte) :
    BoundedNext (execSliceSubmit start index bytes s) := by
  refine whilePowered_bounded h ?_
  split
  · next hr => exact h.submitSlice (ne_relay_of_source hr) _ _ _
  · exact h

/-- Only a HEADSET has an anchor, so a scan that comes about is at no RELAY. -/
theorem execSliceScan_bounded (h : s.Bounded) : BoundedNext (execSliceScan s) := by
  refine whilePowered_bounded h ?_
  split
  · exact h
  · next a ha =>
    dsimp only
    split
    · exact (h.advanceToTether _).scanIndex (ne_relay_of_headset (h.headset_of_anchor ha)) a
    · exact h

theorem execFramesRead_bounded (h : s.Bounded) : BoundedNext (execFramesRead s) :=
  onRequest_bounded h (h.withReply _ _)

/-! ## Motion -/

/-- Only a HEADSET has a sensor port that is not off. -/
theorem State.Bounded.headset_of_port (h : s.Bounded) (hp : s.motionHeadset.port ≠ .off) : s.role = .headset := by
  by_contra hn
  exact hp (h.sensor hn).1

theorem execSensorWriteComplete_bounded (h : s.Bounded) : BoundedNext (execSensorWriteComplete s) := by
  refine whilePowered_bounded h ?_
  split
  · next hp =>
    have hs := h.headset_of_port (by simp [hp])
    dsimp only
    split
    · exact (h.withSensor hs _).startSensorWrite hs
    · split
      · exact h.withSensor hs _
      · exact h.withSensor hs _
  · exact h

theorem execDataReadyEdge_bounded (h : s.Bounded) : BoundedNext (execDataReadyEdge s) := by
  refine whilePowered_bounded h ?_
  split
  · next hp => exact h.withSensor (h.headset_of_port (by simp [hp])) _
  · exact h

theorem execSensorReadComplete_bounded (h : s.Bounded) (raw : Axes) : BoundedNext (execSensorReadComplete raw s) := by
  refine whilePowered_bounded h ?_
  split
  · exact h
  · next r hr => exact h.completeRead (h.headset_of_reading hr) r raw

theorem execSensorStall_bounded (h : s.Bounded) : BoundedNext (execSensorStall s) :=
  whilePowered_bounded h (runOut_bounded h _ _ fun _ _ hu => (hu.withMotionHeadset _ (by rfl) (by rfl)).raise _)

theorem execMotionFallbackExpiry_bounded (h : s.Bounded) : BoundedNext (execMotionFallbackExpiry s) :=
  whilePowered_bounded h (runOut_bounded h _ _ fun _ _ hu => (hu.withMotionHeadset _ (by rfl) (by rfl)).offerFallback)

theorem execMotionDrain_bounded (h : s.Bounded) (count : Byte) : BoundedNext (execMotionDrain count s) := by
  refine onRequest_bounded h ?_
  dsimp only
  split
  · exact h.withReply _ _
  · split
    · refine (h.withMotionSource ?_).withReply _ _
      exact (List.drop_sublist _ _).length_le.trans h.motion
    · exact h.withReply _ _

/-! ## Audio -/

theorem execAudioFrameInput_bounded (h : s.Bounded) (left right : Half) :
    BoundedNext (execAudioFrameInput left right s) := by
  refine whilePowered_bounded h ?_
  split
  · next hr =>
    dsimp only
    split
    · exact h.closePlayBlock (ne_relay_of_source hr) _
    · exact h.withAudioSource ⟨h.mic.count, h.mic.filled, h.mic.whole⟩
  · exact h

theorem execPresentationTimeReached_bounded (h : s.Bounded) : BoundedNext (execPresentationTimeReached s) := by
  refine whilePowered_bounded h ?_
  split
  · dsimp only
    split
    · exact (h.advanceToTether _).enterPlaying
    · exact h
  · exact h

theorem execOutputFramePeriod_bounded (h : s.Bounded) : BoundedNext (execOutputFramePeriod s) := by
  refine whilePowered_bounded h ?_
  split
  · exact ((h.advanceTo _).mapAudioSame rfl).outputPeriod
  · exact h

theorem execSlipTimerExpiry_bounded (h : s.Bounded) : BoundedNext (execSlipTimerExpiry s) :=
  whilePowered_bounded h (runOut_bounded h _ _ fun _ _ hu => (hu.mapAudioSame rfl).slip)

theorem execMicCapture_bounded (h : s.Bounded) (sample : Half) : BoundedNext (execMicCapture sample s) := by
  refine whilePowered_bounded h ?_
  split
  · next hr => exact ((h.advanceTo _).mapAudioSame rfl).captureSample (ne_relay_of_headset hr.1) sample
  · exact h

theorem execMicOutputSample_bounded (h : s.Bounded) : BoundedNext (execMicOutputSample s) := by
  refine whilePowered_bounded h ?_
  split
  · have hm := h.sendMic
    exact (h.advanceTo _).withAudioSource ⟨hm.count, hm.filled, hm.whole⟩
  · exact h

/-! ## Resets and power loss -/

theorem execFullReset_bounded (h : s.Bounded) (straps : BitVec 11) : BoundedNext (execFullReset straps s) :=
  boundedNext_next (h.fullReset straps)

theorem execRestartTimerExpiry_bounded (h : s.Bounded) : BoundedNext (execRestartTimerExpiry s) :=
  whilePowered_bounded h (runOut_bounded h _ _ fun _ _ hu => hu.restart)

theorem execRemoteRestartTimerExpiry_bounded (h : s.Bounded) : BoundedNext (execRemoteRestartTimerExpiry s) :=
  whilePowered_bounded h (runOut_bounded h _ _ fun _ _ hu => hu.restart)

theorem execRailPowerLoss_bounded (h : s.Bounded) : BoundedNext (execRailPowerLoss s) := by
  refine whilePowered_bounded h ?_
  split
  · exact h.powerOff
  · exact h

/-! ## Remote requests and items -/

theorem execRemoteStart_bounded (h : s.Bounded) (target operation item : Byte) (value : Half) :
    BoundedNext (execRemoteStart target operation item value s) := by
  refine onRequest_bounded h ?_
  split
  · exact h.withReply _ _
  · split
    · exact h.withReply _ _
    · split
      · exact h.withReply _ _
      · split
        · exact (h.startRemote _ _ _ _).withReply _ _
        · exact h.withReply _ _

theorem execDeadlineExpiry_bounded (h : s.Bounded) : BoundedNext (execDeadlineExpiry s) :=
  whilePowered_bounded h (runOut_bounded h _ _ fun _ _ hu => hu.endRemote _)

/-- The read of a result clears STALE_ANSWER (R174). -/
theorem execRemoteResult_bounded (h : s.Bounded) : BoundedNext (execRemoteResult s) := by
  refine onRequest_bounded h (State.Bounded.withReply ?_ _ _)
  exact (h.withRemote (b := s.remote.afterResult) (Nat.zero_le _)).withFreeCount _

theorem execItemRead_bounded (h : s.Bounded) (item : Byte) : BoundedNext (execItemRead item s) :=
  onRequest_bounded h (h.withReply _ _)

theorem execItemWrite_bounded (h : s.Bounded) (item : Byte) (value : Half) : BoundedNext (execItemWrite item value s) :=
  onRequest_bounded h ((h.writeItem _ _).withReply _ _)

/-! ## Host port -/

theorem execStatusRead_bounded (h : s.Bounded) : BoundedNext (execStatusRead s) :=
  onRequest_bounded h ((h.withHost _).withReply _ _)

theorem execCounterRead_bounded (h : s.Bounded) (group : Byte) : BoundedNext (execCounterRead group s) := by
  refine onRequest_bounded h ?_
  dsimp only
  split
  · exact h.withReply _ _
  · exact (h.withCounters (h.counters.setGroup _ (by simp) (by simp))).withReply _ _

theorem execRestart_bounded (h : s.Bounded) : BoundedNext (execRestart s) :=
  onRequest_bounded h (h.requestRestart.withReply _ _)

theorem execUnknownRequest_bounded (h : s.Bounded) (code : Byte) : BoundedNext (execUnknownRequest code s) := by
  unfold execUnknownRequest
  split
  · exact onRequest_bounded h (h.withReply _ _)
  · rintro t ⟨⟩

theorem execHostDeselect_bounded (h : s.Bounded) (clocked : Clocking) : BoundedNext (execHostDeselect clocked s) :=
  boundedNext_next (h.withHost _)

/-! ## Every command and every step -/

theorem exec_bounded (h : s.Bounded) (c : Instr) : BoundedNext (exec c s) := by
  cases c with
  | fullReset straps => exact execFullReset_bounded h straps
  | characterReceived data parity stopOk => exact execCharacterReceived_bounded h data parity stopOk
  | gap => exact execGap_bounded h
  | carrierDetect present => exact execCarrierDetect_bounded h present
  | quietWaitExpiry => exact execQuietWaitExpiry_bounded h
  | sendComplete => exact execSendComplete_bounded h
  | stuckDrop => exact execStuckDrop_bounded h
  | joinTimerExpiry => exact execJoinTimerExpiry_bounded h
  | peerLeft peer => exact execPeerLeft_bounded h peer
  | beaconPeriod => exact execBeaconPeriod_bounded h
  | slewTick => exact execSlewTick_bounded h
  | offerClaimPeriod which => exact execOfferClaimPeriod_bounded h which
  | supplyReadyChange high => exact execSupplyReadyChange_bounded h high
  | railPresentChange milliVolts => exact execRailPresentChange_bounded h milliVolts
  | tripHoldExpiry => exact execTripHoldExpiry_bounded h
  | returnDelayExpiry delay => exact execReturnDelayExpiry_bounded h delay
  | raiseTimerExpiry load => exact execRaiseTimerExpiry_bounded h load
  | railMeasurement milliVolts => exact execRailMeasurement_bounded h milliVolts
  | clearTimerExpiry => exact execClearTimerExpiry_bounded h
  | supplyGraceExpiry => exact execSupplyGraceExpiry_bounded h
  | deliveredCurrentMeasurement milliAmps => exact execDeliveredCurrentMeasurement_bounded h milliAmps
  | tripTimerExpiry => exact execTripTimerExpiry_bounded h
  | offTimeExpiry => exact execOffTimeExpiry_bounded h
  | settleTimerExpiry => exact execSettleTimerExpiry_bounded h
  | listenTimerExpiry => exact execListenTimerExpiry_bounded h
  | confirmTimerExpiry => exact execConfirmTimerExpiry_bounded h
  | baseForcedExpiry => exact execBaseForcedExpiry_bounded h
  | receiverStateChange lane locks => exact execReceiverStateChange_bounded h lane locks
  | trainingTimerExpiry => exact execTrainingTimerExpiry_bounded h
  | lanePacketReceived lane bytes => exact execLanePacketReceived_bounded h lane bytes
  | lanePacketSent lane => exact execLanePacketSent_bounded h lane
  | dozeTimerExpiry => exact execDozeTimerExpiry_bounded h
  | lostOnWake length => exact execLostOnWake_bounded h length
  | sliceSubmit start index bytes => exact execSliceSubmit_bounded h start index bytes
  | sliceScan => exact execSliceScan_bounded h
  | sensorWriteComplete => exact execSensorWriteComplete_bounded h
  | dataReadyEdge => exact execDataReadyEdge_bounded h
  | sensorReadComplete raw => exact execSensorReadComplete_bounded h raw
  | sensorStall => exact execSensorStall_bounded h
  | motionFallbackExpiry => exact execMotionFallbackExpiry_bounded h
  | motionDrain count => exact execMotionDrain_bounded h count
  | audioFrameInput left right => exact execAudioFrameInput_bounded h left right
  | presentationTimeReached => exact execPresentationTimeReached_bounded h
  | outputFramePeriod => exact execOutputFramePeriod_bounded h
  | slipTimerExpiry => exact execSlipTimerExpiry_bounded h
  | micCapture sample => exact execMicCapture_bounded h sample
  | micOutputSample => exact execMicOutputSample_bounded h
  | remoteRestartTimerExpiry => exact execRemoteRestartTimerExpiry_bounded h
  | remoteStart target operation item value => exact execRemoteStart_bounded h target operation item value
  | deadlineExpiry => exact execDeadlineExpiry_bounded h
  | remoteResult => exact execRemoteResult_bounded h
  | itemRead item => exact execItemRead_bounded h item
  | itemWrite item value => exact execItemWrite_bounded h item value
  | statusRead => exact execStatusRead_bounded h
  | counterRead group => exact execCounterRead_bounded h group
  | rosterRead => exact execRosterRead_bounded h
  | allowanceRead => exact execAllowanceRead_bounded h
  | laneRead => exact execLaneRead_bounded h
  | framesRead => exact execFramesRead_bounded h
  | restart => exact execRestart_bounded h
  | restartTimerExpiry => exact execRestartTimerExpiry_bounded h
  | unknownRequest code => exact execUnknownRequest_bounded h code
  | hostDeselect clocked => exact execHostDeselect_bounded h clocked
  | railPowerLoss => exact execRailPowerLoss_bounded h
  | characterMissing => exact execCharacterMissing_bounded h

theorem step_bounded (h : s.Bounded) : BoundedNext (step s) := by
  unfold step
  split
  · refine boundedNext_next ?_
    split
    · exact h.advance 1
    · exact h
  · next c rest _ => exact exec_bounded (h.withPending rest) c

/-- Settles O5: every command keeps the bounds of the node, and so does the idle microsecond on an empty queue. -/
theorem boundsAreKept : Obligations.BoundsAreKept :=
  fun _ t h hstep => step_bounded h t hstep

end Sys2Proof.Machine
end

section
/-! SUPPORT. The transmit queue: what an insertion, a replacement, an offering and a clash do to it, and to the order of its kinds
(R13 to R15, R20). -/

namespace Sys2Proof.Machine

/-! ## Insertions -/

theorem insertLast_eq (e : QEntry) (q : List QEntry) : insertLast e q =
    q.takeWhile (fun x => x.kind.cls ≤ e.kind.cls) ++ e :: q.dropWhile (fun x => x.kind.cls ≤ e.kind.cls) := by
  induction q with
  | nil => rfl
  | cons x rest ih =>
    by_cases h : e.kind.cls < x.kind.cls
    · simp [insertLast, h]
    · simp [insertLast, h, Nat.le_of_not_lt h, ih]

theorem insertFirst_eq (e : QEntry) (q : List QEntry) : insertFirst e q =
    q.takeWhile (fun x => x.kind.cls < e.kind.cls) ++ e :: q.dropWhile (fun x => x.kind.cls < e.kind.cls) := by
  induction q with
  | nil => rfl
  | cons x rest ih =>
    by_cases h : e.kind.cls ≤ x.kind.cls
    · simp [insertFirst, h, Nat.not_lt.2 h]
    · simp [insertFirst, h, Nat.lt_of_not_le h, ih]

theorem insertLast_kinds (e : QEntry) (q : List QEntry) : (insertLast e q).map QEntry.kind =
    (q.map QEntry.kind).takeWhile (fun x => x.cls ≤ e.kind.cls) ++
      e.kind :: (q.map QEntry.kind).dropWhile (fun x => x.cls ≤ e.kind.cls) := by
  simp [insertLast_eq, List.takeWhile_map, List.dropWhile_map, Function.comp_def]

theorem insertFirst_kinds (e : QEntry) (q : List QEntry) : (insertFirst e q).map QEntry.kind =
    (q.map QEntry.kind).takeWhile (fun x => x.cls < e.kind.cls) ++
      e.kind :: (q.map QEntry.kind).dropWhile (fun x => x.cls < e.kind.cls) := by
  simp [insertFirst_eq, List.takeWhile_map, List.dropWhile_map, Function.comp_def]

theorem replaceContent_kinds (k : BurstKind) (p : List Byte) (q : List QEntry) :
    (replaceContent k p q).map QEntry.kind = q.map QEntry.kind := by
  induction q with
  | nil => rfl
  | cons x rest ih => unfold replaceContent; split <;> simp [ih]

/-- The first waiting entry of the kind takes the new content, and nothing else changes (R14). -/
theorem replaceContent_split {k : BurstKind} (p : List Byte) {q : List QEntry} (h : ∃ e ∈ q, e.kind = k) :
    ∃ before e behind, q = before ++ e :: behind ∧ e.kind = k ∧ (∀ x ∈ before, x.kind ≠ k) ∧
      replaceContent k p q = before ++ { e with payload := p } :: behind := by
  induction q with
  | nil => simp at h
  | cons x rest ih =>
    by_cases hx : x.kind = k
    · exact ⟨[], x, rest, rfl, hx, by simp, by simp [replaceContent, hx]⟩
    · obtain ⟨before, e, behind, hq, hk, hb, hr⟩ := ih (by simpa [hx] using h)
      exact ⟨x :: before, e, behind, by simp [hq], hk, by simpa [hx] using hb, by simp [replaceContent, hx, hr]⟩

/-! ## The order of the kinds (R13, R14) -/

/-- The form of the queue, of its kinds alone: in order of class, each replaceable kind at most once. -/
structure KindsOrdered (l : List BurstKind) : Prop where
  classes : l.Pairwise (fun a b => a.cls ≤ b.cls)
  single  : ∀ k : BurstKind, k.replaceable = true → l.count k ≤ 1

theorem Rail.ordered_iff (r : Rail) : r.Ordered ↔ KindsOrdered (r.queue.map QEntry.kind) := by
  have hc : ∀ k, (r.queue.filter (fun e => e.kind == k)).length = (r.queue.map QEntry.kind).count k := by
    intro k
    rw [List.count_eq_countP, List.countP_map, List.countP_eq_length_filter]
    rfl
  exact ⟨fun h => ⟨List.pairwise_map.2 h.classes, fun k hk => hc k ▸ h.single k hk⟩,
    fun h => ⟨(List.pairwise_map (f := QEntry.kind)).1 h.classes, fun k hk => (hc k).symm ▸ h.single k hk⟩⟩

namespace KindsOrdered

theorem nil : KindsOrdered [] := ⟨List.Pairwise.nil, by simp⟩

theorem sublist {l l' : List BurstKind} (h : KindsOrdered l) (hs : l'.Sublist l) : KindsOrdered l' :=
  ⟨h.classes.sublist hs, fun k hk => (hs.count_le k).trans (h.single k hk)⟩

/-- A kind put between those of no later and those of no earlier class; a replaceable one must not be there. -/
theorem insert {l₁ l₂ : List BurstKind} {k : BurstKind} (h : KindsOrdered (l₁ ++ l₂)) (h₁ : ∀ x ∈ l₁, x.cls ≤ k.cls)
    (h₂ : ∀ x ∈ l₂, k.cls ≤ x.cls) (hk : k.replaceable = true → k ∉ l₁ ++ l₂) : KindsOrdered (l₁ ++ k :: l₂) := by
  obtain ⟨hp₁, hp₂, hp⟩ := List.pairwise_append.1 h.classes
  refine ⟨List.pairwise_append.2 ⟨hp₁, List.pairwise_cons.2 ⟨h₂, hp₂⟩, ?_⟩, fun j hj => ?_⟩
  · intro a ha b hb
    rcases List.mem_cons.1 hb with rfl | hb
    · exact h₁ a ha
    · exact hp a ha b hb
  · rw [List.perm_middle.count_eq, List.count_cons]
    by_cases hjk : k = j
    · subst hjk
      simp [List.count_eq_zero_of_not_mem (hk hj)]
    · simpa [hjk] using h.single j hj

/-- What follows the first kind that fails a test stands at or behind its class. -/
theorem le_of_mem_dropWhile {l : List BurstKind} (h : l.Pairwise (fun a b => a.cls ≤ b.cls)) {p : BurstKind → Bool} {c : Nat}
    (hp : ∀ x, p x = false → c ≤ x.cls) : ∀ x ∈ l.dropWhile p, c ≤ x.cls := by
  induction l with
  | nil => simp
  | cons y rest ih =>
    obtain ⟨hy, hrest⟩ := List.pairwise_cons.1 h
    intro x hx
    cases hpy : p y with
    | true => exact ih hrest x (by simpa [hpy] using hx)
    | false =>
      rcases List.mem_cons.1 (by simpa [hpy] using hx) with rfl | hx
      · exact hp _ hpy
      · exact (hp y hpy).trans (hy x hx)

/-- A kind put before the first that fails a test: it passes those of no later class and stops at one of no earlier. -/
theorem insertAt {l : List BurstKind} {k : BurstKind} (h : KindsOrdered l) {p : BurstKind → Bool}
    (ht : ∀ x, p x = true → x.cls ≤ k.cls) (hf : ∀ x, p x = false → k.cls ≤ x.cls) (hk : k.replaceable = true → k ∉ l) :
    KindsOrdered (l.takeWhile p ++ k :: l.dropWhile p) := by
  have hl := List.takeWhile_append_dropWhile (p := p) (l := l)
  refine insert (hl.symm ▸ h) (fun x hx => ht x (List.mem_takeWhile_imp hx)) (le_of_mem_dropWhile h.classes hf) ?_
  rwa [hl]

theorem insertLast {q : List QEntry} {e : QEntry} (h : KindsOrdered (q.map QEntry.kind))
    (hk : e.kind.replaceable = true → e.kind ∉ q.map QEntry.kind) : KindsOrdered ((insertLast e q).map QEntry.kind) := by
  rw [insertLast_kinds]
  exact h.insertAt (by simp) (fun x hx => by have := of_decide_eq_false hx; omega) hk

theorem insertFirst {q : List QEntry} {e : QEntry} (h : KindsOrdered (q.map QEntry.kind))
    (hk : e.kind.replaceable = true → e.kind ∉ q.map QEntry.kind) : KindsOrdered ((insertFirst e q).map QEntry.kind) := by
  rw [insertFirst_kinds]
  exact h.insertAt (fun x hx => by have := of_decide_eq_true hx; omega) (by simp) hk

theorem filter {q : List QEntry} (h : KindsOrdered (q.map QEntry.kind)) (p : QEntry → Bool) :
    KindsOrdered ((q.filter p).map QEntry.kind) := h.sublist (List.filter_sublist.map _)

/-- With one entry of a replaceable kind taken out, none is left. -/
theorem not_mem_filter {q : List QEntry} (h : KindsOrdered (q.map QEntry.kind)) {n : QEntry} (hn : n ∈ q)
    (hk : n.kind.replaceable = true) {p : QEntry → Bool} (hp : p n = false) : n.kind ∉ (q.filter p).map QEntry.kind := by
  have hone : q.countP (fun x => x.kind == n.kind) ≤ 1 := by
    have := h.single _ hk
    rwa [List.count_eq_countP, List.countP_map] at this
  rw [List.countP_eq_countP_filter_add _ _ p] at hone
  have hout : 0 < (q.filter (fun x => !p x)).countP (fun x => x.kind == n.kind) :=
    List.countP_pos_iff.2 ⟨n, List.mem_filter.2 ⟨hn, by simp [hp]⟩, by simp⟩
  have hin : (q.filter p).countP (fun x => x.kind == n.kind) = 0 := by omega
  intro hmem
  obtain ⟨y, hy, hyk⟩ := List.mem_map.1 hmem
  exact List.countP_eq_zero.1 hin y hy (by simp [hyk])

/-- A clashed entry, or the newer one in its place, goes back without a second of its replaceable kind (R20). -/
theorem replaceAfterClash {q : List QEntry} (h : KindsOrdered (q.map QEntry.kind)) (e : QEntry) :
    KindsOrdered ((replaceAfterClash e q).map QEntry.kind) := by
  unfold Machine.replaceAfterClash
  split
  · next n hn =>
    obtain ⟨hr, hfind⟩ : e.kind.replaceable = true ∧ q.find? (fun x => x.kind == e.kind) = some n := by simpa using hn
    have hkind : n.kind = e.kind := by simpa using List.find?_some hfind
    exact (h.filter _).insertFirst
      (fun _ => h.not_mem_filter (List.mem_of_find?_eq_some hfind) (hkind ▸ hr) (by simp))
  · next hn =>
    refine h.insertFirst (fun hr hmem => ?_)
    obtain ⟨y, hy, hyk⟩ := List.mem_map.1 hmem
    simp only [hr, if_true] at hn
    exact List.find?_eq_none.1 hn y hy (by simp [hyk])

end KindsOrdered

/-! ## An offering (R14 to R16) -/

/-- A waiting burst of the kind takes the content of a new one (R14). -/
def Rail.waits (r : Rail) (k : BurstKind) : Prop := k.replaceable = true ∧ ∃ e ∈ r.queue, e.kind = k

theorem Rail.waits_iff (r : Rail) (k : BurstKind) :
    (k.replaceable && r.queue.any (fun e => e.kind == k)) = true ↔ r.waits k := by simp [Rail.waits]

namespace State

variable {s : State} {k : BurstKind} {p : List Byte}

theorem offerBurst_listenOnly (h : s.roster.join = .listenOnly) : s.offerBurst k p = s := by simp [State.offerBurst, h]

theorem offerBurst_waits (h : s.roster.join ≠ .listenOnly) (hw : s.rail.waits k) :
    s.offerBurst k p = { s with rail := { s.rail with queue := replaceContent k p s.rail.queue } } := by
  rw [State.offerBurst, if_neg h, if_pos ((s.rail.waits_iff k).2 hw)]

theorem offerBurst_room (h : s.roster.join ≠ .listenOnly) (hw : ¬ s.rail.waits k) (hs : s.rail.size < 8) :
    s.offerBurst k p = s.addEntry k p := by
  rw [State.offerBurst, if_neg h, if_neg (mt (s.rail.waits_iff k).1 hw), if_pos hs]

theorem offerBurst_makesRoom (h : s.roster.join ≠ .listenOnly) (hw : ¬ s.rail.waits k) (hs : 8 ≤ s.rail.size) {e : QEntry}
    (he : newestPeriodic s.rail.queue = some e) : s.offerBurst k p =
      ({ s with rail := { s.rail with queue := s.rail.queue.filter (fun x => x.id != e.id) } } : State).addEntry k p := by
  rw [State.offerBurst, if_neg h, if_neg (mt (s.rail.waits_iff k).1 hw), if_neg (Nat.not_lt.2 hs), he]

theorem offerBurst_refused (h : s.roster.join ≠ .listenOnly) (hw : ¬ s.rail.waits k) (hs : 8 ≤ s.rail.size)
    (he : newestPeriodic s.rail.queue = none) :
    s.offerBurst k p = if k = .ask then (s.bump cQueueFull).askGivenUp else s.bump cQueueFull := by
  rw [State.offerBurst, if_neg h, if_neg (mt (s.rail.waits_iff k).1 hw), if_neg (Nat.not_lt.2 hs), he]

end State

end Sys2Proof.Machine
end

section
/-! SUPPORT. The voice of the node: its join state and timer, what waits in its transmit queue and what it is sending. Most operations
leave it as it is; what the others can do to it is said once, as the moves of `Voice.Move`, and every command but a full reset makes
such moves alone. What all moves keep, every step keeps. -/

namespace Sys2Proof.Machine

structure Voice where
  join     : JoinState
  joinFrom : Option Nat
  queue    : List QEntry
  sending  : Option Sending

def State.voice (s : State) : Voice := ⟨s.roster.join, s.roster.joinFrom, s.rail.queue, s.rail.sending⟩

@[simp] theorem voice_eta (s : State) :
    (⟨s.roster.join, s.roster.joinFrom, s.rail.queue, s.rail.sending⟩ : Voice) = s.voice := rfl

@[simp] theorem voice_mk (pw st cl ra ro po lo ag la ss sh mh ms au ah re ho co it fr pe) :
    State.voice ⟨pw, st, cl, ra, ro, po, lo, ag, la, ss, sh, mh, ms, au, ah, re, ho, co, it, fr, pe⟩ =
      ⟨ro.join, ro.joinFrom, ra.queue, ra.sending⟩ := rfl

/-- An operation of the path that offers no burst (Laws/Frame.lean) keeps the voice. -/
theorem voice_of_frame {s t : State} (hb : t.beyond = s.beyond) (hr : t.rail = s.rail) : t.voice = s.voice := by
  unfold State.voice
  rw [hr, join_of_core (core_of_beyond hb), show t.roster.joinFrom = s.roster.joinFrom from congrArg Beyond.joinFrom hb]

section
variable (s : State)

/-! ## Single updates that keep the voice -/

@[simp] theorem State.raise_voice (f : Flag) : (s.raise f).voice = s.voice := rfl
@[simp] theorem State.count_voice (c : Counter) (n : Nat) : (s.count c n).voice = s.voice := rfl
@[simp] theorem State.bump_voice (c : Counter) : (s.bump c).voice = s.voice := rfl
@[simp] theorem State.advance_voice (n : Nat) : (s.advance n).voice = s.voice := rfl
@[simp] theorem State.withReply_voice (st : Status) (b : List Byte) : (s.withReply st b).voice = s.voice := rfl
@[simp] theorem State.syncHead_voice : s.syncHead.voice = s.voice := rfl
@[simp] theorem State.setRx_voice (r : Receiver) : (s.setRx r).voice = s.voice := rfl
@[simp] theorem State.setPeers_voice (l : List Entry) : (s.setPeers l).voice = s.voice := rfl
@[simp] theorem State.mapAudio_voice (f : AudioHeadset → AudioHeadset) : (s.mapAudio f).voice = s.voice := rfl
@[simp] theorem State.sendFrame_voice (f : Half × Half) : (s.sendFrame f).voice = s.voice := rfl
@[simp] theorem State.drawFrame_voice : s.drawFrame.2.voice = s.voice := rfl
@[simp] theorem State.setSlot_voice (k : Nat) (x : Slot) : (s.setSlot k x).voice = s.voice := rfl
@[simp] theorem State.show_voice (k : Nat) (b : Option (List Byte)) : (s.show k b).voice = s.voice := rfl
@[simp] theorem State.markNotFresh_voice : s.markNotFresh.voice = s.voice := rfl
@[simp] theorem State.answerSlice_voice (c : Byte) : (s.answerSlice c).voice = s.voice := rfl
@[simp] theorem State.setSubmission_voice (o : Option Submission) : (s.setSubmission o).voice = s.voice := rfl
@[simp] theorem State.offerPacket_voice (lane : Lane) (p : Packet) : (s.offerPacket lane p).voice = s.voice := rfl
@[simp] theorem State.startSensorWrite_voice : s.startSensorWrite.voice = s.voice := rfl
@[simp] theorem State.endRemote_voice (r : RemoteState) : (s.endRemote r).voice = s.voice := rfl

/-! ## Ends of requests -/

@[simp] theorem State.askGivenUp_voice : s.askGivenUp.voice = s.voice := by
  unfold State.askGivenUp; split <;> simp
@[simp] theorem State.tellDiscarded_voice (e : QEntry) : (s.tellDiscarded e).voice = s.voice := by
  unfold State.tellDiscarded; split <;> simp
@[simp] theorem State.askSent_voice : s.askSent.voice = s.voice := by
  unfold State.askSent; split <;> simp
@[simp] theorem State.answerArrives_voice (a : Addr) (p : List Byte) : (s.answerArrives a p).voice = s.voice := by
  unfold State.answerArrives; (repeat' split) <;> simp
@[simp] theorem State.noteRestartAnswer_voice (n : Nat) : (s.noteRestartAnswer n).voice = s.voice := by
  unfold State.noteRestartAnswer; split <;> simp
@[simp] theorem State.readCounter_voice (g i : Nat) : (s.readCounter g i).state.voice = s.voice := by
  unfold State.readCounter; split <;> simp

/-! ## Lanes and slices -/

@[simp] theorem State.feedSlice_voice : s.feedSlice.voice = s.voice := by
  unfold State.feedSlice; (repeat' split) <;> simp
@[simp] theorem State.feedSlices_voice : s.feedSlices.voice = s.voice := by simp [State.feedSlices]
@[simp] theorem State.syncSchedule_voice : s.syncSchedule.voice = s.voice := by
  rw [State.syncSchedule_eq]; split <;> simp
@[simp] theorem State.refuseSlice_voice (b : Byte) (c : Counter) : (s.refuseSlice b c).voice = s.voice := by
  simp [State.refuseSlice]
@[simp] theorem State.acceptSlice_voice (a : Anchor) (n k : Nat) (b : List Byte) :
    (s.acceptSlice a n k b).voice = s.voice := by
  unfold State.acceptSlice; dsimp only; split <;> simp
@[simp] theorem State.judgeSlice_voice (a : Anchor) (g : Grade) (k : Nat) (b : List Byte) :
    (s.judgeSlice a g k b).voice = s.voice := by unfold State.judgeSlice; (repeat' split) <;> simp
@[simp] theorem State.submitSlice_voice (st : Bool) (k : Nat) (b : List Byte) : (s.submitSlice st k b).voice = s.voice := by
  unfold State.submitSlice; dsimp only; (repeat' split) <;> simp
@[simp] theorem State.sliceArrives_voice (f : Half) (k pt : Nat) (b : List Byte) :
    (s.sliceArrives f k pt b).voice = s.voice := by unfold State.sliceArrives; dsimp only; (repeat' split) <;> simp
@[simp] theorem State.freePassedOver_voice (n : Half) (k : Nat) : (s.freePassedOver n k).voice = s.voice := by
  unfold State.freePassedOver; dsimp only; (repeat' split) <;> simp
@[simp] theorem State.showAgain_voice (n : Half) (k t : Nat) : (s.showAgain n k t).voice = s.voice := by
  unfold State.showAgain; dsimp only; (repeat' split) <;> simp
@[simp] theorem State.showIndex_voice (n : Half) (k t : Nat) : (s.showIndex n k t).voice = s.voice := by
  unfold State.showIndex; dsimp only; (repeat' split) <;> simp
@[simp] theorem State.makeFrameShown_voice (n t r : Nat) : (s.makeFrameShown n t r).voice = s.voice := by
  unfold State.makeFrameShown; split <;> simp
@[simp] theorem State.nextScan_voice (a n k : Nat) : (s.nextScan a n k).voice = s.voice := by
  unfold State.nextScan; dsimp only; split <;> simp
@[simp] theorem State.scanIndex_voice (a : Nat) : (s.scanIndex a).voice = s.voice := by simp [State.scanIndex]
@[simp] theorem State.scanStep_voice (n : Nat) : (s.scanStep n).voice = s.voice := by
  unfold State.scanStep; dsimp only; (repeat' split) <;> simp
@[simp] theorem State.frameShownArrives_voice (r : FrameShown) : (s.frameShownArrives r).voice = s.voice := rfl
@[simp] theorem State.forwardPacket_voice (l : Lane) (p : Packet) : (s.forwardPacket l p).voice = s.voice := by
  unfold State.forwardPacket; split <;> simp

/-! ## Motion -/

@[simp] theorem State.noteRange_voice (r : MotionRecord) : (s.noteRange r).voice = s.voice := by
  unfold State.noteRange; split <;> simp
@[simp] theorem State.countReplaced_voice (l : Lane) (k : PacketKind) (c : Counter) :
    (s.countReplaced l k c).voice = s.voice := by unfold State.countReplaced; split <;> simp
@[simp] theorem State.carryRecord_voice (r : MotionRecord) : (s.carryRecord r).voice = s.voice := by
  unfold State.carryRecord; dsimp only; split <;> simp
@[simp] theorem State.endRead_voice : s.endRead.voice = s.voice := by
  unfold State.endRead; dsimp only; split <;> simp
@[simp] theorem State.completeRead_voice (r : SensorRead) (a : Axes) : (s.completeRead r a).voice = s.voice := by
  simp [State.completeRead]
@[simp] theorem State.queueRecord_voice (r : MotionRecord) : (s.queueRecord r).voice = s.voice := by
  unfold State.queueRecord; dsimp only; split <;> simp
@[simp] theorem State.emptyMotionQueue_voice : s.emptyMotionQueue.voice = s.voice := by
  unfold State.emptyMotionQueue; dsimp only; split <;> simp
@[simp] theorem State.recordArrives_voice (r : MotionRecord) : (s.recordArrives r).voice = s.voice := by
  unfold State.recordArrives; (repeat' split) <;> simp

/-! ## Audio -/

@[simp] theorem State.closePlayBlock_voice (l : List (Half × Half)) : (s.closePlayBlock l).voice = s.voice := by
  unfold State.closePlayBlock; dsimp only; split <;> simp
@[simp] theorem State.enterPlaying_voice : s.enterPlaying.voice = s.voice := rfl
@[simp] theorem State.startIfDue_voice : s.startIfDue.voice = s.voice := by
  unfold State.startIfDue; (repeat' split) <;> simp
@[simp] theorem State.judgeHead_voice : s.judgeHead.voice = s.voice := by
  unfold State.judgeHead; dsimp only; split <;> simp
@[simp] theorem State.audioArrives_voice (q : Half) (t : Nat) (l : List (Half × Half)) :
    (s.audioArrives q t l).voice = s.voice := by unfold State.audioArrives; dsimp only; (repeat' split) <;> simp
@[simp] theorem State.keepLastFrame_voice : s.keepLastFrame.voice = s.voice := by
  unfold State.keepLastFrame; split <;> simp
@[simp] theorem State.enterRamping_voice : s.enterRamping.voice = s.voice := by simp [State.enterRamping]
@[simp] theorem State.removeHeadFrame_voice : s.removeHeadFrame.voice = s.voice := by
  unfold State.removeHeadFrame; (repeat' split) <;> simp
@[simp] theorem State.playFrame_voice (f : Half × Half) : (s.playFrame f).voice = s.voice := by
  unfold State.playFrame; dsimp only; split <;> simp
@[simp] theorem State.rampPeriod_voice (n : Nat) : (s.rampPeriod n).voice = s.voice := by
  unfold State.rampPeriod; dsimp only; split <;> simp
@[simp] theorem State.outputPeriod_voice : s.outputPeriod.voice = s.voice := by
  unfold State.outputPeriod; (repeat' split) <;> simp
@[simp] theorem State.slip_voice : s.slip.voice = s.voice := by
  unfold State.slip; (repeat' split) <;> simp
@[simp] theorem State.audioStep_voice : s.audioStep.voice = s.voice := by
  unfold State.audioStep; (repeat' split) <;> simp
@[simp] theorem State.closeMicBlock_voice (t : Nat) (l : List Half) : (s.closeMicBlock t l).voice = s.voice := by
  unfold State.closeMicBlock; dsimp only; split <;> simp
@[simp] theorem State.captureSample_voice (v : Half) : (s.captureSample v).voice = s.voice := by
  unfold State.captureSample; dsimp only; (repeat' split) <;> simp
@[simp] theorem State.micArrives_voice (t : Nat) (l : List Half) : (s.micArrives t l).voice = s.voice := by
  unfold State.micArrives; dsimp only; split <;> simp

/-! ## Packets, receiving, the clock and the loads -/

@[simp] theorem State.packetArrives_voice (k : PacketKind) (b : List Byte) : (s.packetArrives k b).voice = s.voice := by
  unfold State.packetArrives; dsimp only; split <;> simp
@[simp] theorem State.takePacket_voice (l : Lane) (b : List Byte) : (s.takePacket l b).voice = s.voice := by
  unfold State.takePacket; (repeat' split) <;> simp
@[simp] theorem State.restartDoze_voice (l : Lane) : (s.restartDoze l).voice = s.voice := by
  unfold State.restartDoze; split <;> simp
@[simp] theorem State.countSent_voice (l : Lane) (k : PacketKind) : (s.countSent l k).voice = s.voice := by
  unfold State.countSent; dsimp only; (repeat' split) <;> simp
@[simp] theorem State.freeTransmitter_voice (l : Lane) : (s.freeTransmitter l).voice = s.voice := by
  unfold State.freeTransmitter; dsimp only; split <;> simp
@[simp] theorem State.gapIfDue_voice : s.gapIfDue.voice = s.voice := by
  unfold State.gapIfDue State.abandon; (repeat' split) <;> simp
@[simp] theorem State.stepClock_voice (n : Nat) : (s.stepClock n).voice = s.voice := by
  unfold State.stepClock; dsimp only; split <;> simp
@[simp] theorem State.raiseSlew_voice (n : Nat) : (s.raiseSlew n).voice = s.voice := by simp [State.raiseSlew]
@[simp] theorem State.clockHears_voice (a b : Nat) : (s.clockHears a b).voice = s.voice := by
  unfold State.clockHears; dsimp only; (repeat' split) <;> simp
@[simp] theorem State.raiseLoad_voice (k : Load) : (s.raiseLoad k).voice = s.voice := by
  unfold State.raiseLoad; dsimp only; rw [State.handLevels_eq]; (repeat' split) <;> simp
@[simp] theorem State.judgeDroop_voice (b : Bool) : (s.judgeDroop b).voice = s.voice := by
  unfold State.judgeDroop; dsimp only; split <;> simp

/-! ## What silences and what restarts the node -/

/-- A silenced queue is empty, and nothing is being sent (R16). -/
theorem State.silence_voice : s.silence.voice = ⟨s.roster.join, s.roster.joinFrom, [], none⟩ := by
  unfold State.silence; dsimp only
  split
  · rw [State.askGivenUp_voice]; rfl
  · next h => simpa using h

/-- A node that is listen-only stays so at a restart; any other one joins again (R28, R32). -/
theorem State.restart_voice : s.restart.voice =
    ⟨if s.roster.join = .listenOnly then .listenOnly else .joining,
      if s.roster.join = .listenOnly then none else some s.clock.now, [], none⟩ := by
  by_cases h : s.roster.join = .listenOnly <;>
    simp [State.restart, State.boot, State.settleAtReset, State.mapSelf, bootBlocks, bootRoster, bootRail, State.keptAtRestart, h]

end

/-! ## The moves -/

/-- All that a command other than a full reset can do to the voice, one move at a time. -/
inductive Voice.Move : Voice → Voice → Prop
  /-- An offered burst takes the place of a waiting one (R14). -/
  | replaced (v k p) : v.join ≠ .listenOnly → Move v { v with queue := replaceContent k p v.queue }
  /-- An offered burst is added, where none of its replaceable kind waits; an older one may have made room (R15). -/
  | added (v k p id keep) : v.join ≠ .listenOnly → (k.replaceable = true → ∀ e ∈ v.queue, e.kind ≠ k) →
      Move v { v with queue := insertLast ⟨id, k, p, 0⟩ (v.queue.filter keep) }
  /-- The head begins to be sent (R19). -/
  | begun (v e rest x) : v.join = .active → v.queue = e :: rest → Move v { v with queue := rest, sending := some x }
  /-- A sent character is heard (R20). -/
  | heard (v x y) : v.sending = some x → Move v { v with sending := some y }
  /-- A clash puts an entry back (R20). -/
  | clashed (v x e) : v.sending = some x → Move v { v with queue := replaceAfterClash e v.queue, sending := none }
  /-- The sending stops. -/
  | stopped (v) : Move v { v with sending := none }
  /-- The head is discarded (R22). -/
  | dropped (v e rest) : v.queue = e :: rest → Move v { v with queue := rest }
  /-- The node becomes listen-only and silent (R16, R30). -/
  | silenced (v) : Move v ⟨.listenOnly, none, [], none⟩
  /-- A running join ends (R28). -/
  | joined (v t) : v.joinFrom = some t → Move v { v with join := .active, joinFrom := none }
  /-- The node restarts (R32). -/
  | restarted (v now) : Move v ⟨if v.join = .listenOnly then .listenOnly else .joining,
      if v.join = .listenOnly then none else some now, [], none⟩

/-- Moves lead from the voice of one state to that of the other. -/
def State.Moves (s t : State) : Prop := Relation.ReflTransGen Voice.Move s.voice t.voice

/-- What every move keeps, moves keep. -/
theorem State.Moves.keeps {P : Voice → Prop} (hP : ∀ {v w}, Voice.Move v w → P v → P w) {s t : State} (h : s.Moves t)
    (hs : P s.voice) : P t.voice :=
  Relation.ReflTransGen.head_induction_on (motive := fun v _ => P v → P t.voice) h id (fun hvw _ ih hv => ih (hP hvw hv)) hs

namespace State.Moves

variable {s₀ s : State}

theorem refl (s : State) : s.Moves s := Relation.ReflTransGen.refl

/-- What keeps the voice makes no move. -/
theorem same (h : s₀.Moves s) {t : State} (ht : t.voice = s.voice) : s₀.Moves t := by
  unfold State.Moves; rw [ht]; exact h

theorem move (h : s₀.Moves s) {t : State} (ht : Voice.Move s.voice t.voice) : s₀.Moves t := Relation.ReflTransGen.tail h ht

/-- An operation of the path that offers no burst. -/
theorem path (h : s₀.Moves s) {t : State} (hb : t.beyond = s.beyond) (hr : t.rail = s.rail) : s₀.Moves t :=
  h.same (voice_of_frame hb hr)

/-! ## Offerings -/

theorem offerBurst (h : s₀.Moves s) (k : BurstKind) (p : List Byte) : s₀.Moves (s.offerBurst k p) := by
  by_cases hj : s.roster.join = .listenOnly
  · rwa [offerBurst_listenOnly hj]
  by_cases hw : s.rail.waits k
  · rw [offerBurst_waits hj hw]
    exact h.move (.replaced _ k p hj)
  have hnone : k.replaceable = true → ∀ e ∈ s.rail.queue, e.kind ≠ k := fun hr e he hk => hw ⟨hr, e, he, hk⟩
  by_cases hs : s.rail.size < 8
  · rw [offerBurst_room hj hw hs]
    refine h.move (t := s.addEntry k p) ?_
    have := Voice.Move.added s.voice k p s.rail.nextId (fun _ => true) hj hnone
    rwa [List.filter_true] at this
  · cases he : newestPeriodic s.rail.queue with
    | some e =>
      rw [offerBurst_makesRoom hj hw (Nat.le_of_not_lt hs) he]
      exact h.move (.added s.voice k p s.rail.nextId (fun x => x.id != e.id) hj hnone)
    | none =>
      rw [offerBurst_refused hj hw (Nat.le_of_not_lt hs) he]
      exact h.same (by split <;> simp)

theorem offerNotice (h : s₀.Moves s) (k : Byte) (d : Nat) : s₀.Moves (s.offerNotice k d) := h.offerBurst _ _
theorem offerBeacon (h : s₀.Moves s) : s₀.Moves s.offerBeacon := h.offerBurst _ _

theorem announceOffer (h : s₀.Moves s) : s₀.Moves s.announceOffer := by
  unfold State.announceOffer; split
  · exact offerBurst (h.same (by rfl)) _ _
  · exact h
theorem announceClaim (h : s₀.Moves s) : s₀.Moves s.announceClaim := by
  unfold State.announceClaim; split
  · exact offerBurst (h.same (by rfl)) _ _
  · exact h
theorem offerFallback (h : s₀.Moves s) : s₀.Moves s.offerFallback := by
  unfold State.offerFallback; (repeat' split)
  · exact h
  · exact offerBurst (h.same (by rfl)) _ _
  · exact h
theorem requestRestart (h : s₀.Moves s) : s₀.Moves s.requestRestart := by
  unfold State.requestRestart; split
  · exact h
  · exact offerNotice (h.same (by rfl)) _ _
theorem startRemote (h : s₀.Moves s) (a b c : Byte) (v : Half) : s₀.Moves (s.startRemote a b c v) :=
  offerBurst (h.same (by rfl)) _ _

/-! ## Power and agreement -/

theorem reform (h : s₀.Moves s) : s₀.Moves s.reform := h.path (by simp) (by simp)
theorem halt (h : s₀.Moves s) (r : Reason) : s₀.Moves (s.halt r) := h.path (by simp) (by simp)
theorem openRound (h : s₀.Moves s) (r : Reason) : s₀.Moves (s.openRound r) := h.path (by simp) (by simp)
theorem failRound (h : s₀.Moves s) (r : Reason) : s₀.Moves (s.failRound r) := h.path (by simp) (by simp)
theorem confirmFailure (h : s₀.Moves s) : s₀.Moves s.confirmFailure := h.path (by simp) (by simp)
theorem judgeConfirms (h : s₀.Moves s) : s₀.Moves s.judgeConfirms := h.path (by simp) (by simp)

theorem settleOffer (h : s₀.Moves s) : s₀.Moves s.settleOffer := by
  unfold State.settleOffer; split
  · exact h
  · exact path (announceOffer (s := s.mapSelf (fun e => { e with offer := s.ownOffer })) (h.same (by rfl))) (by simp) (by simp)
theorem settleClaimList (h : s₀.Moves s) : s₀.Moves s.settleClaimList := by
  unfold State.settleClaimList; split
  · exact h
  · exact path (announceClaim (s := s.mapSelf (fun e => { e with claim := s.ownClaim })) (h.same (by rfl))) (by simp) (by simp)
theorem settleClaim (h : s₀.Moves s) : s₀.Moves s.settleClaim := h.settleClaimList.reform
theorem endTripHold (h : s₀.Moves s) : s₀.Moves s.endTripHold := settleOffer (h.same (by rfl))
theorem closeSwitch (h : s₀.Moves s) : s₀.Moves s.closeSwitch := settleOffer (h.same (by rfl))
theorem openSwitch (h : s₀.Moves s) (b : Bool) : s₀.Moves (s.openSwitch b) := settleOffer (h.same (by rfl))
theorem beginTrip (h : s₀.Moves s) (d : Nat) (b : Bool) : s₀.Moves (s.beginTrip d b) :=
  same (offerNotice (s := { s with power := { s.power with trip := .pending s.clock.now b, overrun := 0, measureFrom := none } })
    (h.same (by rfl)) noticeTrip d) (by rfl)
theorem lowerCeiling (h : s₀.Moves s) : s₀.Moves s.lowerCeiling := by
  unfold State.lowerCeiling; (repeat' split)
  · exact h
  · exact h
  · exact settleClaimList (h.same (by rfl))
theorem trainingFailure (h : s₀.Moves s) : s₀.Moves s.trainingFailure := by
  unfold State.trainingFailure; dsimp only; split
  · exact failRound (lowerCeiling (h.same (by rfl))) _
  · exact failRound (h.same (by rfl)) _
theorem enterConfirming (h : s₀.Moves s) (g : Grade) : s₀.Moves (s.enterConfirming g) :=
  (offerBurst (h.path (by simp) (by simp)) _ _).judgeConfirms
theorem choose (h : s₀.Moves s) : s₀.Moves s.choose := by
  unfold State.choose; (repeat' split)
  · exact h.halt _
  · exact h.halt _
  · exact h.enterConfirming _
theorem startListen (h : s₀.Moves s) : s₀.Moves s.startListen :=
  offerBurst (path (s := s.noteListened) (h.same (by rfl)) (by simp) (by simp)) _ _
theorem enterListen (h : s₀.Moves s) : s₀.Moves s.enterListen := by
  unfold State.enterListen; split
  · exact h.startListen.choose
  · exact h.startListen
theorem takeStepDue (h : s₀.Moves s) : s₀.Moves s.takeStepDue := by
  unfold State.takeStepDue
  (repeat' split) <;> first | exact h | exact h.enterListen | exact h.choose | exact h.confirmFailure
theorem endBaseForced (h : s₀.Moves s) : s₀.Moves s.endBaseForced := by
  unfold State.endBaseForced; dsimp only; split
  · exact reform (h.same (by rfl))
  · exact h.takeStepDue
theorem adopt (h : s₀.Moves s) (r : Half) : s₀.Moves (s.adopt r) := by
  have h1 : s₀.Moves (s.setRound r) := h.same (by rfl)
  unfold State.adopt; dsimp only; (repeat' split)
  · exact h1
  · exact h1.halt _
  · exact h1.path (by simp) (by simp)
theorem roundHeard (h : s₀.Moves s) (b : Bool) (r : Half) : s₀.Moves (s.roundHeard b r) := by
  unfold State.roundHeard
  (repeat' split) <;> first | exact h | exact h.adopt _ | exact h.choose | exact h.judgeConfirms

/-! ## Supply -/

theorem followInputs (h : s₀.Moves s) : s₀.Moves s.followInputs := settleOffer (h.same (by rfl))
theorem readyChanged (h : s₀.Moves s) : s₀.Moves s.readyChanged := by
  unfold State.readyChanged; (repeat' split) <;> first | exact h | exact h.followInputs
theorem presentChanged (h : s₀.Moves s) (b : Bool) : s₀.Moves (s.presentChanged b) := by
  unfold State.presentChanged
  (repeat' split)
  · exact h.same (by rfl)
  · exact h.endTripHold
  · exact h
  · exact h.followInputs
  · exact h
theorem judgeCritical (h : s₀.Moves s) (n : Nat) : s₀.Moves (s.judgeCritical n) := by
  unfold State.judgeCritical; split
  · exact offerNotice (h.same (by rfl)) _ _
  · exact h
theorem measureRail (h : s₀.Moves s) (n : Nat) : s₀.Moves (s.measureRail n) :=
  (judgeCritical (same h (by exact s.judgeDroop_voice _)) n).reform
theorem noteOverdraw (h : s₀.Moves s) (n : Nat) : s₀.Moves (s.noteOverdraw n) := by
  unfold State.noteOverdraw; (repeat' split)
  · exact h
  · exact same (offerNotice (s := { s with power := { s.power with overdrawAt := some s.clock.now } }) (h.same (by rfl))
      noticeOverdraw (noticeDetail (n / 16))) (by rfl)
  · exact h.same (by rfl)
theorem trip (h : s₀.Moves s) (d : Nat) : s₀.Moves (s.trip d) := by
  have h1 := beginTrip (s := { s with power := { s.power with tripHistory := tripsWith s.clock.now s.power.tripHistory } })
    (h.same (by rfl)) d (decide (3 ≤ (tripsWith s.clock.now s.power.tripHistory).length))
  unfold State.trip; dsimp only; split
  · exact h1.same (by rfl)
  · exact h1
theorem measureCurrent (h : s₀.Moves s) (n : Nat) : s₀.Moves (s.measureCurrent n) := by
  have h1 : ∀ k, s₀.Moves (State.noteOverdraw n { s with power := { s.power with overrun := k } }) := fun k =>
    noteOverdraw (h.same (by rfl)) n
  unfold State.measureCurrent; dsimp only
  generalize (if s.offeredCurrent < n then s.power.overrun + 1 else 0) = k
  split
  · exact (h1 k).trip _
  · exact h1 k

/-! ## Items and remote requests -/

theorem enableRail (h : s₀.Moves s) : s₀.Moves s.enableRail := by
  unfold State.enableRail; dsimp only; (repeat' split)
  · exact closeSwitch (h.same (by rfl))
  · exact h.same (by rfl)
  · exact h.same (by rfl)
theorem disableRail (h : s₀.Moves s) : s₀.Moves s.disableRail := by
  unfold State.disableRail; (repeat' split)
  · exact h
  · exact (h.beginTrip _ _).same (by rfl)
  · exact h.same (by rfl)
  · exact (h.openSwitch _).same (by rfl)
theorem itemWritten (h : s₀.Moves s) (n : Nat) : s₀.Moves (s.itemWritten n) := by
  unfold State.itemWritten; (repeat' split)
  · exact h.settleOffer
  · exact settleClaim (h.same (by rfl))
  · exact h.settleClaim.path (by simp) (by simp)
  · exact h.path (by simp) (by simp)
  · exact h.reform
  · exact h
theorem applyItem (h : s₀.Moves s) (n v : Nat) : s₀.Moves (s.applyItem n v) := by
  unfold State.applyItem; (repeat' split)
  · exact h.disableRail
  · exact h.enableRail
  · exact itemWritten (h.same (by rfl)) n
theorem writeItem (h : s₀.Moves s) (n : Nat) (v : Half) : s₀.Moves (s.writeItem n v).state := by
  unfold State.writeItem; (repeat' split)
  · exact h
  · exact h
  · exact h.applyItem _ _
  · exact h
theorem serveOperation (h : s₀.Moves s) (o i : Byte) (v : Half) : s₀.Moves (s.serveOperation o i v).state := by
  unfold State.serveOperation; (repeat' split)
  · exact h
  · exact h.writeItem _ _
  · exact h.same (s.readCounter_voice _ _)
  · exact h.same (by rfl)
  · exact h
theorem serveAsk (h : s₀.Moves s) (a : Addr) (p : List Byte) : s₀.Moves (s.serveAsk a p) := by
  have h1 := (h.serveOperation (byteAt p 2) (byteAt p 3) (halfAt p 4)).offerBurst .answer (answerPayload a (byteAt p 1)
    (s.serveOperation (byteAt p 2) (byteAt p 3) (halfAt p 4)).status (s.serveOperation (byteAt p 2) (byteAt p 3) (halfAt p 4)).value)
  unfold State.serveAsk; dsimp only; split
  · exact h1.same (State.noteRestartAnswer_voice _ _)
  · exact h1
theorem askArrives (h : s₀.Moves s) (a : Addr) (p : List Byte) : s₀.Moves (s.askArrives a p) := by
  unfold State.askArrives; split
  · exact h.serveAsk _ _
  · exact h

/-! ## Roster -/

theorem enterListenOnly (h : s₀.Moves s) : s₀.Moves s.enterListenOnly := by
  have h1 := h.move (t := State.silence { s with
    roster := { s.roster with join := .listenOnly, joinFrom := none, beaconFrom := none }
    power := { s.power with offerFrom := none, claimFrom := none } }) (by rw [State.silence_voice]; exact .silenced _)
  unfold State.enterListenOnly; dsimp only; split
  · exact h1.halt _
  · exact h1
theorem clashFound (h : s₀.Moves s) (f : Flag) : s₀.Moves (s.clashFound f) := by
  unfold State.clashFound; split
  · exact h.same (by rfl)
  · exact enterListenOnly (h.same (by rfl))
theorem tellChange (h : s₀.Moves s) (o n : Option Entry) : s₀.Moves (s.tellChange o n) := by
  refine h.same ((State.syncSchedule_voice _).trans (voice_of_frame ?_ ?_)) <;>
    (unfold State.tellPath State.tellPower; (repeat' split) <;> simp)
theorem removeEntry (h : s₀.Moves s) (e : Entry) : s₀.Moves (s.removeEntry e) := tellChange (h.same (by rfl)) _ _
theorem tellRound (h : s₀.Moves s) (b : Heard) (e : Entry) : s₀.Moves (s.tellRound b e) := by
  unfold State.tellRound
  (repeat' split) <;> first | exact h | exact h.roundHeard _ _
theorem updateEntry (h : s₀.Moves s) (b : Heard) (o : Option Entry) : s₀.Moves (s.updateEntry b o) :=
  (tellChange (h.same (by rfl)) _ _).tellRound _ _
theorem rosterTakes (h : s₀.Moves s) (b : Heard) : s₀.Moves (s.rosterTakes b) := by
  unfold State.rosterTakes; dsimp only; (repeat' split)
  · exact h.removeEntry _
  · exact h
  · exact h.updateEntry _ _
  · exact h
  · exact updateEntry (h.same (by rfl)) _ _
theorem noticeArrives (h : s₀.Moves s) (a : Addr) (k d : Byte) : s₀.Moves (s.noticeArrives a k d) := by
  unfold State.noticeArrives; dsimp only; (repeat' split)
  · exact reform (h.same (by rfl))
  · exact h.same (by rfl)
  · exact settleOffer (h.same (by rfl))
  · exact h.same (by rfl)
  · exact h.same (by rfl)
  · exact h
theorem rosterHears (h : s₀.Moves s) (b : Heard) : s₀.Moves (s.rosterHears b) := by
  have h1 : s₀.Moves (if s.roleClash b then s.clashFound .roleClash else s) := by
    split
    · exact h.clashFound _
    · exact h
  unfold State.rosterHears; dsimp only
  generalize (if s.roleClash b then s.clashFound .roleClash else s) = u at h1 ⊢
  (repeat' split)
  · exact h.clashFound _
  · exact h1
  · exact (h1.rosterTakes b).same (State.clockHears_voice _ _ _)
  · exact h1.rosterTakes b
theorem contentArrives (h : s₀.Moves s) (b : Heard) : s₀.Moves (s.contentArrives b) := by
  unfold State.contentArrives; (repeat' split)
  · exact h.noticeArrives _ _ _
  · exact h.askArrives _ _
  · exact h.same (by simp)
  · exact h.same (by simp)
  · exact h
  · exact h
theorem burstAccepted (h : s₀.Moves s) (b : Heard) : s₀.Moves (s.burstAccepted b) :=
  (rosterHears (h.same (by rfl)) b).contentArrives b
/-- The join ends only where it runs. -/
theorem becomeActive (h : s₀.Moves s) {t : Nat} (ht : s.roster.joinFrom = some t) : s₀.Moves s.becomeActive := by
  have h1 := h.move (t := { s with roster := { s.roster with
    join := .active, joinFrom := none, beaconFrom := some s.clock.now } }) (.joined _ t ht)
  unfold State.becomeActive; dsimp only; split
  · exact (h1.offerBeacon.announceOffer.announceClaim.openRound _).same (by rfl)
  · exact h1.offerBeacon.announceOffer.announceClaim.same (by rfl)

/-! ## Rail and resets -/

theorem restart (h : s₀.Moves s) : s₀.Moves s.restart := h.move (by rw [State.restart_voice]; exact .restarted _ _)
theorem abandon (h : s₀.Moves s) (c : Counter) : s₀.Moves (s.abandon c) := h.same (by rfl)
theorem judgeBurst (h : s₀.Moves s) (a : Assembly) : s₀.Moves (s.judgeBurst a) := by
  unfold State.judgeBurst; (repeat' split)
  · exact h.abandon _
  · exact burstAccepted (h.same (by rfl)) _
  · exact h.abandon _
  · exact h.abandon _
theorem hear (h : s₀.Moves s) (d : Byte) (b : Bool) (x y : Nat) : s₀.Moves (s.hear d b x y) := by
  unfold State.hear State.assemble; dsimp only; (repeat' split)
  · exact h.same (by rfl)
  · exact h
  · exact h.abandon _
  · exact h.abandon _
  · exact h.judgeBurst _
  · exact h.same (by rfl)
theorem clash (h : s₀.Moves s) {x : Sending} (hx : s.rail.sending = some x) : s₀.Moves (s.clash x) := by
  unfold State.clash; dsimp only; split
  · refine h.move ?_
    rw [State.giveUpEntry, State.syncHead_voice, State.tellDiscarded_voice]
    exact .stopped s.voice
  · exact h.move (.clashed s.voice x _ hx)
theorem compareSent (h : s₀.Moves s) {x : Sending} (hx : s.rail.sending = some x) (d : Byte) (b : Bool) :
    s₀.Moves (s.compareSent x d b) := by
  unfold State.compareSent; (repeat' split)
  · exact h
  · exact h.clash hx
  · exact h.move (.heard _ x _ hx)
theorem beginSending (h : s₀.Moves s) {e : QEntry} {rest : List QEntry} (hj : s.roster.join = .active)
    (hq : s.rail.queue = e :: rest) : s₀.Moves (s.beginSending e rest) := h.move (.begun _ e rest _ hj hq)
theorem entrySent (h : s₀.Moves s) (e : QEntry) : s₀.Moves (s.entrySent e) := by
  unfold State.entrySent; (repeat' split)
  · exact h.same (by simp)
  · exact h.restart
  · exact h
theorem completeSending (h : s₀.Moves s) (e : QEntry) : s₀.Moves (s.completeSending e) :=
  entrySent (h.move (.stopped _)) e
theorem dropHead (h : s₀.Moves s) : s₀.Moves s.dropHead := by
  unfold State.dropHead; split
  · exact h
  · next e rest hq =>
    refine h.move ?_
    rw [State.syncHead_voice, State.tellDiscarded_voice]
    exact .dropped s.voice e rest hq
theorem powerOff (h : s₀.Moves s) : s₀.Moves s.powerOff := h.move (.stopped _)

end State.Moves

end Sys2Proof.Machine
end

section
/-! SUPPORT. The moves command by command: every command but a full reset makes moves alone, and so does every step that takes
none. What all moves keep is then an invariant: the silence of a listen-only node, and the order of the transmit queue. -/

namespace Sys2Proof.Machine

open Host (Outcome)

/-- If the outcome is a next state, moves lead there. -/
def MovesNext (s : State) (o : Outcome State Fault Refusal) : Prop := ∀ t, o = .next t → s.Moves t

variable {s₀ s : State}

theorem movesNext_next (h : s₀.Moves s) : MovesNext s₀ (.next s) := by
  rintro t ⟨⟩
  exact h

/-! ## The shared forms of a command -/

theorem whilePowered_moves (h : s₀.Moves s) {act : State → State} (ha : s₀.Moves (act s)) :
    MovesNext s₀ (whilePowered s act) := by
  refine movesNext_next ?_
  split
  · exact ha
  · exact h

theorem onRequest_moves {act : State → State} (ha : s.Moves (act s)) : MovesNext s (onRequest s act) := by
  refine whilePowered_moves (.refl s) ?_
  split
  · exact .refl s
  · exact ha

/-- A timer's expiry makes moves if what it does makes them; it does it only while the timer runs. -/
theorem runOut_moves {start : Option Nat} {span : Nat} {act : Nat → State → State}
    (ha : ∀ t u, start = some t → u.voice = s.voice → s.Moves u → s.Moves (act (t + span) u)) :
    s.Moves (runOut start span s act) := by
  unfold runOut
  split
  · exact .refl s
  · next t => exact ha t _ rfl rfl (.same (.refl s) rfl)

/-- An expiry that keeps the voice makes no move. -/
theorem runOut_same {start : Option Nat} {span : Nat} {act : Nat → State → State}
    (ha : ∀ due u, (act due u).voice = u.voice) : s.Moves (runOut start span s act) :=
  runOut_moves fun _ _ _ _ hm => hm.same (ha _ _)

theorem stepOver_moves (st : AgreeState) (span : Nat) {act : State → State}
    (ha : ∀ u, s.Moves u → s.Moves (act u)) : s.Moves (s.stepOver st span act) := by
  unfold State.stepOver
  split
  · exact runOut_moves fun _ u _ _ hm => ha u hm
  · exact .refl s

/-- A command that keeps the voice makes no move. -/
theorem whilePowered_same {act : State → State} (ha : (act s).voice = s.voice) : MovesNext s (whilePowered s act) :=
  whilePowered_moves (.refl s) (.same (.refl s) ha)

/-! ## Rail -/

theorem execCharacterReceived_moves (data : Byte) (parity stopOk : Bool) :
    MovesNext s (execCharacterReceived data parity stopOk s) := by
  refine whilePowered_moves (.refl s) ?_
  split
  · next x hx => exact State.Moves.compareSent (s := s.advance charTime) (.same (.refl s) rfl) hx data _
  · exact State.Moves.hear (.same (.refl s) (by exact s.gapIfDue_voice)) data _ _ _

theorem execCharacterMissing_moves : MovesNext s (execCharacterMissing s) := by
  refine whilePowered_moves (.refl s) ?_
  split
  · next x hx => exact .clash (.refl s) hx
  · exact .refl s

theorem execGap_moves : MovesNext s (execGap s) := by
  refine whilePowered_same ?_
  split <;> rfl

theorem execQuietWaitExpiry_moves : MovesNext s (execQuietWaitExpiry s) := by
  refine whilePowered_moves (.refl s) ?_
  split
  · exact .refl s
  · next hheld =>
    have hj : s.roster.join = .active := by
      by_contra hn
      simp [State.txHeld, hn] at hheld
    split
    · exact .refl s
    · next e rest hq => exact State.Moves.beginSending (s := s.advanceTo _) (.same (.refl s) rfl) hj hq

theorem execSendComplete_moves : MovesNext s (execSendComplete s) := by
  refine whilePowered_moves (.refl s) ?_
  split
  · exact .refl s
  · exact State.Moves.completeSending (.same (.refl s) (by rfl)) _

theorem execStuckDrop_moves : MovesNext s (execStuckDrop s) :=
  whilePowered_moves (.refl s) (runOut_moves fun _ _ _ _ hm => hm.dropHead)

/-! ## Roster and tether clock -/

theorem execJoinTimerExpiry_moves : MovesNext s (execJoinTimerExpiry s) :=
  whilePowered_moves (.refl s) (runOut_moves fun _ _ ht hv hm => hm.becomeActive ((congrArg Voice.joinFrom hv).trans ht))

theorem execPeerLeft_moves (peer : Addr) : MovesNext s (execPeerLeft peer s) := by
  refine whilePowered_moves (.refl s) ?_
  split
  · exact .refl s
  · exact runOut_moves fun _ _ _ _ hm => hm.removeEntry _

theorem execBeaconPeriod_moves : MovesNext s (execBeaconPeriod s) :=
  whilePowered_moves (.refl s) (runOut_moves fun _ _ _ _ hm => State.Moves.offerBeacon (hm.same (by rfl)))

theorem execSlewTick_moves : MovesNext s (execSlewTick s) := by
  refine whilePowered_moves (.refl s) ?_
  split
  · exact .refl s
  · exact runOut_same fun _ _ => rfl

/-! ## Supply and loads -/

theorem execOfferClaimPeriod_moves (which : Announcement) : MovesNext s (execOfferClaimPeriod which s) := by
  refine whilePowered_moves (.refl s) ?_
  cases which with
  | offer => exact runOut_moves fun _ _ _ _ hm => hm.announceOffer
  | claim => exact runOut_moves fun _ _ _ _ hm => hm.announceClaim

theorem execSupplyReadyChange_moves (high : Bool) : MovesNext s (execSupplyReadyChange high s) :=
  have h : s.Moves { s with power := { s.power with supplyReady := high } } := .same (.refl s) rfl
  whilePowered_moves h h.readyChanged

theorem execRailPresentChange_moves (milliVolts : Nat) : MovesNext s (execRailPresentChange milliVolts s) :=
  have h : s.Moves { s with power := { s.power with railPresent := railIsPresent milliVolts } } := .same (.refl s) rfl
  whilePowered_moves h (h.presentChanged _)

theorem execTripHoldExpiry_moves : MovesNext s (execTripHoldExpiry s) := by
  refine whilePowered_moves (.refl s) ?_
  split
  · exact runOut_moves fun _ _ _ _ hm => hm.endTripHold
  · exact .refl s

theorem execReturnDelayExpiry_moves (delay : DelayEnd) : MovesNext s (execReturnDelayExpiry delay s) := by
  refine whilePowered_moves (.refl s) (runOut_moves fun _ _ _ _ hm => ?_)
  split
  · exact hm.same rfl
  · exact State.Moves.reform (hm.same (by rfl))

theorem execRaiseTimerExpiry_moves (load : Load) : MovesNext s (execRaiseTimerExpiry load s) :=
  whilePowered_moves (.refl s) (runOut_same fun _ u => u.raiseLoad_voice load)

theorem execRailMeasurement_moves (milliVolts : Nat) : MovesNext s (execRailMeasurement milliVolts s) := by
  refine whilePowered_moves (.refl s) ?_
  split
  · exact runOut_moves fun _ _ _ _ hm => State.Moves.measureRail (hm.same (by rfl)) _
  · exact .refl s

theorem execClearTimerExpiry_moves : MovesNext s (execClearTimerExpiry s) :=
  whilePowered_moves (.refl s) (runOut_moves fun _ _ _ _ hm => State.Moves.reform (hm.same (by rfl)))

theorem execSupplyGraceExpiry_moves : MovesNext s (execSupplyGraceExpiry s) :=
  whilePowered_moves (.refl s) (runOut_moves fun _ _ _ _ hm => State.Moves.reform (hm.same (by rfl)))

theorem execDeliveredCurrentMeasurement_moves (milliAmps : Nat) :
    MovesNext s (execDeliveredCurrentMeasurement milliAmps s) := by
  refine whilePowered_moves (.refl s) ?_
  split
  · exact runOut_moves fun _ _ _ _ hm => State.Moves.measureCurrent (hm.same (by rfl)) _
  · exact .refl s

theorem execTripTimerExpiry_moves : MovesNext s (execTripTimerExpiry s) := by
  refine whilePowered_moves (.refl s) ?_
  split
  · exact runOut_moves fun _ _ _ _ hm => hm.openSwitch _
  · exact .refl s

theorem execOffTimeExpiry_moves : MovesNext s (execOffTimeExpiry s) := by
  refine whilePowered_moves (.refl s) ?_
  split
  · exact runOut_moves fun _ _ _ _ hm => hm.closeSwitch
  · exact .refl s

/-! ## Agreement and lane engine -/

theorem execBaseForcedExpiry_moves : MovesNext s (execBaseForcedExpiry s) :=
  whilePowered_moves (.refl s) (runOut_moves fun _ _ _ _ hm => hm.endBaseForced)

theorem execReceiverStateChange_moves (lane : Lane) (locks : Bool) : MovesNext s (execReceiverStateChange lane locks s) := by
  have hr : ∀ r, s.Moves (s.setReceiver lane r).receiverReported := fun r =>
    .path (s := s.setReceiver lane r) (.same (.refl s) rfl) (by simp) (by simp)
  refine whilePowered_moves (.refl s) ?_
  (repeat' split) <;> first | exact hr _ | exact .refl s

theorem execLanePacketReceived_moves (lane : Lane) (bytes : List Byte) :
    MovesNext s (execLanePacketReceived lane bytes s) := by
  refine whilePowered_same ?_
  (repeat' split) <;> simp

theorem execLanePacketSent_moves (lane : Lane) : MovesNext s (execLanePacketSent lane s) := by
  refine whilePowered_same ?_
  split
  · rfl
  · simp [State.advanceTo]

theorem execDozeTimerExpiry_moves : MovesNext s (execDozeTimerExpiry s) := by
  refine whilePowered_moves (.refl s) ?_
  split
  · exact .refl s
  · exact runOut_same fun _ _ => rfl

theorem execLostOnWake_moves (length : Nat) : MovesNext s (execLostOnWake length s) := by
  refine whilePowered_same ?_
  split <;> simp

/-! ## Picture, motion and audio -/

theorem execSliceSubmit_moves (start : Bool) (index : Byte) (bytes : List Byte) :
    MovesNext s (execSliceSubmit start index bytes s) := by
  refine whilePowered_same ?_
  split <;> simp

theorem execSliceScan_moves : MovesNext s (execSliceScan s) := by
  refine whilePowered_same ?_
  split
  · rfl
  · dsimp only
    split <;> simp [State.advanceToTether]

theorem execSensorWriteComplete_moves : MovesNext s (execSensorWriteComplete s) := by
  refine whilePowered_same ?_
  dsimp only
  (repeat' split) <;> simp

theorem execDataReadyEdge_moves : MovesNext s (execDataReadyEdge s) := by
  refine whilePowered_same ?_
  split <;> rfl

theorem execSensorReadComplete_moves (raw : Axes) : MovesNext s (execSensorReadComplete raw s) := by
  refine whilePowered_same ?_
  split <;> simp

theorem execSensorStall_moves : MovesNext s (execSensorStall s) :=
  whilePowered_moves (.refl s) (runOut_same fun _ _ => rfl)

theorem execMotionFallbackExpiry_moves : MovesNext s (execMotionFallbackExpiry s) :=
  whilePowered_moves (.refl s) (runOut_moves fun _ _ _ _ hm => State.Moves.offerFallback (hm.same (by rfl)))

theorem execMotionDrain_moves (count : Byte) : MovesNext s (execMotionDrain count s) := by
  refine onRequest_moves (.same (.refl s) ?_)
  dsimp only
  (repeat' split) <;> simp

theorem execAudioFrameInput_moves (left right : Half) : MovesNext s (execAudioFrameInput left right s) := by
  refine whilePowered_same ?_
  dsimp only
  (repeat' split) <;> simp

theorem execPresentationTimeReached_moves : MovesNext s (execPresentationTimeReached s) := by
  refine whilePowered_same ?_
  dsimp only
  (repeat' split) <;> simp [State.advanceToTether]

theorem execOutputFramePeriod_moves : MovesNext s (execOutputFramePeriod s) := by
  refine whilePowered_same ?_
  split <;> simp [State.advanceTo]

theorem execSlipTimerExpiry_moves : MovesNext s (execSlipTimerExpiry s) :=
  whilePowered_moves (.refl s) (runOut_same fun _ _ => by simp)

theorem execMicCapture_moves (sample : Half) : MovesNext s (execMicCapture sample s) := by
  refine whilePowered_same ?_
  split <;> simp [State.advanceTo]

theorem execMicOutputSample_moves : MovesNext s (execMicOutputSample s) := by
  refine whilePowered_same ?_
  split <;> rfl

/-! ## Resets, remote requests and the host port -/

theorem execRestartTimerExpiry_moves : MovesNext s (execRestartTimerExpiry s) :=
  whilePowered_moves (.refl s) (runOut_moves fun _ _ _ _ hm => hm.restart)

theorem execRemoteRestartTimerExpiry_moves : MovesNext s (execRemoteRestartTimerExpiry s) :=
  whilePowered_moves (.refl s) (runOut_moves fun _ _ _ _ hm => hm.restart)

theorem execRailPowerLoss_moves : MovesNext s (execRailPowerLoss s) := by
  refine whilePowered_moves (.refl s) ?_
  split
  · exact .powerOff (.refl s)
  · exact .refl s

theorem execRemoteStart_moves (target operation item : Byte) (value : Half) :
    MovesNext s (execRemoteStart target operation item value s) := by
  refine onRequest_moves ?_
  (repeat' split)
  · exact .same (.refl s) rfl
  · exact .same (.refl s) rfl
  · exact .same (.refl s) rfl
  · exact .same (.startRemote (.refl s) _ _ _ _) rfl
  · exact .same (.refl s) rfl

theorem execDeadlineExpiry_moves : MovesNext s (execDeadlineExpiry s) :=
  whilePowered_moves (.refl s) (runOut_same fun _ _ => rfl)

theorem execRemoteResult_moves : MovesNext s (execRemoteResult s) := onRequest_moves (.same (.refl s) rfl)

theorem execItemWrite_moves (item : Byte) (value : Half) : MovesNext s (execItemWrite item value s) :=
  onRequest_moves (.same (.writeItem (.refl s) _ _) rfl)

theorem execStatusRead_moves : MovesNext s (execStatusRead s) := onRequest_moves (.same (.refl s) rfl)

theorem execCounterRead_moves (group : Byte) : MovesNext s (execCounterRead group s) := by
  refine onRequest_moves (.same (.refl s) ?_)
  dsimp only
  split <;> rfl

theorem execRestart_moves : MovesNext s (execRestart s) := onRequest_moves (.same (.requestRestart (.refl s)) rfl)

theorem execUnknownRequest_moves (code : Byte) : MovesNext s (execUnknownRequest code s) := by
  unfold execUnknownRequest
  split
  · exact onRequest_moves (.same (.refl s) rfl)
  · rintro t ⟨⟩

/-! ## Every command and every step -/

/-- Every command but a full reset makes moves alone. -/
theorem exec_moves (c : Instr) (hc : ∀ pins, c ≠ .fullReset pins) : MovesNext s (exec c s) := by
  cases c with
  | fullReset straps => exact absurd rfl (hc straps)
  | characterReceived data parity stopOk => exact execCharacterReceived_moves data parity stopOk
  | gap => exact execGap_moves
  | carrierDetect present => exact movesNext_next (.same (.refl s) rfl)
  | quietWaitExpiry => exact execQuietWaitExpiry_moves
  | sendComplete => exact execSendComplete_moves
  | stuckDrop => exact execStuckDrop_moves
  | joinTimerExpiry => exact execJoinTimerExpiry_moves
  | peerLeft peer => exact execPeerLeft_moves peer
  | beaconPeriod => exact execBeaconPeriod_moves
  | slewTick => exact execSlewTick_moves
  | offerClaimPeriod which => exact execOfferClaimPeriod_moves which
  | supplyReadyChange high => exact execSupplyReadyChange_moves high
  | railPresentChange milliVolts => exact execRailPresentChange_moves milliVolts
  | tripHoldExpiry => exact execTripHoldExpiry_moves
  | returnDelayExpiry delay => exact execReturnDelayExpiry_moves delay
  | raiseTimerExpiry load => exact execRaiseTimerExpiry_moves load
  | railMeasurement milliVolts => exact execRailMeasurement_moves milliVolts
  | clearTimerExpiry => exact execClearTimerExpiry_moves
  | supplyGraceExpiry => exact execSupplyGraceExpiry_moves
  | deliveredCurrentMeasurement milliAmps => exact execDeliveredCurrentMeasurement_moves milliAmps
  | tripTimerExpiry => exact execTripTimerExpiry_moves
  | offTimeExpiry => exact execOffTimeExpiry_moves
  | settleTimerExpiry => exact whilePowered_moves (.refl s) (stepOver_moves _ _ fun _ hm => hm.enterListen)
  | listenTimerExpiry => exact whilePowered_moves (.refl s) (stepOver_moves _ _ fun _ hm => hm.choose)
  | confirmTimerExpiry => exact whilePowered_moves (.refl s) (stepOver_moves _ _ fun _ hm => hm.confirmFailure)
  | baseForcedExpiry => exact execBaseForcedExpiry_moves
  | receiverStateChange lane locks => exact execReceiverStateChange_moves lane locks
  | trainingTimerExpiry => exact whilePowered_moves (.refl s) (stepOver_moves _ _ fun _ hm => hm.trainingFailure)
  | lanePacketReceived lane bytes => exact execLanePacketReceived_moves lane bytes
  | lanePacketSent lane => exact execLanePacketSent_moves lane
  | dozeTimerExpiry => exact execDozeTimerExpiry_moves
  | lostOnWake length => exact execLostOnWake_moves length
  | sliceSubmit start index bytes => exact execSliceSubmit_moves start index bytes
  | sliceScan => exact execSliceScan_moves
  | sensorWriteComplete => exact execSensorWriteComplete_moves
  | dataReadyEdge => exact execDataReadyEdge_moves
  | sensorReadComplete raw => exact execSensorReadComplete_moves raw
  | sensorStall => exact execSensorStall_moves
  | motionFallbackExpiry => exact execMotionFallbackExpiry_moves
  | motionDrain count => exact execMotionDrain_moves count
  | audioFrameInput left right => exact execAudioFrameInput_moves left right
  | presentationTimeReached => exact execPresentationTimeReached_moves
  | outputFramePeriod => exact execOutputFramePeriod_moves
  | slipTimerExpiry => exact execSlipTimerExpiry_moves
  | micCapture sample => exact execMicCapture_moves sample
  | micOutputSample => exact execMicOutputSample_moves
  | remoteRestartTimerExpiry => exact execRemoteRestartTimerExpiry_moves
  | remoteStart target operation item value => exact execRemoteStart_moves target operation item value
  | deadlineExpiry => exact execDeadlineExpiry_moves
  | remoteResult => exact execRemoteResult_moves
  | itemRead item => exact onRequest_moves (.same (.refl s) (by rfl))
  | itemWrite item value => exact execItemWrite_moves item value
  | statusRead => exact execStatusRead_moves
  | counterRead group => exact execCounterRead_moves group
  | rosterRead => exact onRequest_moves (.same (.refl s) (by rfl))
  | allowanceRead => exact onRequest_moves (.same (.refl s) (by rfl))
  | laneRead => exact onRequest_moves (.same (.refl s) (by rfl))
  | framesRead => exact onRequest_moves (.same (.refl s) (by rfl))
  | restart => exact execRestart_moves
  | restartTimerExpiry => exact execRestartTimerExpiry_moves
  | unknownRequest code => exact execUnknownRequest_moves code
  | hostDeselect clocked => exact movesNext_next (.same (.refl s) rfl)
  | railPowerLoss => exact execRailPowerLoss_moves
  | characterMissing => exact execCharacterMissing_moves

theorem step_moves (hf : s.fullResetNext = false) : MovesNext s (step s) := by
  unfold step
  split
  · refine movesNext_next ?_
    split
    · exact .same (.refl s) rfl
    · exact .refl s
  · next c rest hp =>
    refine exec_moves (s := { s with pending := rest }) c ?_
    rintro pins rfl
    simp [State.fullResetNext, hp] at hf

/-! ## The two invariants -/

/-- Listen-only, without a join, with nothing to send. -/
def Voice.silent : Voice := ⟨.listenOnly, none, [], none⟩

/-- No move breaks the silence of a listen-only node: what offers needs another join state, what sends an entry or an active join. -/
theorem Voice.Move.keeps_silent {v w : Voice} (h : v.Move w) (hv : v = Voice.silent) : w = Voice.silent := by
  subst hv
  cases h with
  | replaced k p hj => exact absurd rfl hj
  | added k p id keep hj _ => exact absurd rfl hj
  | begun e rest x hj _ => cases hj
  | heard x y hx => cases hx
  | clashed x e hx => cases hx
  | stopped => rfl
  | dropped e rest hq => cases hq
  | silenced => rfl
  | joined t ht => cases ht
  | restarted now => rfl

/-- Settles O7: a listen-only node makes no move that is heard. -/
theorem listenOnlyStaysSilent : Obligations.ListenOnlyStaysSilent := by
  intro s t hjoin hfrom hqueue hsending hreset hstep
  have hs : s.voice = Voice.silent := by simp [State.voice, Voice.silent, hjoin, hfrom, hqueue, hsending]
  have ht := (step_moves hreset t hstep).keeps (P := (· = Voice.silent)) Voice.Move.keeps_silent hs
  exact ⟨congrArg Voice.join ht, congrArg Voice.joinFrom ht, congrArg Voice.queue ht, congrArg Voice.sending ht⟩

/-- Every move keeps the order of the queue. -/
theorem Voice.Move.keeps_ordered {v w : Voice} (h : v.Move w) (hv : KindsOrdered (v.queue.map QEntry.kind)) :
    KindsOrdered (w.queue.map QEntry.kind) := by
  cases h with
  | replaced k p _ => exact (replaceContent_kinds k p v.queue).symm ▸ hv
  | added k p id keep _ hnone =>
    refine (hv.filter keep).insertLast (fun hr hmem => ?_)
    obtain ⟨e, he, hk⟩ := List.mem_map.1 hmem
    exact hnone hr e (List.mem_of_mem_filter he) hk
  | begun e rest x _ hq => exact hv.sublist (hq ▸ (List.sublist_cons_self e rest).map _)
  | heard => exact hv
  | clashed x e _ => exact hv.replaceAfterClash e
  | stopped => exact hv
  | dropped e rest hq => exact hv.sublist (hq ▸ (List.sublist_cons_self e rest).map _)
  | silenced => exact .nil
  | joined => exact hv
  | restarted => exact .nil

/-- Settles O10: a full reset empties the queue, and every other step makes moves alone. -/
theorem queueOrderIsKept : Obligations.QueueOrderIsKept := by
  intro s t hs hstep
  rw [Rail.ordered_iff] at hs ⊢
  cases hf : s.fullResetNext with
  | false => exact (step_moves hf t hstep).keeps (P := fun v => KindsOrdered (v.queue.map QEntry.kind)) Voice.Move.keeps_ordered hs
  | true =>
    unfold step at hstep
    unfold State.fullResetNext at hf
    split at hf
    · next pins rest hp =>
      rw [hp] at hstep
      obtain rfl : State.fullReset pins { s with pending := rest } = t := by injection hstep
      exact .nil
    · cases hf

end Sys2Proof.Machine
end

section
/-! SUPPORT. Receiving: what a character does while the receiver hunts and while it assembles a burst (R7 to R11), and how a whole burst
is judged. The statements on receiving follow. -/

namespace Sys2Proof.Machine

variable {s : State}

/-! ## Time -/

theorem State.advance_advance (a b : Nat) : (s.advance a).advance b = s.advance (a + b) := by
  have hm : min (min (s.clock.tether + a) tetherMax + b) tetherMax = min (s.clock.tether + (a + b)) tetherMax := by omega
  simp only [State.advance, hm, Nat.add_assoc]

/-! ## One character (R7 to R10) -/

theorem exec_characterReceived_idle (hp : s.powered = true) (hs : s.rail.sending = none) (d : Byte) (p ok : Bool) :
    exec (.characterReceived d p ok) s =
      .next ((s.gapIfDue.advance charTime).hear d (garbled d p ok) s.clock.tether s.clock.now) := by
  simp [exec, execCharacterReceived, whilePowered, hp, hs]

theorem State.gapIfDue_hunting (h : s.rail.rx = .hunting) : s.gapIfDue = s := by simp [State.gapIfDue, h]

theorem State.gapIfDue_due {a : Assembly} (h : s.rail.rx = .assembling a) (hg : a.lastEnd + 352 < s.clock.now) :
    s.gapIfDue = s.abandon cGap := by simp [State.gapIfDue, h, Assembly.gapped, gapTime, hg]

theorem State.gapIfDue_notDue {a : Assembly} (h : s.rail.rx = .assembling a) (hg : s.clock.now ≤ a.lastEnd + 352) :
    s.gapIfDue = s := by simp [State.gapIfDue, h, Assembly.gapped, gapTime, Nat.not_lt.2 hg]

/-- In the hunt only an undamaged start mark does more than take its time. -/
theorem exec_characterReceived_hunting (hp : s.powered = true) (hs : s.rail.sending = none) (hr : s.rail.rx = .hunting)
    (d : Byte) (p ok : Bool) : exec (.characterReceived d p ok) s = .next
      (if garbled d p ok = false ∧ d = startMark then (s.advance charTime).takeStartMark s.clock.tether s.clock.now
      else s.advance charTime) := by
  simp [exec_characterReceived_idle hp hs, State.gapIfDue_hunting hr, State.hear, hr]

/-- In a burst a garbled character abandons it, and a sound one is taken, unless a gap was due. -/
theorem exec_characterReceived_assembling (hp : s.powered = true) (hs : s.rail.sending = none) {a : Assembly}
    (hr : s.rail.rx = .assembling a) (hg : s.clock.now ≤ a.lastEnd + 352) (d : Byte) (p ok : Bool) :
    exec (.characterReceived d p ok) s = .next
      (if garbled d p ok = true then (s.advance charTime).abandon cGarbled else (s.advance charTime).assemble a d) := by
  simp [exec_characterReceived_idle hp hs, State.gapIfDue_notDue hr hg, State.hear, hr]

theorem exec_gap_hunting (hr : s.rail.rx = .hunting) : exec .gap s = .next s := by
  simp [exec, execGap, whilePowered, hr]

theorem exec_gap_assembling (hp : s.powered = true) {a : Assembly} (hr : s.rail.rx = .assembling a) :
    exec .gap s = .next ((s.advanceTo (a.lastEnd + 353)).abandon cGap) := by
  simp [exec, execGap, whilePowered, hp, hr, gapTime, Nat.add_assoc]

/-! ## One character of a burst (R10, R11) -/

/-- The burst with one character more. -/
def Assembly.take (d : Byte) (now : Nat) (a : Assembly) : Assembly := { a with chars := a.chars ++ [d], lastEnd := now }

theorem State.assemble_long {a : Assembly} (h1 : a.chars.length = 1) {d : Byte} (hd : 24 < d.toNat) :
    s.assemble a d = s.abandon cBadLength := by
  simp [State.assemble, h1, hd]

theorem State.assemble_last {a : Assembly} {d : Byte} (h3 : 3 ≤ a.chars.length)
    (hb : burstChars (a.chars ++ [d]) ≤ a.chars.length + 1) : s.assemble a d = s.judgeBurst (a.take d s.clock.now) := by
  have hshort : ¬ (a.chars.length + 1 = 2 ∧ 24 < d.toNat) := by omega
  have hwhole : 2 ≤ a.chars.length + 1 ∧ burstChars (a.chars ++ [d]) ≤ a.chars.length + 1 := ⟨by omega, hb⟩
  simp only [State.assemble, List.length_append, List.length_singleton, if_neg hshort, if_pos hwhole, Assembly.take]

theorem State.assemble_more {a : Assembly} {d : Byte} (hl : a.chars.length = 1 → d.toNat ≤ 24)
    (hb : 1 ≤ a.chars.length → a.chars.length + 1 < burstChars (a.chars ++ [d])) :
    s.assemble a d = s.setRx (.assembling (a.take d s.clock.now)) := by
  have hshort : ¬ (a.chars.length + 1 = 2 ∧ 24 < d.toNat) := by omega
  have hpart : ¬ (2 ≤ a.chars.length + 1 ∧ burstChars (a.chars ++ [d]) ≤ a.chars.length + 1) := by omega
  simp only [State.assemble, List.length_append, List.length_singleton, if_neg hshort, if_neg hpart, Assembly.take]

theorem byteAt_append {l : List Byte} (r : List Byte) {i : Nat} (h : i < l.length) : byteAt (l ++ r) i = byteAt l i :=
  List.getD_append l r 0 i h

/-- With a sound check, a kind of R6 and a length it permits, the burst is accepted (R11). -/
theorem State.judgeBurst_accepts {a : Assembly} {k : BurstKind} (hc : checkOk a.chars = true)
    (hk : headerKind (byteAt a.chars 0) = some k) (hl : k.lengthOk (byteAt a.chars 1).toNat = true) :
    s.judgeBurst a = (s.setRx .hunting).burstAccepted
      ⟨headerAddr (byteAt a.chars 0), k, burstPayload a.chars, a.latchedTether, a.latchedLocal⟩ := by
  simp [State.judgeBurst, hc, hk, hl]

/-- The judgement in the order of R11: check, kind, length. -/
theorem State.judgeBurst_eq (a : Assembly) : s.judgeBurst a =
    if a.chars.drop (2 + (byteAt a.chars 1).toNat) ≠
        leBytes 2 (crc16 (a.chars.take (2 + (byteAt a.chars 1).toNat))).toNat then s.abandon cCheckError
    else match headerKind (byteAt a.chars 0) with
      | none => s.abandon cUnknownKind
      | some k =>
        if k.lengthOk (2 + (byteAt a.chars 1).toNat - 2) = false then s.abandon cBadLength
        else (s.setRx .hunting).burstAccepted ⟨headerAddr (byteAt a.chars 0), k,
          (a.chars.drop 2).take (2 + (byteAt a.chars 1).toNat - 2), a.latchedTether, a.latchedLocal⟩ := by
  simp only [Nat.add_sub_cancel_left]
  unfold State.judgeBurst checkOk burstPayload
  dsimp only
  by_cases hc : a.chars.drop (2 + (byteAt a.chars 1).toNat) = leBytes 2 (crc16 (a.chars.take (2 + (byteAt a.chars 1).toNat))).toNat
  · rw [if_pos (decide_eq_true hc), if_neg (not_not.2 hc)]
    cases headerKind (byteAt a.chars 0) with
    | none => rfl
    | some k => cases hl : k.lengthOk (byteAt a.chars 1).toNat <;> simp [hl]
  · rw [if_neg (by simpa using hc), if_pos hc]

/-! ## The handing on of an accepted burst (R12) -/

theorem State.contentArrives_notice {h : Heard} (hk : h.kind = .notice) :
    s.contentArrives h = s.noticeArrives h.sender (byteAt h.payload 0) (byteAt h.payload 1) := by simp [State.contentArrives, hk]

theorem State.contentArrives_ask {h : Heard} (hk : h.kind = .ask) :
    s.contentArrives h = s.askArrives h.sender h.payload := by simp [State.contentArrives, hk]

theorem State.contentArrives_answer {h : Heard} (hk : h.kind = .answer) :
    s.contentArrives h = s.answerArrives h.sender h.payload := by simp [State.contentArrives, hk]

theorem State.contentArrives_motion {h : Heard} (hk : h.kind = .motion) : s.contentArrives h =
    if s.role = .source then
      s.recordArrives (motionOfBytes h.payload (rebuildTether h.tether (fieldAt h.payload 2 4)))
    else s := by simp [State.contentArrives, hk]

/-- A kind that R6 hands to no block beyond the roster. -/
theorem State.contentArrives_none {h : Heard} (hn : h.kind ≠ .notice) (ha : h.kind ≠ .ask) (hw : h.kind ≠ .answer)
    (hm : h.kind ≠ .motion) : s.contentArrives h = s := by
  unfold State.contentArrives
  split <;> first | rfl | contradiction

/-- The straps stand whatever the roster makes of a burst. -/
theorem State.clashFound_straps (f : Flag) : (s.clashFound f).straps = s.straps := by
  have hsilent : ∀ u : State, u.silence.straps = u.straps := fun u => straps_of_core u.silence_core
  unfold State.clashFound State.enterListenOnly
  dsimp only
  (repeat' split)
  · rfl
  · rw [straps_of_core (State.halt_core _ _), hsilent]; rfl
  · rw [hsilent]; rfl

@[simp] theorem State.stepClock_straps (n : Nat) : (s.stepClock n).straps = s.straps := by
  unfold State.stepClock
  dsimp only
  split
  · rw [straps_of_core (State.audioStep_core _), straps_of_core (State.scanStep_core _ _)]
  · rfl

@[simp] theorem State.raiseSlew_straps (n : Nat) : (s.raiseSlew n).straps = s.straps := rfl

/-- A stamp ahead steps the clock or slews it; any other changes nothing (R47). -/
theorem State.clockHears_cases (a b : Nat) :
    (∃ n, s.clockHears a b = s.stepClock n) ∨ (∃ n, s.clockHears a b = s.raiseSlew n) ∨ s.clockHears a b = s := by
  unfold State.clockHears
  dsimp only
  (repeat' split)
  · exact .inl ⟨_, rfl⟩
  · exact .inr (.inl ⟨_, rfl⟩)
  · exact .inr (.inr rfl)

theorem State.clockHears_straps (a b : Nat) : (s.clockHears a b).straps = s.straps := by
  obtain ⟨n, h⟩ | ⟨n, h⟩ | h := s.clockHears_cases a b <;> simp [h]

theorem State.rosterHears_role (h : Heard) : (s.rosterHears h).role = s.role := by
  have hclash : (if s.roleClash h then s.clashFound .roleClash else s).straps = s.straps := by
    split
    · exact s.clashFound_straps _
    · rfl
  refine congrArg Straps.role (?_ : (s.rosterHears h).straps = s.straps)
  unfold State.rosterHears
  dsimp only
  generalize (if s.roleClash h then s.clashFound .roleClash else s) = u at hclash ⊢
  (repeat' split)
  · exact s.clashFound_straps _
  · exact hclash
  · rw [State.clockHears_straps, straps_of_core (State.rosterTakes_core _ _), hclash]
  · rw [straps_of_core (State.rosterTakes_core _ _), hclash]

/-! ## The statements -/

/-- Settles O4, part by part of the invariant. -/
theorem resetStateIsSound : Obligations.ResetStateIsSound := by
  refine ⟨?_, ⟨by decide, by decide⟩, ⟨.nil, by decide, ?_, ?_, ⟨rfl, rfl, rfl⟩, ?_⟩, (Rail.ordered_iff _).2 .nil, ?_⟩
  · exact { counters := State.Bounded.zeroCounters_bounded, railQueue := by decide, droop := by decide, sendQueue := by decide,
            frames := by decide, slices := ⟨rfl, rfl, by decide⟩, motion := by decide, playback := by decide
            mic := ⟨by decide, by decide, by decide⟩, stale := by decide, items := rfl
            waiting := fun l => by cases l <;> exact ⟨.nil, fun _ => Nat.zero_le _⟩
            anchor := fun _ => rfl, sensor := fun _ => ⟨rfl, rfl⟩ }
  · exact fun _ he => nomatch he
  · exact fun _ he => nomatch he
  · rintro _ m ⟨⟩
    rfl
  · exact ⟨rfl, by decide, by decide, by decide⟩

/-- Settles O13, in the hunt and in a burst. -/
theorem startMarksAndGapsBoundBursts : Obligations.StartMarksAndGapsBoundBursts := by
  intro s hp
  refine ⟨fun hr => ⟨exec_gap_hunting hr, fun d p ok hs => ?_⟩, fun a hr => ⟨exec_gap_assembling hp hr, fun d p ok hs hg => ?_⟩⟩
  · exact exec_characterReceived_hunting hp hs hr d p ok
  · rw [exec_characterReceived_idle hp hs, State.gapIfDue_due hr hg, exec_characterReceived_idle (by exact hp) (by exact hs),
      State.gapIfDue_hunting rfl]
    rfl

/-- Settles O14: in a burst the garbled character abandons it; in the hunt it passes like any other that is no start mark. -/
theorem garbledAbandonsBurst : Obligations.GarbledAbandonsBurst := by
  intro s d p ok hp hs hbad
  refine ⟨fun a hr hg => ⟨(s.advance charTime).abandon cGarbled, ?_, rfl, rfl, rfl⟩, fun hr => ⟨s.advance charTime, ?_, rfl⟩⟩
  · rw [exec_characterReceived_assembling hp hs hr hg, if_pos hbad]
  · rw [exec_characterReceived_hunting hp hs hr, if_neg (by simp [hbad])]

/-- Settles O15. -/
theorem longLengthAbandonsBurst : Obligations.LongLengthAbandonsBurst := by
  intro s d p ok a hp hs hr h1 hg hsound hd
  refine ⟨(s.advance charTime).abandon cBadLength, ?_, rfl, rfl, rfl⟩
  rw [exec_characterReceived_assembling hp hs hr hg, hsound, if_neg (by decide), State.assemble_long h1 hd]

/-- Settles O16: the handing on by kind, then the judgement of the burst the last character completes. -/
theorem wholeBurstIsJudged : Obligations.WholeBurstIsJudged := by
  refine ⟨fun s h => ⟨rfl, ?_, fun hk hn => ?_, fun hk hr => ?_, fun hk => ?_, fun hk => ?_, fun hk => ?_⟩,
    fun s d p ok a hp hs hr hg hsound _ hlen => ?_⟩
  · rintro (hk | hk | hk | hk | hk) <;> exact State.contentArrives_none (by simp [hk]) (by simp [hk]) (by simp [hk]) (by simp [hk])
  · exact State.contentArrives_motion hk |>.trans (if_neg (by rwa [State.rosterHears_role]))
  · exact State.contentArrives_motion hk |>.trans (if_pos (by rwa [State.rosterHears_role]))
  · exact State.contentArrives_notice hk
  · exact State.contentArrives_ask hk
  · exact State.contentArrives_answer hk
  · have hone : byteAt (a.chars ++ [d]) 1 = byteAt a.chars 1 := byteAt_append [d] (by omega)
    have hlast : burstChars (a.chars ++ [d]) ≤ a.chars.length + 1 := by rw [burstChars, hone]; omega
    rw [exec_characterReceived_assembling hp hs hr hg, hsound, if_neg (by decide), State.assemble_last (by omega) hlast,
      State.judgeBurst_eq]
    rfl

end Sys2Proof.Machine
end

section
/-! SUPPORT. A burst heard character by character: the state after its start mark and any number of its characters is known, each
further character of the frame leads to the next one, and the last to the acceptance (R5, R7, R11). -/

namespace Sys2Proof.Machine

variable {s : State}

/-! ## Commands in a row -/

theorem runAll_cons {c : Instr} {rest : List Instr} {t : State} (h : exec c s = .next t) :
    runAll (c :: rest) s = runAll rest t := by simp [runAll, h]

/-- A character as it arrives undamaged. -/
def soundChar (b : Byte) : Instr := .characterReceived b (countOnes 8 b % 2 == 0) true

theorem soundChars_cons (b : Byte) (l : List Byte) : soundChars (b :: l) = soundChar b :: soundChars l := rfl

theorem garbled_sound (b : Byte) : garbled b (countOnes 8 b % 2 == 0) true = false := by
  rcases Nat.mod_two_eq_zero_or_one (countOnes 8 b) with h | h <;> simp [garbled, oddParity, h, Nat.add_mod]

/-! ## The header and the check -/

theorem headerAddr_headerByte (a : Addr) (k : BurstKind) : headerAddr (headerByte a k) = a := by
  cases k <;> revert a <;> decide

theorem headerKind_headerByte (a : Addr) (k : BurstKind) : headerKind (headerByte a k) = some k := by
  cases k <;> revert a <;> decide

theorem lengthOk_le {k : BurstKind} {n : Nat} (h : k.lengthOk n = true) : n ≤ 24 := by
  cases k <;> simp [BurstKind.lengthOk] at h <;> omega

theorem leBytes_length (n v : Nat) : (leBytes n v).length = n := by
  induction n generalizing v with
  | zero => rfl
  | succ n ih => simp [leBytes, ih]

/-- Header, length and payload, and the check over them: what follows the start mark (R5). -/
def burstBody (a : Addr) (k : BurstKind) (p : List Byte) : List Byte := headerByte a k :: BitVec.ofNat 8 p.length :: p

def burstTail (a : Addr) (k : BurstKind) (p : List Byte) : List Byte :=
  burstBody a k p ++ leBytes 2 (crc16 (burstBody a k p)).toNat

theorem burstFrame_eq (a : Addr) (k : BurstKind) (p : List Byte) :
    burstFrame a k p = preambleChar :: preambleChar :: startMark :: burstTail a k p := rfl

variable {a : Addr} {k : BurstKind} {p : List Byte}

theorem burstTail_length : (burstTail a k p).length = 4 + p.length := by
  simp [burstTail, burstBody, leBytes_length]; omega

theorem byteAt_burstTail_one (hl : p.length ≤ 24) : (byteAt (burstTail a k p) 1).toNat = p.length := by
  have : (BitVec.ofNat 8 p.length).toNat = p.length := by simp; omega
  simpa [burstTail, burstBody, byteAt] using this

/-- A whole frame passes the judgement and is taken apart as it was put together (R11). -/
theorem judgeBurst_burstTail (hl : k.lengthOk p.length = true) {b : Assembly} (hb : b.chars = burstTail a k p) :
    s.judgeBurst b = (s.setRx .hunting).burstAccepted ⟨a, k, p, b.latchedTether, b.latchedLocal⟩ := by
  have h0 : byteAt b.chars 0 = headerByte a k := by simp [hb, burstTail, burstBody, byteAt]
  have h1 : (byteAt b.chars 1).toNat = p.length := by rw [hb]; exact byteAt_burstTail_one (lengthOk_le hl)
  have hbody : 2 + (byteAt b.chars 1).toNat = (burstBody a k p).length := by rw [h1]; simp [burstBody]; omega
  have hpayload : burstPayload b.chars = p := by
    rw [burstPayload, h1, hb]
    simp [burstTail, burstBody]
  have hcheck : checkOk b.chars = true := by
    simp only [checkOk, hbody]
    rw [hb, burstTail, List.drop_left, List.take_left, decide_eq_true rfl]
  rw [State.judgeBurst_accepts hcheck (h0 ▸ headerKind_headerByte a k) (by rw [h1]; exact hl), h0, headerAddr_headerByte, hpayload]

/-! ## In the middle of a burst -/

/-- The state of `s` once the preamble, the start mark and the given characters of a burst that began at it have been heard. -/
def State.midBurst (chars : List Byte) (s : State) : State :=
  { s.advance (charTime * (3 + chars.length)) with rail := { s.rail with
      courtesy := false
      rx := .assembling { chars := chars, latchedTether := min (s.clock.tether + 352) tetherMax
                          latchedLocal := s.clock.now + 352, lastEnd := s.clock.now + charTime * (3 + chars.length) } } }

/-- A character of the preamble only takes its time. -/
theorem exec_preambleChar (hp : s.powered = true) (hs : s.rail.sending = none) (hr : s.rail.rx = .hunting) :
    exec (soundChar preambleChar) s = .next (s.advance charTime) := by
  rw [soundChar, exec_characterReceived_hunting hp hs hr, if_neg (by simp [preambleChar, startMark])]

theorem runAll_startMark (hp : s.powered = true) (hs : s.rail.sending = none) (hr : s.rail.rx = .hunting) (l : List Byte) :
    runAll (soundChars (preambleChar :: preambleChar :: startMark :: l)) s = runAll (soundChars l) (s.midBurst []) := by
  rw [soundChars_cons, runAll_cons (exec_preambleChar hp hs hr), soundChars_cons,
    runAll_cons (exec_preambleChar (by exact hp) (by exact hs) (by exact hr)), State.advance_advance, soundChars_cons]
  refine runAll_cons ?_
  rw [soundChar, exec_characterReceived_hunting (by exact hp) (by exact hs) (by exact hr), if_pos ⟨garbled_sound _, rfl⟩]
  exact congrArg (fun u : State => Host.Outcome.next { s.midBurst [] with clock := u.clock }) (State.advance_advance _ _)

/-- The next character of a frame, taken in the middle of its burst. -/
theorem exec_midBurst (hp : s.powered = true) (hs : s.rail.sending = none) (chars : List Byte) (d : Byte) :
    exec (soundChar d) (s.midBurst chars) = .next (((s.midBurst chars).advance charTime).assemble
      { chars := chars, latchedTether := min (s.clock.tether + 352) tetherMax, latchedLocal := s.clock.now + 352
        lastEnd := s.clock.now + charTime * (3 + chars.length) } d) := by
  rw [soundChar, exec_characterReceived_assembling (by exact hp) (by exact hs) rfl (Nat.le_add_right _ _), garbled_sound,
    if_neg (by decide)]

theorem charTime_snoc (chars : List Byte) (d : Byte) :
    charTime * (3 + chars.length) + charTime = charTime * (3 + (chars ++ [d]).length) := by
  simp; ring

/-- A character that is not the last leads one character further. -/
theorem exec_midBurst_more (hp : s.powered = true) (hs : s.rail.sending = none) (hl : p.length ≤ 24) {chars rest : List Byte}
    {d : Byte} (hf : chars ++ d :: rest = burstTail a k p) (hr : rest ≠ []) :
    exec (soundChar d) (s.midBurst chars) = .next (s.midBurst (chars ++ [d])) := by
  have hlen : chars.length + 1 + rest.length = 4 + p.length := by rw [← burstTail_length, ← hf]; simp; omega
  have hpos : 0 < rest.length := List.length_pos_iff.2 hr
  have hf' : (chars ++ [d]) ++ rest = burstTail a k p := by simpa using hf
  have hone : 1 ≤ chars.length → (byteAt (chars ++ [d]) 1).toNat = p.length := fun h => by
    rw [← byteAt_burstTail_one hl, ← hf', byteAt_append rest (by simp; omega)]
  rw [exec_midBurst hp hs, State.assemble_more]
  · rw [State.midBurst, State.midBurst, ← charTime_snoc, ← State.advance_advance, ← Nat.add_assoc s.clock.now]
    rfl
  · intro h
    have : byteAt (chars ++ [d]) 1 = d := by
      obtain ⟨c, rfl⟩ := List.length_eq_one_iff.1 h
      rfl
    rw [← this, hone h.ge]
    exact hl
  · intro h
    rw [burstChars, hone h]
    dsimp only
    omega

/-- The last character brings the acceptance. -/
theorem exec_midBurst_last (hp : s.powered = true) (hs : s.rail.sending = none) (hr : s.rail.rx = .hunting)
    (hl : k.lengthOk p.length = true) {chars : List Byte} {d : Byte} (hf : chars ++ [d] = burstTail a k p) :
    exec (soundChar d) (s.midBurst chars) =
      .next (({ s.advance (charTime * (7 + p.length)) with rail := { s.rail with courtesy := false } } : State).burstAccepted
        ⟨a, k, p, min (s.clock.tether + 352) tetherMax, s.clock.now + 352⟩) := by
  have hlen : chars.length + 1 = 4 + p.length := by rw [← burstTail_length, ← hf]; simp
  have hbytes : burstChars (chars ++ [d]) ≤ chars.length + 1 := by
    rw [burstChars, hf, byteAt_burstTail_one (lengthOk_le hl)]
    exact hlen.ge
  have ht : charTime * (3 + chars.length) + charTime = charTime * (7 + p.length) := by
    rw [show 7 + p.length = 3 + chars.length + 1 by omega, Nat.mul_succ]
  rw [exec_midBurst hp hs, State.assemble_last (by dsimp only; omega) hbytes, judgeBurst_burstTail hl hf, State.midBurst, ← ht,
    ← State.advance_advance]
  rw [show ({ s.rail with courtesy := false } : Rail) = { s.rail with courtesy := false, rx := .hunting } by rw [← hr]]
  rfl

/-- From the middle of a burst on, the rest of its characters bring the acceptance. -/
theorem runAll_midBurst (hp : s.powered = true) (hs : s.rail.sending = none) (hr : s.rail.rx = .hunting)
    (hl : k.lengthOk p.length = true) {chars rest : List Byte} (hf : chars ++ rest = burstTail a k p) (hne : rest ≠ []) :
    runAll (soundChars rest) (s.midBurst chars) =
      .next (({ s.advance (charTime * (7 + p.length)) with rail := { s.rail with courtesy := false } } : State).burstAccepted
        ⟨a, k, p, min (s.clock.tether + 352) tetherMax, s.clock.now + 352⟩) := by
  induction rest generalizing chars with
  | nil => exact absurd rfl hne
  | cons d rest ih =>
    rw [soundChars_cons]
    by_cases hend : rest = []
    · subst hend
      rw [runAll_cons (exec_midBurst_last hp hs hr hl hf)]
      rfl
    · rw [runAll_cons (exec_midBurst_more hp hs (lengthOk_le hl) hf hend)]
      exact ih (by simpa using hf) hend

/-- Settles O12: the preamble is passed over, the start mark begins the burst, and its characters complete it. -/
theorem burstIsHeardWhole : Obligations.BurstIsHeardWhole := by
  intro s a k p hp hs hr hl
  rw [burstFrame_eq, runAll_startMark hp hs hr]
  exact runAll_midBurst hp hs hr hl (chars := []) rfl (by simp [burstTail, burstBody])

end Sys2Proof.Machine
end

section
/-! SUPPORT. Sending: the head's stuck timer, what a discarded entry's owner is told, and the clash. The statements on access, sending
and the transmit queue follow. -/

namespace Sys2Proof.Machine

variable {s : State}

/-! ## Flags -/

theorem Flag.bit_number (f : Flag) : f.bit.getLsbD f.number = true := by cases f <;> decide

theorem State.raise_sticky (f : Flag) : (s.raise f).sticky f = true := by
  simp [State.sticky, State.raise, Flag.bit_number]

/-- A set flag stays set where another is raised (R179). -/
theorem State.sticky_raise {f : Flag} (g : Flag) (h : s.sticky f = true) : (s.raise g).sticky f = true := by
  simp only [State.sticky, State.raise, BitVec.getLsbD_or] at *
  simp [h]

/-! ## The head's stuck timer (R22) -/

/-- A new head's timer starts now. -/
theorem State.syncHead_stuck {e : QEntry} {rest : List QEntry} (hj : s.roster.join = .active) (hs : s.rail.sending = none)
    (hq : s.rail.queue = e :: rest) (hnew : ∀ i t, s.rail.stuck = some (i, t) → i ≠ e.id) :
    s.syncHead.rail.stuck = some (e.id, s.clock.now) := by
  cases hst : s.rail.stuck with
  | none => simp [State.syncHead, State.txHeld, hj, hs, hq, hst]
  | some st => simp [State.syncHead, State.txHeld, hj, hs, hq, hst, hnew st.1 st.2 hst]

/-! ## What the owner of a discarded entry is told (R15, R21, R22, R170) -/

theorem State.askGivenUp_eq : s.askGivenUp = if s.remote.state = .queued then s.endRemote .giveUp else s := rfl

theorem State.tellDiscarded_eq (e : QEntry) :
    s.tellDiscarded e = if e.kind = .ask ∧ s.remote.state = .queued then s.endRemote .giveUp else s := by
  by_cases hk : e.kind = .ask <;> simp [State.tellDiscarded, State.askGivenUp_eq, hk]

/-- Only the requester's block and sticky flags move: an ASK's queued request ends with GIVE_UP, and no flag is cleared. -/
theorem State.tellDiscarded_spec (e : QEntry) : ∃ r w,
    s.tellDiscarded e = { s with remote := r, host := { s.host with sticky := w } } ∧
    (∀ f, s.sticky f = true → w.getLsbD f.number = true) ∧
    if e.kind = .ask ∧ s.remote.state = .queued then
      r = { s.remote with state := .giveUp, deadlineFrom := none } ∧ w.getLsbD Flag.remoteDone.number = true
    else r = s.remote := by
  rw [State.tellDiscarded_eq]
  split
  · exact ⟨_, _, rfl, fun f hf => State.sticky_raise .remoteDone hf, rfl, s.raise_sticky (f := .remoteDone)⟩
  · exact ⟨_, _, rfl, fun f hf => hf, rfl⟩

/-! ## The clash (R20, R21) -/

/-- The entry as it clashed once more. -/
def QEntry.clashed (e : QEntry) : QEntry := { e with attempts := e.attempts + 1 }

/-- The state in which the clashed entry is dealt with: the sending has stopped, and the clash is counted. -/
def State.clashNoted (s : State) : State :=
  { s.stopSending.bump cClash with rail := { s.stopSending.rail with courtesy := false } }

theorem State.clash_returns {x : Sending} (h : x.entry.attempts < 7) : s.clash x =
    ({ s.clashNoted with rail := { s.clashNoted.rail with
        queue := replaceAfterClash x.entry.clashed s.rail.queue } } : State).syncHead := by
  have : ¬ 8 ≤ x.entry.attempts + 1 := by omega
  simp only [State.clash, if_neg this]
  rfl

theorem State.clash_givesUp {x : Sending} (h : 7 ≤ x.entry.attempts) : s.clash x =
    (((s.clashNoted.bump cGiveUp).raise .giveUp).tellDiscarded x.entry.clashed).syncHead := by
  have : 8 ≤ x.entry.attempts + 1 := by omega
  simp only [State.clash, if_pos this]
  rfl

theorem exec_characterReceived_sending (hp : s.powered = true) {x : Sending} (hx : s.rail.sending = some x) (d : Byte)
    (p ok : Bool) : exec (.characterReceived d p ok) s = .next ((s.advance charTime).compareSent x d (garbled d p ok)) := by
  simp [exec, execCharacterReceived, whilePowered, hp, hx]

theorem exec_characterMissing_sending (hp : s.powered = true) {x : Sending} (hx : s.rail.sending = some x) :
    exec .characterMissing s = .next (s.clash x) := by
  simp [exec, execCharacterMissing, whilePowered, hp, hx]

/-- A character that differs, is garbled or is missing is a clash at the time it ends (R20). -/
theorem exec_clashes (hp : s.powered = true) {x : Sending} (hx : s.rail.sending = some x) {c : Instr}
    (hc : c = .characterMissing ∨ ∃ (d sent : Byte) (p ok : Bool), c = .characterReceived d p ok ∧
      x.frame[x.heard]? = some sent ∧ (garbled d p ok = true ∨ d ≠ sent)) :
    ∃ k, exec c s = .next (State.clash x { s with clock := k }) := by
  rcases hc with rfl | ⟨d, sent, p, ok, rfl, hsent, hbad⟩
  · exact ⟨s.clock, exec_characterMissing_sending hp hx⟩
  · refine ⟨(s.advance charTime).clock, (exec_characterReceived_sending hp hx d p ok).trans ?_⟩
    rw [State.compareSent, hsent]
    dsimp only
    rw [if_pos hbad]
    rfl

/-- Where a clashed entry, or the newer one of its replaceable kind, stands: at the head of its class (R20). -/
theorem replaceAfterClash_eq (e : QEntry) (q : List QEntry) : replaceAfterClash e q =
    (match (if e.kind.replaceable then q.find? (fun y => y.kind == e.kind) else none) with
     | none => q.takeWhile (fun y => y.kind.cls < e.kind.cls) ++ e :: q.dropWhile (fun y => y.kind.cls < e.kind.cls)
     | some n =>
       let q' := q.filter (fun y => y.id != n.id)
       q'.takeWhile (fun y => y.kind.cls < e.kind.cls) ++
         { n with attempts := e.attempts } :: q'.dropWhile (fun y => y.kind.cls < e.kind.cls)) := by
  unfold replaceAfterClash
  cases hn : (if e.kind.replaceable then q.find? (fun y => y.kind == e.kind) else none) with
  | none => exact insertFirst_eq e q
  | some n =>
    have hkind : n.kind = e.kind := by
      have : q.find? (fun y => y.kind == e.kind) = some n := by
        split at hn
        · exact hn
        · cases hn
      simpa using List.find?_some this
    dsimp only
    rw [insertFirst_eq, hkind]

/-- Settles O17: the comparison, and the clash below the 8th attempt and at it. -/
theorem sentCharactersAreCompared : Obligations.SentCharactersAreCompared := by
  intro s x hp hx
  refine ⟨fun d p ok hsent hsound => ?_, fun c hc => ?_⟩
  · rw [exec_characterReceived_sending hp hx, State.compareSent, hsent, hsound]
    dsimp only
    rw [if_neg (by simp)]
    rfl
  obtain ⟨k, hexec⟩ := exec_clashes hp hx hc
  refine ⟨_, hexec, ?_⟩
  rcases Nat.lt_or_ge x.entry.attempts 7 with h7 | h7
  · rw [State.clash_returns h7]
    exact ⟨rfl, rfl, rfl, fun _ => ⟨replaceAfterClash_eq _ _, rfl, rfl⟩, fun h => absurd h (Nat.not_le.2 h7)⟩
  · obtain ⟨r, w, ht, hsticky, hr⟩ := State.tellDiscarded_spec (s := (State.clashNoted { s with clock := k }).bump cGiveUp |>.raise .giveUp)
      x.entry.clashed
    rw [State.clash_givesUp h7, ht]
    exact ⟨rfl, rfl, rfl, fun h => absurd h7 (Nat.not_le.2 h),
      fun _ => ⟨rfl, rfl, hsticky .giveUp (State.raise_sticky _), hr, rfl⟩⟩

/-! ## Access (R4, R17, R19) -/

theorem exec_quietWaitExpiry (hp : s.powered = true) : exec .quietWaitExpiry s = .next
    (if s.roster.join ≠ .active ∨ s.rail.carrierIn = true ∨ s.rail.sending ≠ none then s
    else match s.rail.queue with
      | [] => s
      | e :: rest => (s.advanceTo (s.waitEnds e)).beginSending e rest) := by
  have hheld : (s.txHeld || s.rail.carrier) = true ↔
      (s.roster.join ≠ .active ∨ s.rail.carrierIn = true ∨ s.rail.sending ≠ none) := by
    cases hs : s.rail.sending <;> simp [State.txHeld, Rail.carrier, hs]
  simp only [exec, execQuietWaitExpiry, whilePowered, hp, hheld, if_true] <;> split <;> rfl

/-- Settles O18: the keying of others, the cases in which nothing begins, and the head's beginning. -/
theorem quietTimeGatesSending : Obligations.QuietTimeGatesSending := by
  refine ⟨fun s present => ?_, fun s hp => ⟨fun h => ?_, fun e rest hj hc hs hq => ?_⟩⟩
  · have hfalls : (s.rail.carrierIn && !present && s.rail.sending.isNone) = true ↔
        (s.rail.carrierIn = true ∧ present = false ∧ s.rail.sending = none) := by simp [and_assoc]
    simp only [exec, execCarrierDetect, State.carrierChange, hfalls]
  · rw [exec_quietWaitExpiry hp]
    split
    · rfl
    · next hfree =>
      have hq : s.rail.queue = [] := by tauto
      rw [hq]
  · have hfree : ¬ (s.roster.join ≠ .active ∨ s.rail.carrierIn = true ∨ s.rail.sending ≠ none) := by simp [hj, hc, hs]
    rw [exec_quietWaitExpiry hp, if_neg hfree, hq]
    rfl

/-! ## The end of a sending (R19, R170) -/

/-- An entry sent whole touches the requester alone, but for the ANSWER of a served RESTART. -/
theorem State.entrySent_eq {e : QEntry}
    (h : e.kind = .ask ∨ s.remote.restartFrom = none ∨ s.remote.restartAnswer ≠ some e.id) : s.entrySent e =
      { s with remote := if e.kind = .ask ∧ s.remote.state = .queued then
          { s.remote with state := .awaiting, deadlineFrom := some s.clock.now } else s.remote } := by
  by_cases hk : e.kind = .ask
  · by_cases hq : s.remote.state = .queued <;> simp [State.entrySent, State.askSent, hk, hq]
  · have hno : ¬ (s.remote.restartFrom.isSome ∧ s.remote.restartAnswer = some e.id) := by
      rintro ⟨hf, ha⟩
      rcases h with h | h | h
      · exact hk h
      · simp [h] at hf
      · exact h ha
    rw [State.entrySent, if_neg hk, if_neg hno, if_neg (by simp [hk])]

/-- Settles O19. -/
theorem sendingCompletes : Obligations.SendingCompletes := by
  intro s x hp hx hrestart
  have hexec : exec .sendComplete s =
      .next ((s.advanceTo (x.startedAt + charTime * x.frame.length)).completeSending x.entry) := by
    simp [exec, execSendComplete, whilePowered, hp, hx]
  refine ⟨_, hexec, ?_⟩
  rw [State.completeSending, State.entrySent_eq]
  swap; · exact hrestart
  refine ⟨rfl, rfl, rfl, rfl, rfl, rfl, fun e rest hst hj hq => ?_, rfl, rfl, rfl⟩
  exact State.syncHead_stuck (by exact hj) rfl (by exact hq) (fun i t h => nomatch hst.symm.trans h)

/-- Settles O20. -/
theorem stuckHeadIsDropped : Obligations.StuckHeadIsDropped := by
  intro s i t0 e rest hp hst hq
  have hexec : exec .stuckDrop s = .next (s.advanceTo (t0 + 500000)).dropHead := by
    simp [exec, execStuckDrop, whilePowered, hp, hst, runOut, stuckTime]
  obtain ⟨r, w, ht, hsticky, hr⟩ := State.tellDiscarded_spec (s := (State.bump cStuckDrop { s.advanceTo (t0 + 500000) with
    rail := { s.rail with queue := rest } }).raise .mediumStuck) e
  refine ⟨_, hexec, ?_⟩
  rw [State.dropHead, show (s.advanceTo (t0 + 500000)).rail.queue = e :: rest from hq]
  dsimp only
  rw [show (s.advanceTo (t0 + 500000)).rail = s.rail from rfl, ht]
  refine ⟨rfl, rfl, fun h l hl hne hj hs => ?_, rfl, hsticky .mediumStuck (State.raise_sticky _), hr, rfl⟩
  refine State.syncHead_stuck (by exact hj) (by exact hs) (by exact hl) (fun j t hjt => ?_)
  obtain ⟨rfl, -⟩ := Prod.mk.inj (Option.some.inj (hst.symm.trans hjt))
  exact Ne.symm hne

/-! ## What makes room (R15) -/

theorem newestPeriodic_snoc (q : List QEntry) (x : QEntry) : newestPeriodic (q ++ [x]) =
    if x.kind = .beacon ∨ x.kind = .motion then
      match newestPeriodic q with
      | none => some x
      | some b => if b.id < x.id then some x else some b
    else newestPeriodic q := by
  rw [newestPeriodic, List.foldl_append]
  rfl

/-- It is a BEACON or MOTION as new as any that waits, and there is none only where none waits. -/
theorem newestPeriodic_spec (q : List QEntry) :
    (newestPeriodic q = none → ∀ x ∈ q, ¬ (x.kind = .beacon ∨ x.kind = .motion)) ∧
    ∀ e, newestPeriodic q = some e → (e.kind = .beacon ∨ e.kind = .motion) ∧
      ∀ x ∈ q, x.kind = .beacon ∨ x.kind = .motion → x.id ≤ e.id := by
  induction q using List.reverseRecOn with
  | nil => simp [newestPeriodic]
  | append_singleton q x ih =>
    obtain ⟨ihnone, ihsome⟩ := ih
    rw [newestPeriodic_snoc]
    simp only [List.mem_append, List.mem_singleton]
    by_cases hx : x.kind = .beacon ∨ x.kind = .motion
    · rw [if_pos hx]
      cases hq : newestPeriodic q with
      | none =>
        refine ⟨by simp, ?_⟩
        rintro e ⟨⟩
        refine ⟨hx, ?_⟩
        rintro y (hy | rfl) hyp
        · exact absurd hyp (ihnone hq y hy)
        · exact le_refl _
      | some b =>
        obtain ⟨hb, hle⟩ := ihsome b hq
        dsimp only
        split
        · next hlt =>
          refine ⟨by simp, ?_⟩
          rintro e ⟨⟩
          refine ⟨hx, ?_⟩
          rintro y (hy | rfl) hyp
          · exact (hle y hy hyp).trans hlt.le
          · exact le_refl _
        · next hge =>
          refine ⟨by simp, ?_⟩
          rintro e ⟨⟩
          refine ⟨hb, ?_⟩
          rintro y (hy | rfl) hyp
          · exact hle y hy hyp
          · exact Nat.le_of_not_lt hge
    · rw [if_neg hx]
      refine ⟨fun hq => ?_, fun e he => ⟨(ihsome e he).1, ?_⟩⟩
      · rintro y (hy | rfl)
        · exact ihnone hq y hy
        · exact hx
      · rintro y (hy | rfl) hyp
        · exact (ihsome e he).2 y hy hyp
        · exact absurd hyp hx

/-- A new entry stands at the end of its class with attempt count 0 (R15). -/
theorem State.addEntry_eq (k : BurstKind) (p : List Byte) : s.addEntry k p = { s with rail := { s.rail with
    queue := s.rail.queue.takeWhile (fun x => x.kind.cls ≤ k.cls) ++
      ⟨s.rail.nextId, k, p, 0⟩ :: s.rail.queue.dropWhile (fun x => x.kind.cls ≤ k.cls)
    nextId := s.rail.nextId + 1, stuck := (s.addEntry k p).rail.stuck } } := by
  conv_lhs => rw [State.addEntry, insertLast_eq]
  rw [State.addEntry, insertLast_eq]
  rfl

/-- Settles O21, case by case of the offering. -/
theorem offeredBurstIsQueued : Obligations.OfferedBurstIsQueued := by
  intro s k p
  refine ⟨State.offerBurst_listenOnly, fun hj hw => ?_, fun hj hw hs => ?_, fun hj hw hs e he => ?_, fun hj hw hs he => ?_⟩
  · obtain ⟨before, e, behind, hq, hk, hb, hr⟩ := replaceContent_split p hw.2
    rw [State.offerBurst_waits hj hw]
    exact ⟨⟨before, e, behind, hq, hk, hb, hr⟩, rfl⟩
  · rw [State.offerBurst_room hj hw hs]
    exact ⟨congrArg (fun u => u.rail.queue) (s.addEntry_eq k p), s.addEntry_eq k p⟩
  · obtain ⟨hkind, hnewest⟩ := (newestPeriodic_spec s.rail.queue).2 e he
    rw [State.offerBurst_makesRoom hj hw hs he]
    exact ⟨hkind, newestPeriodic_mem he, hnewest, congrArg (fun u => u.rail.queue) (State.addEntry_eq k p),
      congrArg (fun u => u.counters) (State.addEntry_eq k p)⟩
  · refine ⟨fun x hx => not_or.1 ((newestPeriodic_spec s.rail.queue).1 he x hx), ?_⟩
    rw [State.offerBurst_refused hj hw hs he, State.askGivenUp_eq]
    by_cases hk : k = .ask
    · by_cases hq : s.remote.state = .queued <;> simp [hk, hq, State.endRemote]
    · simp [hk]

end Sys2Proof.Machine
end

section
/-! SUPPORT. The end of the join (R28): what an offering reads of the node, several offered in turn, what the opening of a round
leaves unchanged, and the node that becomes ACTIVE. Settles O22. -/

namespace Sys2Proof.Machine

variable {s u v : State} {k : BurstKind} {p : List Byte}

/-! ## What an offering depends on (R14 to R16) -/

/-- The two states agree in all that decides the queue and the counters after an offering. -/
structure State.Alike (s u : State) : Prop where
  queue    : s.rail.queue = u.rail.queue
  sending  : s.rail.sending = u.rail.sending
  nextId   : s.rail.nextId = u.rail.nextId
  counters : s.counters = u.counters
  silent   : s.roster.join = .listenOnly ↔ u.roster.join = .listenOnly

namespace State.Alike

theorem refl (s : State) : s.Alike s := ⟨rfl, rfl, rfl, rfl, Iff.rfl⟩

theorem waits (h : s.Alike u) (k : BurstKind) : s.rail.waits k ↔ u.rail.waits k := by
  rw [Rail.waits, Rail.waits, h.queue]

theorem size (h : s.Alike u) : s.rail.size = u.rail.size := by rw [Rail.size, Rail.size, h.queue, h.sending]

theorem addEntry (h : s.Alike u) (k : BurstKind) (p : List Byte) : (s.addEntry k p).Alike (u.addEntry k p) where
  queue := by
    change insertLast ⟨s.rail.nextId, k, p, 0⟩ s.rail.queue = insertLast ⟨u.rail.nextId, k, p, 0⟩ u.rail.queue
    rw [h.queue, h.nextId]
  sending := h.sending
  nextId := congrArg (· + 1) h.nextId
  counters := h.counters
  silent := h.silent

/-- Alike states stay alike, for a burst whose refusal nothing but a counter notes. -/
theorem offerBurst (h : s.Alike u) (hk : k ≠ .ask) (p : List Byte) : (s.offerBurst k p).Alike (u.offerBurst k p) := by
  by_cases hj : u.roster.join = .listenOnly
  · rw [State.offerBurst_listenOnly hj, State.offerBurst_listenOnly (h.silent.2 hj)]
    exact h
  have hj' := mt h.silent.1 hj
  by_cases hw : u.rail.waits k
  · rw [State.offerBurst_waits hj hw, State.offerBurst_waits hj' ((h.waits k).2 hw)]
    exact ⟨congrArg (replaceContent k p) h.queue, h.sending, h.nextId, h.counters, h.silent⟩
  have hw' := mt (h.waits k).1 hw
  rcases Nat.lt_or_ge u.rail.size 8 with hs | hs
  · rw [State.offerBurst_room hj hw hs, State.offerBurst_room hj' hw' (h.size ▸ hs)]
    exact h.addEntry k p
  have hs' : 8 ≤ s.rail.size := h.size ▸ hs
  cases he : newestPeriodic u.rail.queue with
  | some e =>
    rw [State.offerBurst_makesRoom hj hw hs he, State.offerBurst_makesRoom hj' hw' hs' (h.queue ▸ he)]
    refine addEntry ?_ k p
    exact ⟨congrArg (List.filter fun x => x.id != e.id) h.queue, h.sending, h.nextId, h.counters, h.silent⟩
  | none =>
    rw [State.offerBurst_refused hj hw hs he, State.offerBurst_refused hj' hw' hs' (h.queue ▸ he), if_neg hk, if_neg hk]
    refine ⟨h.queue, h.sending, h.nextId, ?_, h.silent⟩
    simp only [State.bump, State.count, h.counters]

/-- An announced offer is offered as any burst is; the restart of its period decides nothing (R57). -/
theorem announceOffer (h : s.Alike u) (hj : s.roster.join = .active) : s.announceOffer.Alike
    (s.roster.self.offer.elim u (fun o => u.offerBurst .offer (offerPayload o))) := by
  cases ho : s.roster.self.offer with
  | none => rwa [State.announceOffer, hj, ho]
  | some o =>
    rw [State.announceOffer_eq ho, if_pos hj]
    refine offerBurst ?_ ?_ _
    · exact ⟨h.queue, h.sending, h.nextId, h.counters, h.silent⟩
    · decide

theorem announceClaim (h : s.Alike u) (hj : s.roster.join = .active) : s.announceClaim.Alike
    (s.roster.self.claim.elim u (fun c => u.offerBurst .claim (claimPayload c))) := by
  cases hc : s.roster.self.claim with
  | none => rwa [State.announceClaim, hj, hc]
  | some c =>
    rw [State.announceClaim_eq hc, if_pos hj]
    refine offerBurst ?_ ?_ _
    · exact ⟨h.queue, h.sending, h.nextId, h.counters, h.silent⟩
    · decide

end State.Alike

/-! ## Bursts offered in turn to a queue with room (R13, R15) -/

theorem insertLast_perm (e : QEntry) (q : List QEntry) : (insertLast e q).Perm (e :: q) := by
  rw [insertLast_eq]
  exact List.perm_middle.trans (by rw [List.takeWhile_append_dropWhile])

/-- An entry put into the queue is invisible to a filter that drops it. -/
theorem filter_insertLast {e : QEntry} {p : QEntry → Bool} (he : p e = false) (q : List QEntry) :
    (insertLast e q).filter p = q.filter p := by
  rw [insertLast_eq, List.filter_append, List.filter_cons_of_neg (by simp [he]), ← List.filter_append,
    List.takeWhile_append_dropWhile]

/-- Each stands behind what waits of its class, what waited stands as it stood, and nothing is counted. -/
theorem State.offerAll_room (payload : BurstKind → List Byte) (ks : List BurstKind) (s : State) (hks : ks.Nodup)
    (hq : ∀ e ∈ s.rail.queue, e.kind ∉ ks) (hroom : s.rail.queue.length + ks.length ≤ 8) (hs : s.rail.sending = none)
    (hj : s.roster.join ≠ .listenOnly) :
    (ks.foldl (fun u k => u.offerBurst k (payload k)) s).rail.queue.map QEntry.kind =
      ks.foldl (fun q k => q.takeWhile (fun x => x.cls ≤ k.cls) ++ k :: q.dropWhile (fun x => x.cls ≤ k.cls))
        (s.rail.queue.map QEntry.kind) ∧
    (∀ p : QEntry → Bool, (∀ e, e.kind ∈ ks → p e = false) →
      (ks.foldl (fun u k => u.offerBurst k (payload k)) s).rail.queue.filter p = s.rail.queue.filter p) ∧
    (ks.foldl (fun u k => u.offerBurst k (payload k)) s).counters = s.counters := by
  induction ks generalizing s with
  | nil => exact ⟨rfl, fun _ _ => rfl, rfl⟩
  | cons k ks ih =>
    obtain ⟨hk, hks⟩ := List.nodup_cons.1 hks
    rw [List.length_cons] at hroom
    have hw : ¬ s.rail.waits k := by
      rintro ⟨-, e, he, rfl⟩
      exact hq e he List.mem_cons_self
    have hsize : s.rail.size < 8 := by simp only [Rail.size, hs]; simp; omega
    have hqueue : (s.addEntry k (payload k)).rail.queue = insertLast ⟨s.rail.nextId, k, payload k, 0⟩ s.rail.queue := rfl
    obtain ⟨hkinds, hfilter, hcounters⟩ := ih (s.addEntry k (payload k)) hks
      (fun e he hmem => by
        rcases List.mem_cons.1 ((insertLast_perm _ _).mem_iff.1 (hqueue ▸ he)) with rfl | he
        · exact hk hmem
        · exact hq e he (List.mem_cons_of_mem _ hmem))
      (by rw [hqueue, insertLast_length]; omega) hs hj
    rw [List.foldl_cons, List.foldl_cons, State.offerBurst_room hj hw hsize, ← insertLast_kinds ⟨s.rail.nextId, k, payload k, 0⟩]
    refine ⟨hkinds, fun p hp => ?_, hcounters⟩
    rw [hfilter p (fun e he => hp e (List.mem_cons_of_mem _ he)), hqueue, filter_insertLast (hp _ List.mem_cons_self)]

end Sys2Proof.Machine
end

section
/-! SUPPORT. The end of the join (R28): what its offerings and the opening of a round leave unchanged, and the node that becomes
ACTIVE. Settles O22. -/

namespace Sys2Proof.Machine

variable {s u v : State} {k : BurstKind} {p : List Byte}

/-! ## What an announcement reaches -/

/-- `u` is `s` but for the transmit queue, the counters and the announcement periods. -/
def State.Announces (s u : State) : Prop := u = { s with
  rail := u.rail, counters := u.counters
  power := { s.power with offerFrom := u.power.offerFrom, claimFrom := u.power.claimFrom } }

namespace State.Announces

theorem refl (s : State) : s.Announces s := rfl

theorem trans (h : s.Announces u) (h' : u.Announces v) : s.Announces v := by
  unfold State.Announces at *
  rw [h] at h'
  exact h'

theorem offerBurst (s : State) (hk : k ≠ .ask) (p : List Byte) : s.Announces (s.offerBurst k p) := by
  by_cases hj : s.roster.join = .listenOnly
  · rw [State.offerBurst_listenOnly hj]
    exact refl s
  by_cases hw : s.rail.waits k
  · rw [State.offerBurst_waits hj hw]
    rfl
  rcases Nat.lt_or_ge s.rail.size 8 with hs | hs
  · rw [State.offerBurst_room hj hw hs]
    rfl
  cases he : newestPeriodic s.rail.queue with
  | some e =>
    rw [State.offerBurst_makesRoom hj hw hs he]
    rfl
  | none =>
    rw [State.offerBurst_refused hj hw hs he, if_neg hk]
    rfl

theorem offerBeacon (s : State) : s.Announces s.offerBeacon := by
  refine offerBurst s ?_ _
  decide

theorem announceOffer (s : State) : s.Announces s.announceOffer := by
  unfold State.announceOffer
  split
  · refine trans (u := { s with power := { s.power with offerFrom := some s.clock.now } }) rfl (offerBurst _ ?_ _)
    decide
  · exact refl s

theorem announceClaim (s : State) : s.Announces s.announceClaim := by
  unfold State.announceClaim
  split
  · refine trans (u := { s with power := { s.power with claimFrom := some s.clock.now } }) rfl (offerBurst _ ?_ _)
    decide
  · exact refl s

end State.Announces

/-! ## What the opening of a round reaches (R95) -/

/-- `u` is `s` but for the self entry and what a change of the agreement state is handed on to. -/
def State.Agrees (s u : State) : Prop := u = { s with
  roster := { s.roster with self := u.roster.self }
  loads := u.loads, agree := u.agree, lanes := u.lanes, sliceSource := u.sliceSource, motionHeadset := u.motionHeadset }

namespace State.Agrees

theorem refl (s : State) : s.Agrees s := rfl

theorem trans (h : s.Agrees u) (h' : u.Agrees v) : s.Agrees v := by
  unfold State.Agrees at *
  rw [h] at h'
  exact h'

theorem plan (s : State) : s.Agrees s.plan := by
  unfold State.plan
  split
  · rw [State.handLevels_eq]
    split <;> rfl
  · exact refl s

theorem tellDataBlocks (s : State) (wasRunning : Bool) : s.Agrees (s.tellDataBlocks wasRunning) := by
  unfold State.tellDataBlocks State.dataBlocksLeave State.dataBlocksEnter
  (repeat' split) <;> rfl

theorem changeAgree (s : State) (st : AgreeState) (g : Option Grade) (r : Reason) : s.Agrees (s.changeAgree st g r) := by
  unfold State.changeAgree
  refine trans ?_ (trans (plan _) (tellDataBlocks _ _))
  rfl

theorem openRound (s : State) (r : Reason) : s.Agrees (s.openRound r) := by
  unfold State.openRound
  split
  · exact changeAgree s _ _ _
  · split
    · exact changeAgree s _ _ _
    · exact trans (u := s.setRound (s.agree.round + 1)) rfl (changeAgree _ _ _ _)

end State.Agrees

/-! ## The own mode set at the opening of a round (R108) -/

@[simp] theorem State.plan_roster : s.plan.roster = s.roster := by
  unfold State.plan
  split
  · rw [State.handLevels_eq]
    split <;> rfl
  · rfl

@[simp] theorem State.tellDataBlocks_roster (wasRunning : Bool) : (s.tellDataBlocks wasRunning).roster = s.roster := by
  unfold State.tellDataBlocks State.dataBlocksLeave State.dataBlocksEnter
  (repeat' split) <;> rfl

theorem State.changeAgree_modeSet (st : AgreeState) (g : Option Grade) (r : Reason) :
    (s.changeAgree st g r).roster.self.modeSet = s.roster.self.modeSet := by
  rw [State.changeAgree, State.tellDataBlocks_roster, State.plan_roster]
  rfl

/-- The own mode set holds the round that is opened while LISTEN has not been entered since the reset (R108). -/
theorem State.openRound_modeSet (hc : s.roster.chainComplete = true) (hm : s.power.modeSet ≠ []) (r : Reason) :
    (s.openRound r).roster.self.modeSet = s.roster.self.modeSet.map
      (fun m => if s.agree.listened then m else { m with round := s.agree.round + 1 }) := by
  rw [State.openRound, if_neg (by simp [hc]), if_neg hm, State.enterSettle, State.changeAgree_modeSet, State.setRound]
  cases s.agree.listened with
  | true => simp
  | false => simp [Entry.withRound]

/-! ## The node becomes ACTIVE (R28) -/

/-- The join state is ACTIVE and the BEACON period runs. -/
def State.joined (s : State) : State :=
  { s with roster := { s.roster with join := .active, joinFrom := none, beaconFrom := some s.clock.now } }

/-- The first bursts of an ACTIVE node are offered. -/
def State.firstOffered (s : State) : State := s.joined.offerBeacon.announceOffer.announceClaim

theorem State.becomeActive_eq (s : State) : s.becomeActive =
    (if s.firstOffered.onPath then s.firstOffered.openRound .joinDone else s.firstOffered).syncHead := rfl

theorem State.firstOffered_announces (s : State) : s.joined.Announces s.firstOffered :=
  ((State.Announces.offerBeacon _).trans (.announceOffer _)).trans (.announceClaim _)

/-- The BEACON, then the offer and the claim the node holds, into a queue that stands as that of `u`. -/
theorem State.firstOffered_alike (h : s.joined.Alike u) : s.firstOffered.Alike
    (s.roster.self.claim.elim
      (s.roster.self.offer.elim (u.offerBurst .beacon s.beaconPayload)
        fun o => (u.offerBurst .beacon s.beaconPayload).offerBurst .offer (offerPayload o))
      fun c => (s.roster.self.offer.elim (u.offerBurst .beacon s.beaconPayload)
        fun o => (u.offerBurst .beacon s.beaconPayload).offerBurst .offer (offerPayload o)).offerBurst .claim (claimPayload c)) := by
  have hbeacon := State.Announces.offerBeacon s.joined
  have hoffer := hbeacon.trans (.announceOffer _)
  have h1 : s.joined.offerBeacon.Alike (u.offerBurst .beacon s.beaconPayload) := by
    refine h.offerBurst ?_ _
    decide
  have h2 := h1.announceOffer (by rw [hbeacon]; rfl)
  have h3 := h2.announceClaim (by rw [hoffer]; rfl)
  have hself1 : s.joined.offerBeacon.roster.self = s.roster.self := by rw [hbeacon]; rfl
  have hself2 : s.joined.offerBeacon.announceOffer.roster.self = s.roster.self := by rw [hoffer]; rfl
  rwa [hself1, hself2] at h3

/-- What the end of the join reaches. -/
theorem State.becomeActive_frame (s : State) : s.becomeActive = { s with
    rail := s.becomeActive.rail
    roster := { s.joined.roster with self := s.becomeActive.roster.self }
    power := { s.power with offerFrom := s.becomeActive.power.offerFrom, claimFrom := s.becomeActive.power.claimFrom }
    loads := s.becomeActive.loads, agree := s.becomeActive.agree, lanes := s.becomeActive.lanes
    sliceSource := s.becomeActive.sliceSource, motionHeadset := s.becomeActive.motionHeadset
    counters := s.becomeActive.counters } := by
  have hround : s.firstOffered.Agrees
      (if s.firstOffered.onPath then s.firstOffered.openRound .joinDone else s.firstOffered) := by
    split
    · exact .openRound _ _
    · exact .refl _
  have hfirst := s.firstOffered_announces
  rw [State.becomeActive_eq]
  unfold State.Agrees at hround
  unfold State.Announces at hfirst
  rw [hround, hfirst]
  rfl

/-- The opening of the round leaves the queue and the counters to the first bursts. -/
theorem State.becomeActive_queue (s : State) : s.becomeActive.rail.queue = s.firstOffered.rail.queue := by
  rw [State.becomeActive_eq]
  split
  · change (s.firstOffered.openRound .joinDone).rail.queue = _
    rw [State.openRound_rail]
  · rfl

theorem State.becomeActive_counters (s : State) : s.becomeActive.counters = s.firstOffered.counters := by
  rw [State.becomeActive_eq]
  split
  · exact State.openRound_counters _ _
  · rfl

theorem State.firstOffered_onPath (s : State) : s.firstOffered.onPath = s.onPath := by
  rw [s.firstOffered_announces]
  rfl

theorem State.becomeActive_battery (h : s.role = .battery) : s.becomeActive.agree = s.agree := by
  have hpath : s.onPath = false := by rw [State.onPath, h]; rfl
  rw [State.becomeActive_eq, State.firstOffered_onPath, hpath, s.firstOffered_announces]
  rfl

theorem State.becomeActive_onPath (h : s.role ≠ .battery) :
    s.becomeActive = (s.firstOffered.openRound .joinDone).syncHead := by
  have hpath : s.onPath = true := by
    rw [State.onPath]
    cases hr : s.role with
    | battery => exact absurd hr h
    | _ => rfl
  rw [State.becomeActive_eq, State.firstOffered_onPath, hpath]
  rfl

theorem State.becomeActive_agree (h : s.role ≠ .battery) : s.becomeActive.agree = s.agree.opened .joinDone s := by
  rw [State.becomeActive_onPath h, State.syncHead_agree, State.openRound_agree, s.firstOffered_announces]
  rfl

theorem State.becomeActive_modeSet (h : s.role ≠ .battery) (hc : s.roster.chainComplete = true) (hm : s.power.modeSet ≠ []) :
    s.becomeActive.roster.self.modeSet = s.roster.self.modeSet.map
      (fun m => if s.agree.listened then m else { m with round := s.agree.round + 1 }) := by
  rw [State.becomeActive_onPath h, State.syncHead_roster, State.openRound_modeSet]
  · rw [s.firstOffered_announces]
    rfl
  · rw [s.firstOffered_announces]
    exact hc
  · rw [s.firstOffered_announces]
    exact hm

/-- Settles O22. -/
theorem joinEndsActive : Obligations.JoinEndsActive := by
  intro s t0 hp hj hf hs hq ho hc first behind payload offered
  have hexec : exec .joinTimerExpiry s = .next (s.advanceTo (t0 + 250000)).becomeActive := by
    simp [exec, execJoinTimerExpiry, whilePowered, runOut, joinTime, hp, hf]
  have hlisten : s.roster.join ≠ .listenOnly := by simp [hj]
  have hfirst : first = .beacon :: ((if s.roster.self.offer.isSome then [.offer] else []) ++
      if s.roster.self.claim.isSome then [.claim] else []) := by
    simp only [first, ho, hc]
    cases s.role <;> rfl
  have halike : (s.advanceTo (t0 + 250000)).firstOffered.Alike offered := by
    have h := State.firstOffered_alike (s := s.advanceTo (t0 + 250000)) (u := s) ⟨rfl, rfl, rfl, rfl, by simp [State.joined, hj]⟩
    rw [show (s.advanceTo (t0 + 250000)).roster = s.roster from rfl,
      show (s.advanceTo (t0 + 250000)).beaconPayload = s.beaconPayload from rfl] at h
    simp only [offered, hfirst]
    cases hoffer : s.roster.self.offer <;> cases hclaim : s.roster.self.claim <;>
      simpa [payload, hoffer, hclaim] using h
  have hnodup : first.Nodup := by
    rw [hfirst]
    cases s.roster.self.offer.isSome <;> cases s.roster.self.claim.isSome <;> decide
  have hmem : ∀ k ∈ first, k = .beacon ∨ k = .offer ∨ k = .claim := by
    rw [hfirst]
    cases s.roster.self.offer.isSome <;> cases s.roster.self.claim.isSome <;> decide
  have hnew : ∀ e ∈ s.rail.queue, e.kind ∉ first := by
    intro e he hk
    obtain ⟨hb, ho, hc⟩ := hq e he
    rcases hmem _ hk with h | h | h <;> contradiction
  have hqueue := (State.becomeActive_queue (s.advanceTo (t0 + 250000))).trans halike.queue
  have hcounters := (State.becomeActive_counters (s.advanceTo (t0 + 250000))).trans halike.counters
  have hframe := State.becomeActive_frame (s.advanceTo (t0 + 250000))
  have hagree (hr : s.role ≠ .battery) := State.becomeActive_agree (s := s.advanceTo (t0 + 250000)) hr
  have hset (hr : s.role ≠ .battery) := State.becomeActive_modeSet (s := s.advanceTo (t0 + 250000)) hr
  have hwhole (h : s.roster.chainComplete = true) : ¬ s.roster.chainComplete = false := by simp [h]
  have hclock := congrArg State.clock hframe
  have hroster := congrArg State.roster hframe
  refine ⟨_, hexec, hclock, ?_, ?_, ?_, fun hroom => ?_, hqueue, hcounters, fun hr => ?_,
    fun hr hchain => ?_, fun hr hchain hm => ?_, fun hr hchain hm => ⟨?_, fun m hm' => ?_⟩, ?_⟩
  · rw [hroster]; rfl
  · rw [hroster]; rfl
  · rw [hroster, hclock]; rfl
  · obtain ⟨hkinds, hfilter, hcount⟩ := State.offerAll_room payload first s hnodup hnew hroom hs hlisten
    refine ⟨(congrArg _ hqueue).trans hkinds, ?_, hcounters.trans hcount⟩
    rw [hqueue, hfilter _ (fun e he => by simp [he])]
    exact List.filter_eq_self.2 (fun e he => by simp [hnew e he])
  · exact State.becomeActive_battery hr
  · rw [hagree hr, Agree.opened, if_pos (by exact hchain)]
    exact ⟨rfl, rfl, rfl⟩
  · rw [hagree hr, Agree.opened, if_neg (by exact hwhole hchain), if_pos (by exact hm)]
    exact ⟨rfl, rfl, rfl⟩
  · rw [hagree hr, Agree.opened, if_neg (by exact hwhole hchain), if_neg (by exact hm), hclock]
    rfl
  · rw [hset hr hchain hm]
    exact congrArg (Option.map _) hm'
  · conv_rhs => rw [hroster, hclock]
    exact hframe

end Sys2Proof.Machine
end

section
/-! SUPPORT. The queue of commands, the rebuilding of a 32-bit time field (R46) and the periods (R43, R57). -/

namespace Sys2Proof.Machine

/-- Settles O1. -/
theorem frontCommandRuns : Obligations.FrontCommandRuns := by
  refine ⟨fun _ _ _ => rfl, fun s hp => ?_⟩
  have h : step s = .next (if s.powered then s.advance 1 else s) := by simp only [step, hp]
  exact h

/-- Every well-formed command but UNKNOWN_REQUEST answers whatever its operands; that one answers for an unknown code. -/
theorem exec_answers (c : Instr) (s : State) (hc : c.wellFormed = true) : ∃ t, exec c s = .next t := by
  cases c with
  | unknownRequest code =>
    have h : code.toNat = 0 ∨ 12 < code.toNat := by simpa [Instr.wellFormed, unknownCode] using hc
    exact ⟨_, if_pos h⟩
  | _ => exact ⟨_, rfl⟩

/-- Settles O2. -/
theorem everyCommandAnswers : Obligations.EveryCommandAnswers := by
  refine ⟨fun c s hc => exec_answers c s hc, fun code s h1 h12 => if_neg ?_⟩
  omega

theorem ite_cases {α : Type} (p : Prop) [Decidable p] (a b : α) : p ∧ ite p a b = a ∨ ¬ p ∧ ite p a b = b := by
  by_cases h : p <;> simp [h]

theorem distance_eq (a b : Nat) : distance a b = (a - b) + (b - a) := by
  unfold distance; split <;> omega

/-- The nearer of the two lower candidates is taken first, then the upper one where it is in range and at least as near. -/
theorem rebuildTether_cases {reference field mid : Nat} (hmid : reference / 2 ^ 32 * 2 ^ 32 + field % 2 ^ 32 = mid) :
    ∃ lower,
      ((2 ^ 32 ≤ mid ∧ distance reference (mid - 2 ^ 32) < distance reference mid) ∧ lower = mid - 2 ^ 32 ∨
        ¬(2 ^ 32 ≤ mid ∧ distance reference (mid - 2 ^ 32) < distance reference mid) ∧ lower = mid) ∧
      ((mid + 2 ^ 32 ≤ 2 ^ 48 - 1 ∧ distance reference (mid + 2 ^ 32) ≤ distance reference lower) ∧
          rebuildTether reference field = mid + 2 ^ 32 ∨
        ¬(mid + 2 ^ 32 ≤ 2 ^ 48 - 1 ∧ distance reference (mid + 2 ^ 32) ≤ distance reference lower) ∧
          rebuildTether reference field = lower) := by
  unfold rebuildTether tetherMax
  dsimp only
  rw [hmid]
  exact ⟨_, ite_cases _ _ _, ite_cases _ _ _⟩

/-- Of the values a span `b` apart of which one, `mid`, lies less than a span from the reference, the choice of `rebuildTether_cases` is the
nearest, and the later of two equally near. -/
theorem nearest_of_cases {reference mid lower v b top : Nat} (hlow : mid < reference + b) (hhigh : reference < mid + b)
    (hl : (b ≤ mid ∧ distance reference (mid - b) < distance reference mid) ∧ lower = mid - b ∨
      ¬(b ≤ mid ∧ distance reference (mid - b) < distance reference mid) ∧ lower = mid)
    (hv : (mid + b ≤ top ∧ distance reference (mid + b) ≤ distance reference lower) ∧ v = mid + b ∨
      ¬(mid + b ≤ top ∧ distance reference (mid + b) ≤ distance reference lower) ∧ v = lower)
    {w : Nat} (hw : w ≤ top) (hapart : w + b ≤ mid ∨ w = mid ∨ mid + b ≤ w) :
    distance reference v ≤ distance reference w ∧ (distance reference v = distance reference w → w ≤ v) := by
  simp only [distance_eq] at *
  rcases hapart with h | h | h <;> omega

/-- Settles O28: the first choice is the nearer of the lower two candidates, the second takes the third where it is at least as near. -/
theorem rebuiltTimeIsNearest : Obligations.RebuiltTimeIsNearest := by
  intro reference field href hfield
  obtain ⟨mid, hmid⟩ : ∃ mid, reference / 2 ^ 32 * 2 ^ 32 + field % 2 ^ 32 = mid := ⟨_, rfl⟩
  obtain ⟨lower, hl, hv⟩ := rebuildTether_cases hmid
  have hm : mid % 2 ^ 32 = field ∧ mid < 2 ^ 48 := by omega
  refine ⟨by omega, by omega, fun w hw hwf => nearest_of_cases (by omega) (by omega) hl hv hw (by omega)⟩

/-! ## Periods (R43, R57) -/

variable {s : State}

/-- While the timer runs its expiry happens at the time it was due, or at once if that has passed. -/
theorem runOut_running {start : Option Nat} {t0 : Nat} (h : start = some t0) (span : Nat) (act : Nat → State → State) :
    runOut start span s act = act (t0 + span) (s.advanceTo (t0 + span)) := by
  subst h; rfl

theorem whilePowered_on (hp : s.powered = true) (act : State → State) : whilePowered s act = .next (act s) := by
  simp [whilePowered, hp]

/-- The fields of a BEACON: the stamp's place, role and summary, and at a HEADSET the anchor with its period code, zeros where there is
none (R43). -/
theorem State.beaconPayload_eq : s.beaconPayload = [0, 0, 0, 0, s.role.code, s.roster.self.summary.getD 7] ++
    (if s.role = .headset then
      (match s.roster.self.anchor with
       | some a => leBytes 4 a.time ++ [if a.period120 then 2 else 1]
       | none => [0, 0, 0, 0, 0])
     else []) := by
  unfold State.beaconPayload
  split
  · cases s.roster.self.anchor <;> rfl
  · rfl

theorem exec_beaconPeriod (hp : s.powered = true) {t0 : Nat} (hb : s.roster.beaconFrom = some t0) :
    exec .beaconPeriod s = .next
      ({ s.advanceTo (t0 + beaconTime) with
        roster := { (s.advanceTo (t0 + beaconTime)).roster with beaconFrom := some (t0 + beaconTime) } } : State).offerBeacon := by
  rw [show exec .beaconPeriod s = execBeaconPeriod s from rfl, execBeaconPeriod, whilePowered_on hp, runOut_running hb]

theorem exec_offerPeriod (hp : s.powered = true) {t0 : Nat} (hf : s.power.offerFrom = some t0) :
    exec (.offerClaimPeriod .offer) s = .next (s.advanceTo (t0 + announceTime)).announceOffer := by
  rw [show exec (.offerClaimPeriod .offer) s = execOfferClaimPeriod .offer s from rfl, execOfferClaimPeriod, whilePowered_on hp]
  dsimp only
  rw [runOut_running hf]

theorem exec_claimPeriod (hp : s.powered = true) {t0 : Nat} (hf : s.power.claimFrom = some t0) :
    exec (.offerClaimPeriod .claim) s = .next (s.advanceTo (t0 + announceTime)).announceClaim := by
  rw [show exec (.offerClaimPeriod .claim) s = execOfferClaimPeriod .claim s from rfl, execOfferClaimPeriod, whilePowered_on hp]
  dsimp only
  rw [runOut_running hf]

@[simp] theorem State.advanceTo_roster (t : Nat) : (s.advanceTo t).roster = s.roster := State.advance_roster s _
@[simp] theorem State.advanceTo_power (t : Nat) : (s.advanceTo t).power = s.power := State.advance_power s _
@[simp] theorem State.advanceTo_straps (t : Nat) : (s.advanceTo t).straps = s.straps := State.advance_straps s _

/-- Settles O29. -/
theorem periodicBurstsAreOffered : Obligations.PeriodicBurstsAreOffered := by
  intro s t0 hp hj
  refine ⟨fun hb => ?_, fun o hf ho => ?_, fun c hf hc => ?_⟩
  · rw [exec_beaconPeriod hp hb, State.offerBeacon, State.beaconPayload_eq, beaconTime]
    simp only [State.role, State.advanceTo_roster, State.advanceTo_straps] <;> rfl
  · rw [exec_offerPeriod hp hf, State.announceOffer_eq (s := s.advanceTo (t0 + announceTime)) (by simpa using ho),
      if_pos (by simpa using hj), announceTime]
    simp only [State.advanceTo_power, offerPayload]
  · rw [exec_claimPeriod hp hf, State.announceClaim_eq (s := s.advanceTo (t0 + announceTime)) (by simpa using hc),
      if_pos (by simpa using hj), announceTime]
    simp only [State.advanceTo_power, claimPayload]

end Sys2Proof.Machine
end

section
/-! SUPPORT. The seat of the node: its roster and its lane agreement controller. The rail, data and remote operations leave both as they
are; one equation for each says so. -/

namespace Sys2Proof.Machine

structure Seat where
  roster : Roster
  agree  : Agree

def State.seat (s : State) : Seat := ⟨s.roster, s.agree⟩

@[simp] theorem seat_eta (s : State) : (⟨s.roster, s.agree⟩ : Seat) = s.seat := rfl

@[simp] theorem seat_mk (pw st cl ra ro po lo ag la ss sh mh ms au ah re ho co it fr pe) :
    State.seat ⟨pw, st, cl, ra, ro, po, lo, ag, la, ss, sh, mh, ms, au, ah, re, ho, co, it, fr, pe⟩ = ⟨ro, ag⟩ := rfl

theorem roster_of_seat {s t : State} (h : t.seat = s.seat) : t.roster = s.roster := congrArg Seat.roster h
theorem agree_of_seat {s t : State} (h : t.seat = s.seat) : t.agree = s.agree := congrArg Seat.agree h

section
variable (s : State)

/-! ## Single updates -/

@[simp] theorem State.raise_seat (f : Flag) : (s.raise f).seat = s.seat := rfl
@[simp] theorem State.count_seat (c : Counter) (n : Nat) : (s.count c n).seat = s.seat := rfl
@[simp] theorem State.bump_seat (c : Counter) : (s.bump c).seat = s.seat := rfl
@[simp] theorem State.advance_seat (n : Nat) : (s.advance n).seat = s.seat := rfl
@[simp] theorem State.withReply_seat (st : Status) (b : List Byte) : (s.withReply st b).seat = s.seat := rfl
@[simp] theorem State.syncHead_seat : s.syncHead.seat = s.seat := rfl
@[simp] theorem State.stopSending_seat : s.stopSending.seat = s.seat := rfl
@[simp] theorem State.setRx_seat (r : Receiver) : (s.setRx r).seat = s.seat := rfl
@[simp] theorem State.setSupplier_seat (st : SupplierState) : (s.setSupplier st).seat = s.seat := rfl
@[simp] theorem State.mapAudio_seat (f : AudioHeadset → AudioHeadset) : (s.mapAudio f).seat = s.seat := rfl
@[simp] theorem State.sendFrame_seat (f : Half × Half) : (s.sendFrame f).seat = s.seat := rfl
@[simp] theorem State.drawFrame_seat : s.drawFrame.2.seat = s.seat := rfl
@[simp] theorem State.setSlot_seat (k : Nat) (x : Slot) : (s.setSlot k x).seat = s.seat := rfl
@[simp] theorem State.show_seat (k : Nat) (b : Option (List Byte)) : (s.show k b).seat = s.seat := rfl
@[simp] theorem State.markNotFresh_seat : s.markNotFresh.seat = s.seat := rfl
@[simp] theorem State.answerSlice_seat (c : Byte) : (s.answerSlice c).seat = s.seat := rfl
@[simp] theorem State.setSubmission_seat (o : Option Submission) : (s.setSubmission o).seat = s.seat := rfl
@[simp] theorem State.offerPacket_seat (lane : Lane) (p : Packet) : (s.offerPacket lane p).seat = s.seat := rfl
@[simp] theorem State.startSensorWrite_seat : s.startSensorWrite.seat = s.seat := rfl
@[simp] theorem State.endRemote_seat (r : RemoteState) : (s.endRemote r).seat = s.seat := rfl
@[simp] theorem State.judgeClear_seat (b : Bool) : (s.judgeClear b).seat = s.seat := rfl
@[simp] theorem State.raiseSlew_seat (n : Nat) : (s.raiseSlew n).seat = s.seat := rfl

/-! ## The transmit queue and the ends of requests -/

@[simp] theorem State.askGivenUp_seat : s.askGivenUp.seat = s.seat := by
  unfold State.askGivenUp; split <;> simp
@[simp] theorem State.tellDiscarded_seat (e : QEntry) : (s.tellDiscarded e).seat = s.seat := by
  unfold State.tellDiscarded; split <;> simp
@[simp] theorem State.addEntry_seat (k : BurstKind) (p : List Byte) : (s.addEntry k p).seat = s.seat := by
  simp [State.addEntry]
@[simp] theorem State.offerBurst_seat (k : BurstKind) (p : List Byte) : (s.offerBurst k p).seat = s.seat := by
  unfold State.offerBurst; (repeat' split) <;> simp
@[simp] theorem State.offerNotice_seat (k : Byte) (d : Nat) : (s.offerNotice k d).seat = s.seat := by
  simp [State.offerNotice]
@[simp] theorem State.askSent_seat : s.askSent.seat = s.seat := by
  unfold State.askSent; split <;> simp
@[simp] theorem State.answerArrives_seat (a : Addr) (p : List Byte) : (s.answerArrives a p).seat = s.seat := by
  unfold State.answerArrives; (repeat' split) <;> simp
@[simp] theorem State.noteRestartAnswer_seat (n : Nat) : (s.noteRestartAnswer n).seat = s.seat := by
  unfold State.noteRestartAnswer; split <;> simp
@[simp] theorem State.readCounter_seat (g i : Nat) : (s.readCounter g i).state.seat = s.seat := by
  unfold State.readCounter; split <;> simp
@[simp] theorem State.startRemote_seat (a b c : Byte) (v : Half) : (s.startRemote a b c v).seat = s.seat := by
  simp [State.startRemote]
@[simp] theorem State.silence_seat : s.silence.seat = s.seat := by
  unfold State.silence; dsimp only; split <;> simp
@[simp] theorem State.requestRestart_seat : s.requestRestart.seat = s.seat := by
  unfold State.requestRestart; split <;> simp

/-! ## The rail channel -/

@[simp] theorem State.abandon_seat (c : Counter) : (s.abandon c).seat = s.seat := by simp [State.abandon]
@[simp] theorem State.gapIfDue_seat : s.gapIfDue.seat = s.seat := by
  unfold State.gapIfDue; (repeat' split) <;> simp
@[simp] theorem State.takeStartMark_seat (a b : Nat) : (s.takeStartMark a b).seat = s.seat := by simp [State.takeStartMark]
@[simp] theorem State.giveUpEntry_seat (e : QEntry) : (s.giveUpEntry e).seat = s.seat := by simp [State.giveUpEntry]
@[simp] theorem State.clash_seat (x : Sending) : (s.clash x).seat = s.seat := by
  unfold State.clash; dsimp only; split <;> simp
@[simp] theorem State.compareSent_seat (x : Sending) (d : Byte) (b : Bool) : (s.compareSent x d b).seat = s.seat := by
  unfold State.compareSent; (repeat' split) <;> simp
@[simp] theorem State.beginSending_seat (e : QEntry) (l : List QEntry) : (s.beginSending e l).seat = s.seat := by
  simp [State.beginSending]
@[simp] theorem State.dropHead_seat : s.dropHead.seat = s.seat := by
  unfold State.dropHead; split <;> simp

/-! ## Supply and loads -/

@[simp] theorem State.announceOffer_seat : s.announceOffer.seat = s.seat := by
  unfold State.announceOffer; split <;> simp
@[simp] theorem State.announceClaim_seat : s.announceClaim.seat = s.seat := by
  unfold State.announceClaim; split <;> simp
@[simp] theorem State.runAllowances_seat : s.runAllowances.seat = s.seat := by
  rw [State.runAllowances_eq]; split <;> simp
@[simp] theorem State.checkSupply_seat : s.checkSupply.seat = s.seat := by rw [State.checkSupply_eq]; simp
@[simp] theorem State.handLevels_seat (l : Levels) : (s.handLevels l).seat = s.seat := by
  rw [State.handLevels_eq]; split <;> simp
@[simp] theorem State.plan_seat : s.plan.seat = s.seat := by
  unfold State.plan; split <;> simp
@[simp] theorem State.syncAudioPower_seat : s.syncAudioPower.seat = s.seat := by
  rw [State.syncAudioPower_eq]; (repeat' split) <;> simp
@[simp] theorem State.beginTrip_seat (d : Nat) (b : Bool) : (s.beginTrip d b).seat = s.seat := by simp [State.beginTrip]
@[simp] theorem State.raiseLoad_seat (k : Load) : (s.raiseLoad k).seat = s.seat := by
  unfold State.raiseLoad; dsimp only; split <;> simp
@[simp] theorem State.judgeDroop_seat (b : Bool) : (s.judgeDroop b).seat = s.seat := by
  unfold State.judgeDroop; dsimp only; split <;> simp
@[simp] theorem State.judgeCritical_seat (n : Nat) : (s.judgeCritical n).seat = s.seat := by
  unfold State.judgeCritical; split <;> simp
@[simp] theorem State.noteOverdraw_seat (n : Nat) : (s.noteOverdraw n).seat = s.seat := by
  unfold State.noteOverdraw; (repeat' split) <;> simp
@[simp] theorem State.trip_seat (d : Nat) : (s.trip d).seat = s.seat := by
  unfold State.trip; dsimp only; split <;> simp
@[simp] theorem State.measureCurrent_seat (n : Nat) : (s.measureCurrent n).seat = s.seat := by
  unfold State.measureCurrent; dsimp only; (repeat' split) <;> simp

/-! ## Lanes and slices -/

@[simp] theorem State.feedSlice_seat : s.feedSlice.seat = s.seat := by
  unfold State.feedSlice; (repeat' split) <;> simp
@[simp] theorem State.feedSlices_seat : s.feedSlices.seat = s.seat := by simp [State.feedSlices]
@[simp] theorem State.syncSchedule_seat : s.syncSchedule.seat = s.seat := by
  rw [State.syncSchedule_eq]; split <;> simp
@[simp] theorem State.refuseSlice_seat (b : Byte) (c : Counter) : (s.refuseSlice b c).seat = s.seat := by
  simp [State.refuseSlice]
@[simp] theorem State.acceptSlice_seat (a : Anchor) (n k : Nat) (b : List Byte) : (s.acceptSlice a n k b).seat = s.seat := by
  unfold State.acceptSlice; dsimp only; split <;> simp
@[simp] theorem State.judgeSlice_seat (a : Anchor) (g : Grade) (k : Nat) (b : List Byte) :
    (s.judgeSlice a g k b).seat = s.seat := by unfold State.judgeSlice; (repeat' split) <;> simp
@[simp] theorem State.submitSlice_seat (st : Bool) (k : Nat) (b : List Byte) : (s.submitSlice st k b).seat = s.seat := by
  unfold State.submitSlice; dsimp only; (repeat' split) <;> simp
@[simp] theorem State.sliceArrives_seat (f : Half) (k pt : Nat) (b : List Byte) :
    (s.sliceArrives f k pt b).seat = s.seat := by unfold State.sliceArrives; dsimp only; (repeat' split) <;> simp
@[simp] theorem State.freePassedOver_seat (n : Half) (k : Nat) : (s.freePassedOver n k).seat = s.seat := by
  unfold State.freePassedOver; dsimp only; (repeat' split) <;> simp
@[simp] theorem State.showAgain_seat (n : Half) (k t : Nat) : (s.showAgain n k t).seat = s.seat := by
  unfold State.showAgain; dsimp only; (repeat' split) <;> simp
@[simp] theorem State.showIndex_seat (n : Half) (k t : Nat) : (s.showIndex n k t).seat = s.seat := by
  unfold State.showIndex; dsimp only; (repeat' split) <;> simp
@[simp] theorem State.makeFrameShown_seat (n t r : Nat) : (s.makeFrameShown n t r).seat = s.seat := by
  unfold State.makeFrameShown; split <;> simp
@[simp] theorem State.nextScan_seat (a n k : Nat) : (s.nextScan a n k).seat = s.seat := by
  unfold State.nextScan; dsimp only; split <;> simp
@[simp] theorem State.scanIndex_seat (a : Nat) : (s.scanIndex a).seat = s.seat := by simp [State.scanIndex]
@[simp] theorem State.scanStep_seat (n : Nat) : (s.scanStep n).seat = s.seat := by
  unfold State.scanStep; dsimp only; (repeat' split) <;> simp
@[simp] theorem State.frameShownArrives_seat (r : FrameShown) : (s.frameShownArrives r).seat = s.seat := rfl
@[simp] theorem State.forwardPacket_seat (l : Lane) (p : Packet) : (s.forwardPacket l p).seat = s.seat := by
  unfold State.forwardPacket; split <;> simp

/-! ## Motion -/

@[simp] theorem State.noteRange_seat (r : MotionRecord) : (s.noteRange r).seat = s.seat := by
  unfold State.noteRange; split <;> simp
@[simp] theorem State.countReplaced_seat (l : Lane) (k : PacketKind) (c : Counter) :
    (s.countReplaced l k c).seat = s.seat := by unfold State.countReplaced; split <;> simp
@[simp] theorem State.carryRecord_seat (r : MotionRecord) : (s.carryRecord r).seat = s.seat := by
  unfold State.carryRecord; dsimp only; split <;> simp
@[simp] theorem State.endRead_seat : s.endRead.seat = s.seat := by
  unfold State.endRead; dsimp only; split <;> simp
@[simp] theorem State.completeRead_seat (r : SensorRead) (a : Axes) : (s.completeRead r a).seat = s.seat := by
  simp [State.completeRead]
@[simp] theorem State.queueRecord_seat (r : MotionRecord) : (s.queueRecord r).seat = s.seat := by
  unfold State.queueRecord; dsimp only; split <;> simp
@[simp] theorem State.emptyMotionQueue_seat : s.emptyMotionQueue.seat = s.seat := by
  unfold State.emptyMotionQueue; dsimp only; split <;> simp
@[simp] theorem State.recordArrives_seat (r : MotionRecord) : (s.recordArrives r).seat = s.seat := by
  unfold State.recordArrives; (repeat' split) <;> simp
@[simp] theorem State.offerFallback_seat : s.offerFallback.seat = s.seat := by
  unfold State.offerFallback; (repeat' split) <;> simp

/-! ## Audio -/

@[simp] theorem State.closePlayBlock_seat (l : List (Half × Half)) : (s.closePlayBlock l).seat = s.seat := by
  unfold State.closePlayBlock; dsimp only; split <;> simp
@[simp] theorem State.enterPlaying_seat : s.enterPlaying.seat = s.seat := rfl
@[simp] theorem State.startIfDue_seat : s.startIfDue.seat = s.seat := by
  unfold State.startIfDue; (repeat' split) <;> simp
@[simp] theorem State.judgeHead_seat : s.judgeHead.seat = s.seat := by
  unfold State.judgeHead; dsimp only; split <;> simp
@[simp] theorem State.audioArrives_seat (q : Half) (t : Nat) (l : List (Half × Half)) :
    (s.audioArrives q t l).seat = s.seat := by unfold State.audioArrives; dsimp only; (repeat' split) <;> simp
@[simp] theorem State.keepLastFrame_seat : s.keepLastFrame.seat = s.seat := by
  unfold State.keepLastFrame; split <;> simp
@[simp] theorem State.enterRamping_seat : s.enterRamping.seat = s.seat := by simp [State.enterRamping]
@[simp] theorem State.removeHeadFrame_seat : s.removeHeadFrame.seat = s.seat := by
  unfold State.removeHeadFrame; (repeat' split) <;> simp
@[simp] theorem State.playFrame_seat (f : Half × Half) : (s.playFrame f).seat = s.seat := by
  unfold State.playFrame; dsimp only; split <;> simp
@[simp] theorem State.rampPeriod_seat (n : Nat) : (s.rampPeriod n).seat = s.seat := by
  unfold State.rampPeriod; dsimp only; split <;> simp
@[simp] theorem State.outputPeriod_seat : s.outputPeriod.seat = s.seat := by
  unfold State.outputPeriod; (repeat' split) <;> simp
@[simp] theorem State.slip_seat : s.slip.seat = s.seat := by
  unfold State.slip; (repeat' split) <;> simp
@[simp] theorem State.audioStep_seat : s.audioStep.seat = s.seat := by
  unfold State.audioStep; (repeat' split) <;> simp
@[simp] theorem State.closeMicBlock_seat (t : Nat) (l : List Half) : (s.closeMicBlock t l).seat = s.seat := by
  unfold State.closeMicBlock; dsimp only; split <;> simp
@[simp] theorem State.captureSample_seat (v : Half) : (s.captureSample v).seat = s.seat := by
  unfold State.captureSample; dsimp only; (repeat' split) <;> simp
@[simp] theorem State.micArrives_seat (t : Nat) (l : List Half) : (s.micArrives t l).seat = s.seat := by
  unfold State.micArrives; dsimp only; split <;> simp

/-! ## Packets and the clock -/

@[simp] theorem State.packetArrives_seat (k : PacketKind) (b : List Byte) : (s.packetArrives k b).seat = s.seat := by
  unfold State.packetArrives; dsimp only; split <;> simp
@[simp] theorem State.takePacket_seat (l : Lane) (b : List Byte) : (s.takePacket l b).seat = s.seat := by
  unfold State.takePacket; (repeat' split) <;> simp
@[simp] theorem State.restartDoze_seat (l : Lane) : (s.restartDoze l).seat = s.seat := by
  unfold State.restartDoze; split <;> simp
@[simp] theorem State.countSent_seat (l : Lane) (k : PacketKind) : (s.countSent l k).seat = s.seat := by
  unfold State.countSent; dsimp only; (repeat' split) <;> simp
@[simp] theorem State.freeTransmitter_seat (l : Lane) : (s.freeTransmitter l).seat = s.seat := by
  unfold State.freeTransmitter; dsimp only; split <;> simp
@[simp] theorem State.stepClock_seat (n : Nat) : (s.stepClock n).seat = s.seat := by
  unfold State.stepClock; dsimp only; split <;> simp
@[simp] theorem State.clockHears_seat (a b : Nat) : (s.clockHears a b).seat = s.seat := by
  unfold State.clockHears; dsimp only; (repeat' split) <;> simp

end

end Sys2Proof.Machine
end

section
/-! SUPPORT. What every command but a full reset keeps: the straps, the items where it may not write them, the direction and the ranges of
both clocks, and the form of the roster. Operation by operation here, for those of the path of power and agreement and what is put
together from them. -/

namespace Sys2Proof.Machine

variable {s t : State}

/-! ## The self entry (R40, R108) -/

/-- The part of the roster's form that the self entry carries. -/
structure State.SelfSound (s : State) : Prop where
  addr  : s.roster.self.addr = s.straps.addr
  role  : s.roster.self.role = some s.straps.role
  heard : s.roster.self.lastHeard = none
  round : s.agree.listened = false → ∀ m, s.roster.self.modeSet = some m → m.round = s.agree.round

theorem State.RosterSound.selfSound (h : s.RosterSound) : s.SelfSound := ⟨h.self.1, h.self.2.1, h.self.2.2, h.round⟩

/-- The peers' part of the form depends on the peers and the own address alone. -/
theorem State.RosterSound.of_peers (h : s.RosterSound) (hs : t.straps = s.straps) (hp : t.roster.peers = s.roster.peers)
    (ht : t.SelfSound) : t.RosterSound where
  rising := hp ▸ h.rising
  count := hp ▸ h.count
  others := by rw [hp, hs]; exact h.others
  heard := hp ▸ h.heard
  self := ⟨ht.addr, ht.role, ht.heard⟩
  round := ht.round

namespace State.SelfSound

theorem same (h : s.SelfSound) (hc : t.core = s.core) (hs : t.seat = s.seat) : t.SelfSound := by
  have hst := straps_of_core hc
  have hr := roster_of_seat hs
  have ha := agree_of_seat hs
  exact ⟨by rw [hr, hst]; exact h.addr, by rw [hr, hst]; exact h.role, by rw [hr]; exact h.heard,
    by rw [hr, ha]; exact h.round⟩

/-- A rewriting of the self entry that keeps its address, role and last-heard value, and the round of its mode set. -/
theorem mapSelf (h : s.SelfSound) {f : Entry → Entry} (ha : (f s.roster.self).addr = s.roster.self.addr)
    (hr : (f s.roster.self).role = s.roster.self.role) (hl : (f s.roster.self).lastHeard = s.roster.self.lastHeard)
    (hm : s.agree.listened = false → ∀ m, (f s.roster.self).modeSet = some m → m.round = s.agree.round) :
    (s.mapSelf f).SelfSound :=
  ⟨ha.trans h.addr, hr.trans h.role, hl.trans h.heard, hm⟩

/-- A change of the controller that leaves its round and whether LISTEN has been entered. -/
theorem withAgree (h : s.SelfSound) {a : Agree} (hr : a.round = s.agree.round) (hl : a.listened = s.agree.listened) :
    State.SelfSound { s with agree := a } :=
  ⟨h.addr, h.role, h.heard, fun ha m hm => (h.round (hl.symm.trans ha) m hm).trans hr.symm⟩

theorem plan (h : s.SelfSound) : s.plan.SelfSound := h.same (by simp) (by simp)

theorem writeSummary (h : s.SelfSound) : s.writeSummary.SelfSound := h.mapSelf rfl rfl rfl h.round

theorem tellDataBlocks (h : s.SelfSound) (b : Bool) : (s.tellDataBlocks b).SelfSound :=
  h.same (by simp) (by rw [State.seat, State.tellDataBlocks_roster, State.tellDataBlocks_agree, seat_eta])

theorem changeAgree (h : s.SelfSound) (st : AgreeState) (g : Option Grade) (r : Reason) : (s.changeAgree st g r).SelfSound := by
  refine SelfSound.tellDataBlocks (SelfSound.plan (SelfSound.writeSummary (SelfSound.same ?_ (State.orderLanes_core _) ?_))) _
  · exact h.withAgree (a := { s.agree with
      state := st, chosen := g, reason := r, stepFrom := if st.timed then some s.clock.now else none }) rfl rfl
  · rfl

theorem halt (h : s.SelfSound) (r : Reason) : (s.halt r).SelfSound := h.changeAgree _ _ _
theorem enterSettle (h : s.SelfSound) (r : Reason) : (s.enterSettle r).SelfSound := h.changeAgree _ _ _
theorem enterTraining (h : s.SelfSound) : s.enterTraining.SelfSound := h.changeAgree _ _ _

/-- The changed round goes into the own mode set too until LISTEN has been entered (R108). -/
theorem setRound (h : s.SelfSound) (r : Half) : (s.setRound r).SelfSound := by
  cases hl : s.agree.listened with
  | true =>
    have hself : (s.setRound r).roster.self = s.roster.self := by simp [State.setRound_roster_self, hl]
    exact ⟨by rw [hself]; exact h.addr, by rw [hself]; exact h.role, by rw [hself]; exact h.heard,
      fun hn => absurd (hl.symm.trans hn) (by decide)⟩
  | false =>
    have hself : (s.setRound r).roster.self = s.roster.self.withRound r := by simp [State.setRound_roster_self, hl]
    refine ⟨by rw [hself]; exact h.addr, by rw [hself]; exact h.role, by rw [hself]; exact h.heard, fun _ m hm => ?_⟩
    rw [hself] at hm
    obtain ⟨m', _, rfl⟩ := Option.map_eq_some_iff.1 hm
    rfl

theorem openRound (h : s.SelfSound) (r : Reason) : (s.openRound r).SelfSound := by
  unfold State.openRound; (repeat' split)
  · exact h.halt _
  · exact h.halt _
  · exact (h.setRound _).enterSettle _

theorem pathChanged (h : s.SelfSound) : s.pathChanged.SelfSound := by
  unfold State.pathChanged; split
  · exact h.openRound _
  · exact h

theorem ownSetChanged (h : s.SelfSound) : s.ownSetChanged.SelfSound := by
  unfold State.ownSetChanged; (repeat' split)
  · exact h.halt _
  · exact h.openRound _
  · exact h

/-- A new mode set takes the round of the one it replaces, or the controller's. -/
theorem writeModeSet (h : s.SelfSound) (l : List Grade) (c : Grade) : (s.writeModeSet l c).SelfSound := by
  refine SelfSound.mapSelf (s := { s with power := { s.power with modeSet := l, modeCeiling := c } }) (h.same rfl rfl)
    rfl rfl rfl (fun hl m hm => ?_)
  obtain rfl := Option.some.inj hm
  dsimp only
  split
  · next m' hm' => exact h.round hl m' hm'
  · rfl

theorem handModeSet (h : s.SelfSound) (q : Bool) (l : List Grade) (c : Grade) : (s.handModeSet q l c).SelfSound := by
  unfold State.handModeSet; split
  · exact h.writeModeSet _ _
  · exact (h.writeModeSet _ _).ownSetChanged

theorem setAnchor (h : s.SelfSound) : s.setAnchor.SelfSound := by
  unfold State.setAnchor; split
  · exact ⟨h.addr, h.role, h.heard, h.round⟩
  · exact h

theorem enterRunning (h : s.SelfSound) : s.enterRunning.SelfSound := by
  have key : ∀ u : State, u.SelfSound → (({ u with agree := { u.agree with
      failures := 0, laneFaults := 0, lastRun := u.agree.chosen } } : State).changeAgree .running u.agree.chosen
        u.agree.reason).setAnchor.SelfSound := fun u hu =>
    setAnchor (changeAgree (hu.withAgree (a := { u.agree with failures := 0, laneFaults := 0, lastRun := u.agree.chosen })
      rfl rfl) _ _ _)
  unfold State.enterRunning; dsimp only; split
  · exact key s h
  · exact key (s.raise .modeChanged) (h.same rfl rfl)

theorem handIfChanged (h : s.SelfSound) (q : Bool) (l : List Grade) (c : Grade) : (s.handIfChanged q l c).SelfSound := by
  unfold State.handIfChanged; split
  · exact h
  · exact h.handModeSet _ _ _

theorem handCap (h : s.SelfSound) (c : Nat) : (s.handCap c).SelfSound := by
  unfold State.handCap; split
  · exact h
  · exact SelfSound.plan (h.same rfl rfl)

theorem formModeSet (h : s.SelfSound) (q : Bool) : (s.formModeSet q).SelfSound := by
  unfold State.formModeSet; split
  · exact h.handIfChanged _ _ _
  · exact h
  · have hp : State.SelfSound { s with
        power := s.power.stepDelays s.role s.effectiveCap s.effectiveCeiling s.clock.now } := h.same rfl rfl
    exact hp.handIfChanged _ _ _

theorem formCap (h : s.SelfSound) : s.formCap.SelfSound := by
  unfold State.formCap; split
  · exact (h.handCap s.effectiveCap).same (by simp) (by simp)
  · exact h

theorem reform (h : s.SelfSound) : s.reform.SelfSound := (h.formModeSet _).formCap

theorem powerTold (h : s.SelfSound) : s.powerTold.SelfSound :=
  SelfSound.reform (h.same (by simp) (by simp))

theorem settleOffer (h : s.SelfSound) : s.settleOffer.SelfSound := by
  unfold State.settleOffer; split
  · exact h
  · exact SelfSound.powerTold (SelfSound.same
      (SelfSound.mapSelf (f := fun e => { e with offer := s.ownOffer }) h rfl rfl rfl h.round) (by simp) (by simp))

theorem settleClaimList (h : s.SelfSound) : s.settleClaimList.SelfSound := by
  unfold State.settleClaimList; split
  · exact h
  · exact SelfSound.same (SelfSound.mapSelf (f := fun e => { e with claim := s.ownClaim }) h rfl rfl rfl h.round)
      (by simp) (by simp)

theorem settleClaim (h : s.SelfSound) : s.settleClaim.SelfSound := h.settleClaimList.reform

/-! ## Rounds -/

theorem failRound (h : s.SelfSound) (r : Reason) : (s.failRound r).SelfSound := ((h.formModeSet _).openRound _).formCap

theorem setBaseForced (h : s.SelfSound) : s.setBaseForced.SelfSound := ⟨h.addr, h.role, h.heard, h.round⟩

theorem confirmFailure (h : s.SelfSound) : s.confirmFailure.SelfSound := by
  unfold State.confirmFailure; split
  · exact h.setBaseForced.failRound _
  · exact SelfSound.openRound (SelfSound.withAgree h (a := { s.agree with failures := s.agree.failures + 1 }) rfl rfl) _

theorem lowerCeiling (h : s.SelfSound) : s.lowerCeiling.SelfSound := by
  unfold State.lowerCeiling; (repeat' split)
  · exact h
  · exact h
  · exact SelfSound.settleClaimList (SelfSound.withAgree h rfl rfl)

theorem trainingFailure (h : s.SelfSound) : s.trainingFailure.SelfSound := by
  have hcounted : State.SelfSound { (s.bump cLaneFault).raise .laneFault with
      agree := { s.agree with laneFaults := saturate (s.agree.laneFaults + 1) } } :=
    SelfSound.withAgree (s := (s.bump cLaneFault).raise .laneFault) (h.same rfl rfl) rfl rfl
  unfold State.trainingFailure; dsimp only; split
  · exact (SelfSound.lowerCeiling hcounted).failRound _
  · exact SelfSound.failRound hcounted _

theorem judgeConfirms (h : s.SelfSound) : s.judgeConfirms.SelfSound := by
  unfold State.judgeConfirms; dsimp only; (repeat' split)
  · exact h.confirmFailure
  · exact h.enterTraining
  · exact h

theorem enterConfirming (h : s.SelfSound) (g : Grade) : (s.enterConfirming g).SelfSound := by
  have hc := h.changeAgree .confirming (some g) s.agree.reason
  exact judgeConfirms (SelfSound.same (hc.mapSelf (f := fun e => { e with confirm := some ⟨s.agree.round, gradeCode g⟩ })
    rfl rfl rfl hc.round) (by simp) (by simp))

theorem choose (h : s.SelfSound) : s.choose.SelfSound := by
  unfold State.choose; (repeat' split)
  · exact h.halt _
  · exact h.halt _
  · exact h.enterConfirming _

theorem writeRound (h : s.SelfSound) : s.writeRound.SelfSound := by
  refine h.mapSelf rfl rfl rfl (fun _ m hm => ?_)
  obtain ⟨m', _, rfl⟩ := Option.map_eq_some_iff.1 hm
  rfl

theorem noteListened (h : s.SelfSound) : s.noteListened.SelfSound :=
  ⟨h.addr, h.role, h.heard, fun hn => absurd hn (by simp [State.noteListened])⟩

theorem startListen (h : s.SelfSound) : s.startListen.SelfSound :=
  SelfSound.same (h.noteListened.changeAgree .listen none s.agree.reason).writeRound (by simp [State.startListen]) (by simp [State.startListen])

theorem enterListen (h : s.SelfSound) : s.enterListen.SelfSound := by
  unfold State.enterListen; split
  · exact h.startListen.choose
  · exact h.startListen

theorem takeStepDue (h : s.SelfSound) : s.takeStepDue.SelfSound := by
  unfold State.takeStepDue; (repeat' split)
  · exact h.enterListen
  · exact h
  · exact h.choose
  · exact h
  · exact h.confirmFailure
  · exact h
  · exact h

theorem endBaseForced (h : s.SelfSound) : s.endBaseForced.SelfSound := by
  unfold State.endBaseForced; dsimp only; split
  · exact SelfSound.reform (SelfSound.withAgree h rfl rfl)
  · exact h.takeStepDue

theorem adopt (h : s.SelfSound) (r : Half) : (s.adopt r).SelfSound := by
  unfold State.adopt; dsimp only; (repeat' split)
  · exact h.setRound r
  · exact (h.setRound r).halt _
  · exact (h.setRound r).enterSettle _

theorem roundHeard (h : s.SelfSound) (b : Bool) (r : Half) : (s.roundHeard b r).SelfSound := by
  unfold State.roundHeard; (repeat' split)
  · exact h
  · exact h.adopt r
  · exact h
  · exact h.choose
  · exact h
  · exact h.judgeConfirms
  · exact h

theorem receiverReported (h : s.SelfSound) : s.receiverReported.SelfSound := by
  unfold State.receiverReported; (repeat' split)
  · exact h.enterRunning
  · exact h
  · exact h
  · exact h.openRound _
  · exact h

end State.SelfSound

end Sys2Proof.Machine
end

section
/-! SUPPORT. The roster's list of peers: an entry put in its place by address, what an update and a removal leave, and that every burst
heard keeps the roster's form (R33 to R39). -/

namespace Sys2Proof.Machine

variable {s t : State}

/-! ## An entry put in its place (R33) -/

theorem mem_putEntry {e x : Entry} {l : List Entry} (h : x ∈ putEntry e l) : x = e ∨ x ∈ l := by
  induction l with
  | nil => exact .inl (List.mem_singleton.1 h)
  | cons y rest ih =>
    unfold putEntry at h
    split at h
    · exact List.mem_cons.1 h
    · split at h
      · exact (List.mem_cons.1 h).imp_right (List.mem_cons_of_mem y)
      · rcases List.mem_cons.1 h with rfl | h
        · exact .inr (List.mem_cons_self ..)
        · exact (ih h).imp_right (List.mem_cons_of_mem y)

theorem putEntry_rising {e : Entry} {l : List Entry} (h : l.Pairwise (fun a b => a.addr.toNat < b.addr.toNat)) :
    (putEntry e l).Pairwise (fun a b => a.addr.toNat < b.addr.toNat) := by
  induction l with
  | nil => exact List.pairwise_singleton _ _
  | cons y rest ih =>
    obtain ⟨hy, hrest⟩ := List.pairwise_cons.1 h
    unfold putEntry
    split
    · next hlt =>
      refine List.pairwise_cons.2 ⟨fun x hx => ?_, h⟩
      rcases List.mem_cons.1 hx with rfl | hx
      · exact hlt
      · exact hlt.trans (hy x hx)
    · next hge =>
      split
      · next heq => exact List.pairwise_cons.2 ⟨fun x hx => by rw [heq]; exact hy x hx, hrest⟩
      · next hne =>
        refine List.pairwise_cons.2 ⟨fun x hx => ?_, ih hrest⟩
        rcases mem_putEntry hx with rfl | hx
        · have : x.addr.toNat ≠ y.addr.toNat := fun hn => hne (BitVec.eq_of_toNat_eq hn)
          omega
        · exact hy x hx

theorem putEntry_length_le (e : Entry) (l : List Entry) : (putEntry e l).length ≤ l.length + 1 := by
  induction l with
  | nil => simp [putEntry]
  | cons y rest ih =>
    unfold putEntry
    split
    · simp
    · split
      · simp
      · simpa using ih

/-- An entry of an address that the list holds takes the old one's place. -/
theorem putEntry_length {e x : Entry} {l : List Entry} (h : l.Pairwise (fun a b => a.addr.toNat < b.addr.toNat)) (hx : x ∈ l)
    (ha : x.addr = e.addr) : (putEntry e l).length = l.length := by
  induction l with
  | nil => cases hx
  | cons y rest ih =>
    obtain ⟨hy, hrest⟩ := List.pairwise_cons.1 h
    unfold putEntry
    rcases List.mem_cons.1 hx with rfl | hx
    · simp [ha]
    · have hlt : y.addr.toNat < e.addr.toNat := ha ▸ hy x hx
      have hne : e.addr ≠ y.addr := fun hn => absurd hlt (by rw [hn]; exact lt_irrefl _)
      simp [Nat.not_lt.2 hlt.le, hne, ih hrest hx]

/-- The entry put is the one found at its address, and every other address finds what it found. -/
theorem find_putEntry (e : Entry) (l : List Entry) (a : Addr) :
    (putEntry e l).find? (fun x => x.addr == a) = if a = e.addr then some e else l.find? (fun x => x.addr == a) := by
  induction l with
  | nil =>
    by_cases h : a = e.addr
    · simp [putEntry, h]
    · simp [putEntry, h, Ne.symm h]
  | cons y rest ih =>
    by_cases h : a = e.addr
    · subst h
      unfold putEntry
      split
      · simp
      · split
        · simp
        · next hne => simp [Ne.symm hne, ih]
    · unfold putEntry
      split
      · simp [Ne.symm h]
      · split
        · next heq => simp [Ne.symm h, ← heq]
        · simp only [List.find?_cons, ih, h, if_false]

theorem find_filter_self (l : List Entry) (a : Addr) : (l.filter (fun x => x.addr != a)).find? (fun x => x.addr == a) = none := by
  rw [List.find?_eq_none]
  intro x hx
  simpa using (List.mem_filter.1 hx).2

@[simp] theorem Entry.setRole_addr (r : Role) (e : Entry) : (e.setRole r).addr = e.addr := rfl
@[simp] theorem Entry.setRole_lastHeard (r : Role) (e : Entry) : (e.setRole r).lastHeard = e.lastHeard := rfl

/-- What a burst carries changes neither the address nor the last-heard value of its entry. -/
theorem Entry.take_frame (h : Heard) (e : Entry) : (Entry.take h e).addr = e.addr ∧ (Entry.take h e).lastHeard = e.lastHeard := by
  unfold Entry.take Entry.takeBeacon
  dsimp only
  (repeat' split) <;> exact ⟨rfl, rfl⟩

@[simp] theorem Entry.take_addr (h : Heard) (e : Entry) : (Entry.take h e).addr = e.addr := (Entry.take_frame h e).1
@[simp] theorem Entry.take_lastHeard (h : Heard) (e : Entry) : (Entry.take h e).lastHeard = e.lastHeard := (Entry.take_frame h e).2

/-- The sender's entry after a burst, from the one it had, if any (R35, R36). -/
def Heard.entry (h : Heard) (old : Option Entry) : Entry :=
  Entry.take h { old.getD (newEntry h.sender) with lastHeard := some h.local' }

theorem Heard.entry_addr (h : Heard) (old : Option Entry) : (h.entry old).addr = (old.getD (newEntry h.sender)).addr :=
  Entry.take_addr h _

theorem Heard.entry_heard (h : Heard) (old : Option Entry) : (h.entry old).lastHeard.isSome := by
  simp [Heard.entry]

theorem State.updateEntry_eq (s : State) (h : Heard) (old : Option Entry) : s.updateEntry h old =
    ((s.setPeers (putEntry (h.entry old) s.roster.peers)).tellChange old (some (h.entry old))).tellRound h (h.entry old) := by
  cases old <;> rfl

/-! ## What a change is told to (R37) -/

@[simp] theorem State.syncSchedule_beyond (s : State) : s.syncSchedule.beyond = s.beyond := by
  rw [State.syncSchedule_eq]; split <;> simp
@[simp] theorem State.tellPower_beyond (s : State) (b : Bool) : (s.tellPower b).beyond = s.beyond := by
  unfold State.tellPower; split <;> simp
@[simp] theorem State.tellPath_beyond (s : State) (b : Bool) : (s.tellPath b).beyond = s.beyond := by
  unfold State.tellPath; split <;> simp
@[simp] theorem State.tellChange_beyond (s : State) (o n : Option Entry) : (s.tellChange o n).beyond = s.beyond := by
  simp [State.tellChange]
@[simp] theorem State.tellRound_beyond (s : State) (h : Heard) (e : Entry) : (s.tellRound h e).beyond = s.beyond := by
  unfold State.tellRound; (repeat' split) <;> simp

namespace State.SelfSound

theorem tellChange (h : s.SelfSound) (o n : Option Entry) : (s.tellChange o n).SelfSound := by
  have hpower : ∀ b, (s.tellPower b).SelfSound := fun b => by
    unfold State.tellPower; split
    · exact h.powerTold
    · exact h
  have hpath : ∀ b c, ((s.tellPower b).tellPath c).SelfSound := fun b c => by
    unfold State.tellPath; split
    · exact (hpower b).pathChanged
    · exact hpower b
  exact SelfSound.same (hpath (optionOffer o != optionOffer n || optionClaim o != optionClaim n) (optionOnPath o != optionOnPath n))
    (State.syncSchedule_core _) (State.syncSchedule_seat _)

theorem tellRound (h : s.SelfSound) (x : Heard) (e : Entry) : (s.tellRound x e).SelfSound := by
  unfold State.tellRound; (repeat' split)
  · exact h.roundHeard _ _
  · exact h
  · exact h.roundHeard _ _
  · exact h
  · exact h

end State.SelfSound

/-! ## The form of the roster -/

namespace State.RosterSound

/-- An operation of the path keeps the form where it keeps the self entry's part. -/
theorem path (h : s.RosterSound) (hb : t.beyond = s.beyond) (hs : s.SelfSound → t.SelfSound) : t.RosterSound :=
  h.of_peers (straps_of_core (core_of_beyond hb)) (peers_of_beyond hb) (hs h.selfSound)

theorem same (h : s.RosterSound) (hc : t.core = s.core) (hs : t.seat = s.seat) : t.RosterSound :=
  h.of_peers (straps_of_core hc) (by rw [roster_of_seat hs]) (h.selfSound.same hc hs)

theorem removeEntry (h : s.RosterSound) (e : Entry) : (s.removeEntry e).RosterSound := by
  have hsub : (s.roster.peers.filter (fun x => x.addr != e.addr)).Sublist s.roster.peers := List.filter_sublist
  have hu : ((s.setPeers (s.roster.peers.filter (fun x => x.addr != e.addr))).raise .peerLeft).RosterSound :=
    { rising := h.rising.sublist hsub
      count := hsub.length_le.trans h.count
      others := fun x hx => h.others x (hsub.subset hx)
      heard := fun x hx => h.heard x (hsub.subset hx)
      self := h.self
      round := h.round }
  exact hu.path (State.tellChange_beyond _ _ _) (fun hs => hs.tellChange _ _)

/-- An entry of a peer's address is put in its place, over one of its address or where there is room. -/
theorem setPeers (h : s.RosterSound) {e : Entry} (h0 : e.addr ≠ 0) (hown : e.addr ≠ s.straps.addr) (hl : e.lastHeard.isSome)
    (hroom : s.roster.peers.length < 6 ∨ ∃ x ∈ s.roster.peers, x.addr = e.addr) :
    (s.setPeers (putEntry e s.roster.peers)).RosterSound where
  rising := putEntry_rising h.rising
  count := by
    rcases hroom with hr | ⟨x, hx, ha⟩
    · exact (putEntry_length_le e _).trans hr
    · exact (putEntry_length h.rising hx ha).trans_le h.count
  others := fun x hx => by
    rcases mem_putEntry hx with rfl | hx
    · exact ⟨h0, hown⟩
    · exact h.others x hx
  heard := fun x hx => by
    rcases mem_putEntry hx with rfl | hx
    · exact hl
    · exact h.heard x hx
  self := h.self
  round := h.round

theorem find_mem {r : Roster} {a : Addr} {e : Entry} (h : r.find a = some e) : e ∈ r.peers ∧ e.addr = a :=
  ⟨List.mem_of_find?_eq_some h, by simpa using List.find?_some h⟩

theorem updateEntry (h : s.RosterSound) {x : Heard} (h0 : x.sender ≠ 0) (hown : x.sender ≠ s.straps.addr) {old : Option Entry}
    (hold : s.roster.find x.sender = old) (hroom : old = none → s.roster.peers.length < 6) :
    (s.updateEntry x old).RosterSound := by
  have haddr : (x.entry old).addr = x.sender := by
    cases old with
    | none => exact Heard.entry_addr x none
    | some e => exact (Heard.entry_addr x _).trans (find_mem hold).2
  have hpeer : s.roster.peers.length < 6 ∨ ∃ y ∈ s.roster.peers, y.addr = (x.entry old).addr := by
    cases old with
    | none => exact .inl (hroom rfl)
    | some e => exact .inr ⟨e, (find_mem hold).1, (Heard.entry_addr x (some e)).symm⟩
  have hu := h.setPeers (haddr ▸ h0) (haddr ▸ hown) (Heard.entry_heard x old) hpeer
  rw [State.updateEntry_eq]
  exact hu.path (by simp) (fun hs => (hs.tellChange _ _).tellRound _ _)

theorem rosterTakes (h : s.RosterSound) {x : Heard} (h0 : x.sender ≠ 0) (hown : x.sender ≠ s.straps.addr) :
    (s.rosterTakes x).RosterSound := by
  unfold State.rosterTakes
  dsimp only
  split
  · split
    · exact h.removeEntry _
    · exact h
  · split
    · next e he => exact h.updateEntry h0 hown he nofun
    · next hnone =>
      split
      · exact h
      · next hroom =>
        exact State.RosterSound.updateEntry (s := s.raise .peerJoined) (h.same rfl rfl) h0 hown hnone
          (fun _ => Nat.lt_of_not_le hroom)

theorem enterListenOnly (h : s.RosterSound) : s.enterListenOnly.RosterSound := by
  have hu : State.RosterSound { s with
      roster := { s.roster with join := .listenOnly, joinFrom := none, beaconFrom := none }
      power := { s.power with offerFrom := none, claimFrom := none } } := ⟨h.rising, h.count, h.others, h.heard, h.self, h.round⟩
  have hv := hu.same (State.silence_core _) (State.silence_seat _)
  unfold State.enterListenOnly
  dsimp only
  split
  · exact hv.path (by simp) (fun hs => hs.halt _)
  · exact hv

theorem clashFound (h : s.RosterSound) (f : Flag) : (s.clashFound f).RosterSound := by
  unfold State.clashFound; split
  · exact h.same rfl rfl
  · exact State.RosterSound.enterListenOnly (h.same rfl rfl)

theorem clockHears (h : s.RosterSound) (a b : Nat) : (s.clockHears a b).RosterSound :=
  h.of_peers (State.clockHears_straps a b) (by rw [roster_of_seat (State.clockHears_seat s a b)])
    (by
      have hseat := State.clockHears_seat s a b
      have hstraps := State.clockHears_straps (s := s) a b
      have hself := h.selfSound
      exact ⟨by rw [roster_of_seat hseat, hstraps]; exact hself.addr, by rw [roster_of_seat hseat, hstraps]; exact hself.role,
        by rw [roster_of_seat hseat]; exact hself.heard, by rw [roster_of_seat hseat, agree_of_seat hseat]; exact hself.round⟩)

theorem rosterHears (h : s.RosterSound) (x : Heard) : (s.rosterHears x).RosterSound := by
  unfold State.rosterHears
  dsimp only
  split
  · exact h.clashFound _
  · next hown =>
    have h1 : (if s.roleClash x then s.clashFound .roleClash else s).RosterSound := by
      split
      · exact h.clashFound _
      · exact h
    have hstraps : (if s.roleClash x then s.clashFound .roleClash else s).straps = s.straps := by
      split
      · exact State.clashFound_straps _
      · rfl
    split
    · exact h1
    · next h0 =>
      have hne : x.sender ≠ s.straps.addr := fun ha => hown (decide_eq_true ⟨h0, ha⟩)
      have h2 := h1.rosterTakes h0 (by rw [hstraps]; exact hne)
      split
      · exact h2.clockHears _ _
      · exact h2

end State.RosterSound

end Sys2Proof.Machine
end

section
/-! SUPPORT. What a command keeps, from the state before it to the state after it: the straps; the items, unless it is free to write them;
both clocks go on and stay in their ranges; the roster keeps its form. Every command but a full reset keeps all of it. -/

namespace Sys2Proof.Machine

open Host (Outcome)

/-- Neither clock runs back, and a clock in its ranges stays in them (R45, R47, R48). -/
def Clock.RunsOn (c d : Clock) : Prop := c.Bounded → d.Bounded ∧ c.now ≤ d.now ∧ c.tether ≤ d.tether

structure State.Keeps (free : Prop) (s t : State) : Prop where
  straps : t.straps = s.straps
  items  : ¬ free → t.items = s.items
  clock  : s.clock.RunsOn t.clock
  roster : s.RosterSound → t.RosterSound

theorem Clock.RunsOn.refl (c : Clock) : c.RunsOn c := fun h => ⟨h, le_rfl, le_rfl⟩

theorem Clock.RunsOn.trans {c d e : Clock} (h : c.RunsOn d) (h' : d.RunsOn e) : c.RunsOn e := fun hc =>
  have ⟨hd, hnow, htether⟩ := h hc
  have ⟨he, hnow', htether'⟩ := h' hd
  ⟨he, hnow.trans hnow', htether.trans htether'⟩

/-- A tether clock moved on by `m`, holding at its end, with a slew in its range. -/
theorem Clock.RunsOn.on (c : Clock) (n m slew : Nat) (slewFrom : Nat) (hslew : c.slew ≤ 63 → slew ≤ 63) :
    c.RunsOn ⟨c.now + n, min (c.tether + m) tetherMax, slew, slewFrom⟩ := fun hc =>
  ⟨⟨Nat.min_le_right _ _, hslew hc.slew⟩, Nat.le_add_right _ _, Nat.le_min.2 ⟨Nat.le_add_right _ _, hc.tether⟩⟩

variable {free : Prop} {s₀ s t : State}

theorem State.clashFound_items (f : Flag) : (s.clashFound f).items = s.items := by
  have hsilent : ∀ u : State, u.silence.items = u.items := fun u => items_of_core u.silence_core
  unfold State.clashFound State.enterListenOnly
  dsimp only
  (repeat' split)
  · rfl
  · rw [items_of_core (State.halt_core _ _), hsilent]; rfl
  · rw [hsilent]; rfl

theorem State.clashFound_clock (f : Flag) : (s.clashFound f).clock = s.clock := by
  have hsilent : ∀ u : State, u.silence.clock = u.clock := fun u => clock_of_core u.silence_core
  unfold State.clashFound State.enterListenOnly
  dsimp only
  (repeat' split)
  · rfl
  · rw [clock_of_core (State.halt_core _ _), hsilent]; rfl
  · rw [hsilent]; rfl

namespace State.Keeps

theorem refl (s : State) : s.Keeps free s := ⟨rfl, fun _ => rfl, .refl _, id⟩

theorem trans (h : s₀.Keeps free s) (h' : s.Keeps free t) : s₀.Keeps free t where
  straps := h'.straps.trans h.straps
  items := fun hf => (h'.items hf).trans (h.items hf)
  clock := h.clock.trans h'.clock
  roster := h'.roster ∘ h.roster

/-- An operation that leaves straps, items and clock. -/
theorem still (h : s₀.Keeps free s) (hs : t.straps = s.straps) (hi : t.items = s.items) (hc : t.clock = s.clock)
    (hr : s.RosterSound → t.RosterSound) : s₀.Keeps free t :=
  h.trans ⟨hs, fun _ => hi, hc ▸ .refl _, hr⟩

/-- An operation that leaves the core and the seat. -/
theorem same (h : s₀.Keeps free s) (hc : t.core = s.core) (hs : t.seat = s.seat) : s₀.Keeps free t :=
  h.still (straps_of_core hc) (items_of_core hc) (clock_of_core hc) (fun hr => hr.same hc hs)

/-- An operation of the path of power and agreement. -/
theorem path (h : s₀.Keeps free s) (hb : t.beyond = s.beyond) (hself : s.SelfSound → t.SelfSound) : s₀.Keeps free t :=
  h.still (straps_of_core (core_of_beyond hb)) (items_of_core (core_of_beyond hb)) (clock_of_core (core_of_beyond hb))
    (fun hr => hr.path hb hself)

/-- An operation that moves the clock alone, among what is kept. -/
theorem clocked (h : s₀.Keeps free s) (hs : t.straps = s.straps) (hi : t.items = s.items) (hc : s.clock.RunsOn t.clock)
    (hseat : t.seat = s.seat) : s₀.Keeps free t :=
  h.trans ⟨hs, fun _ => hi, hc, fun hr => hr.of_peers hs (by rw [roster_of_seat hseat])
    ⟨by rw [roster_of_seat hseat, hs]; exact hr.self.1, by rw [roster_of_seat hseat, hs]; exact hr.self.2.1,
      by rw [roster_of_seat hseat]; exact hr.self.2.2, by rw [roster_of_seat hseat, agree_of_seat hseat]; exact hr.round⟩⟩

/-! ## Time -/

theorem advance (h : s₀.Keeps free s) (n : Nat) : s₀.Keeps free (s.advance n) :=
  h.clocked rfl rfl (.on _ _ _ _ _ id) rfl
theorem advanceTo (h : s₀.Keeps free s) (n : Nat) : s₀.Keeps free (s.advanceTo n) := h.advance _
theorem advanceToTether (h : s₀.Keeps free s) (n : Nat) : s₀.Keeps free (s.advanceToTether n) := h.advance _

theorem stepClock (h : s₀.Keeps free s) (n : Nat) : s₀.Keeps free (s.stepClock n) := by
  have hu : s₀.Keeps free { s with clock := { s.clock with tether := min (s.clock.tether + n) tetherMax, slew := 0 } } :=
    h.clocked rfl rfl (.on _ 0 _ _ _ (fun _ => Nat.zero_le _)) rfl
  unfold State.stepClock
  dsimp only
  split
  · exact hu.same (by simp) (by simp)
  · exact hu

theorem raiseSlew (h : s₀.Keeps free s) {n : Nat} (hn : n ≤ 63) : s₀.Keeps free (s.raiseSlew n) :=
  h.clocked rfl rfl (fun hc => ⟨⟨hc.tether, Nat.max_le.2 ⟨hc.slew, hn⟩⟩, le_rfl, le_rfl⟩) rfl

theorem clockHears (h : s₀.Keeps free s) (a b : Nat) : s₀.Keeps free (s.clockHears a b) := by
  unfold State.clockHears
  dsimp only
  (repeat' split)
  · exact h.stepClock _
  · exact h.raiseSlew (by omega)
  · exact h

/-! ## Power and agreement -/

theorem settleOffer (h : s₀.Keeps free s) : s₀.Keeps free s.settleOffer := h.path (by simp) (·.settleOffer)
theorem settleClaim (h : s₀.Keeps free s) : s₀.Keeps free s.settleClaim := h.path (by simp) (·.settleClaim)
theorem reform (h : s₀.Keeps free s) : s₀.Keeps free s.reform := h.path (by simp) (·.reform)
theorem endTripHold (h : s₀.Keeps free s) : s₀.Keeps free s.endTripHold := settleOffer (h.same rfl rfl)
theorem enterTripHold (h : s₀.Keeps free s) : s₀.Keeps free s.enterTripHold := settleOffer (h.same rfl rfl)
theorem closeSwitch (h : s₀.Keeps free s) : s₀.Keeps free s.closeSwitch := settleOffer (h.same rfl rfl)
theorem openSwitch (h : s₀.Keeps free s) (b : Bool) : s₀.Keeps free (s.openSwitch b) := settleOffer (h.same rfl rfl)
theorem followInputs (h : s₀.Keeps free s) : s₀.Keeps free s.followInputs := settleOffer (h.same rfl rfl)

theorem readyChanged (h : s₀.Keeps free s) : s₀.Keeps free s.readyChanged := by
  unfold State.readyChanged; (repeat' split)
  · exact h
  · exact h.followInputs
  · exact h

theorem presentChanged (h : s₀.Keeps free s) (was : Bool) : s₀.Keeps free (s.presentChanged was) := by
  unfold State.presentChanged; (repeat' split)
  · exact h.same rfl rfl
  · exact h.endTripHold
  · exact h
  · exact h.followInputs
  · exact h

theorem measureRail (h : s₀.Keeps free s) (n : Nat) : s₀.Keeps free (s.measureRail n) :=
  reform (h.same (by simp) (by simp))

theorem becomeActive (h : s₀.Keeps free s) : s₀.Keeps free s.becomeActive := by
  have hjoined : s₀.Keeps free s.joined :=
    h.still rfl rfl rfl (fun hr => ⟨hr.rising, hr.count, hr.others, hr.heard, hr.self, hr.round⟩)
  have hoffered : s₀.Keeps free s.firstOffered := hjoined.same (by simp [State.firstOffered]) (by
    simp [State.firstOffered, State.offerBeacon])
  rw [State.becomeActive_eq]
  refine same (s := if s.firstOffered.onPath then s.firstOffered.openRound .joinDone else s.firstOffered) ?_ rfl rfl
  split
  · exact hoffered.path (by simp) (·.openRound _)
  · exact hoffered

theorem enableRail (h : s₀.Keeps free s) : s₀.Keeps free s.enableRail := by
  unfold State.enableRail; dsimp only; (repeat' split)
  · exact closeSwitch (h.same rfl rfl)
  · exact h.same rfl rfl
  · exact h.same rfl rfl

theorem disableRail (h : s₀.Keeps free s) : s₀.Keeps free s.disableRail := by
  unfold State.disableRail; (repeat' split)
  · exact h
  · exact h.same (by simp) (by simp)
  · exact h.same rfl rfl
  · exact (h.openSwitch true).same rfl rfl

theorem itemWritten (h : s₀.Keeps free s) (n : Nat) : s₀.Keeps free (s.itemWritten n) := by
  unfold State.itemWritten; (repeat' split)
  · exact h.settleOffer
  · exact settleClaim (h.still rfl rfl rfl (fun hr => hr.of_peers rfl rfl (hr.selfSound.withAgree rfl rfl)))
  · exact h.settleClaim.same (by simp) (by simp)
  · exact h.same (by simp) (by simp)
  · exact h.reform
  · exact h

/-- Writing an item is for a command that is free to. -/
theorem applyItem (h : s₀.Keeps free s) (hf : free) (n v : Nat) : s₀.Keeps free (s.applyItem n v) := by
  have hset : s₀.Keeps free (s.setItem n v) := h.trans ⟨rfl, fun hn => absurd hf hn, .refl _,
    fun hr => ⟨hr.rising, hr.count, hr.others, hr.heard, hr.self, hr.round⟩⟩
  unfold State.applyItem; (repeat' split)
  · exact h.disableRail
  · exact h.enableRail
  · exact hset.itemWritten n

theorem writeItem (h : s₀.Keeps free s) (hf : free) (n : Nat) (v : Half) : s₀.Keeps free (s.writeItem n v).state := by
  unfold State.writeItem; (repeat' split)
  · exact h
  · exact h
  · exact h.applyItem hf _ _
  · exact h

/-! ## Resets -/

/-- A restart keeps straps, items and clocks, and leaves the self entry alone in the roster, its mode set at the kept round (R41, R108). -/
theorem restart (h : s₀.Keeps free s) : s₀.Keeps free s.restart :=
  h.still rfl rfl rfl fun _ =>
    { rising := List.Pairwise.nil
      count := Nat.zero_le _
      others := fun _ hx => absurd hx List.not_mem_nil
      heard := fun _ hx => absurd hx List.not_mem_nil
      self := ⟨rfl, rfl, rfl⟩
      round := fun _ m hm => by
        change (if atPicturePath s.straps.role then some (⟨s.agree.round, _, _⟩ : ModeSet) else none) = some m at hm
        split at hm
        · exact (Option.some.inj hm) ▸ rfl
        · cases hm }

theorem powerOff (h : s₀.Keeps free s) : s₀.Keeps free s.powerOff :=
  h.still rfl rfl rfl (fun hr => ⟨hr.rising, hr.count, hr.others, hr.heard, hr.self, hr.round⟩)

/-! ## Bursts heard -/

theorem removeEntry (h : s₀.Keeps free s) (e : Entry) : s₀.Keeps free (s.removeEntry e) :=
  have hc := s.removeEntry_core e
  h.still (straps_of_core hc) (items_of_core hc) (clock_of_core hc) (·.removeEntry e)

theorem clashFound (h : s₀.Keeps free s) (f : Flag) : s₀.Keeps free (s.clashFound f) :=
  h.still (State.clashFound_straps f) (State.clashFound_items f) (State.clashFound_clock f) (·.clashFound f)

theorem rosterTakes (h : s₀.Keeps free s) {x : Heard} (h0 : x.sender ≠ 0) (hown : x.sender ≠ s.straps.addr) :
    s₀.Keeps free (s.rosterTakes x) :=
  have hc := s.rosterTakes_core x
  h.still (straps_of_core hc) (items_of_core hc) (clock_of_core hc) (·.rosterTakes h0 hown)

theorem rosterHears (h : s₀.Keeps free s) (x : Heard) : s₀.Keeps free (s.rosterHears x) := by
  unfold State.rosterHears
  dsimp only
  split
  · exact h.clashFound _
  · next hown =>
    have h1 : s₀.Keeps free (if s.roleClash x then s.clashFound .roleClash else s) := by
      split
      · exact h.clashFound _
      · exact h
    have hstraps : (if s.roleClash x then s.clashFound .roleClash else s).straps = s.straps := by
      split
      · exact State.clashFound_straps _
      · rfl
    split
    · exact h1
    · next h0 =>
      have h2 := h1.rosterTakes h0 (hstraps ▸ fun ha => hown (decide_eq_true ⟨h0, ha⟩))
      split
      · exact h2.clockHears _ _
      · exact h2

theorem noticeArrives (h : s₀.Keeps free s) (a : Addr) (k d : Byte) : s₀.Keeps free (s.noticeArrives a k d) := by
  unfold State.noticeArrives; dsimp only; (repeat' split)
  · exact reform (h.same rfl rfl)
  · exact h.same rfl rfl
  · exact enterTripHold (h.same rfl rfl)
  · exact h.same rfl rfl
  · exact h.same rfl rfl
  · exact h

theorem serveOperation (h : s₀.Keeps free s) (op item : Byte) (v : Half) (hf : op = 2 → free) :
    s₀.Keeps free (s.serveOperation op item v).state := by
  unfold State.serveOperation; (repeat' split)
  · exact h
  · next ho => exact h.writeItem (hf ho) _ _
  · exact h.same (by simp) (by simp)
  · exact h.same rfl rfl
  · exact h

theorem serveAsk (h : s₀.Keeps free s) (a : Addr) (p : List Byte) (hf : byteAt p 2 = 2 → free) :
    s₀.Keeps free (s.serveAsk a p) := by
  have hr := h.serveOperation (byteAt p 2) (byteAt p 3) (halfAt p 4) hf
  unfold State.serveAsk; dsimp only; split
  · exact hr.same (by simp) (by simp)
  · exact hr.same (by simp) (by simp)

theorem askArrives (h : s₀.Keeps free s) (a : Addr) (p : List Byte)
    (hf : (byteAt p 0).toNat = s.straps.addr.toNat → s.roster.join ≠ .listenOnly → a ≠ s.straps.addr →
      s.remote.restartFrom = none → byteAt p 2 = 2 → free) : s₀.Keeps free (s.askArrives a p) := by
  unfold State.askArrives; split
  · next hc => exact h.serveAsk a p (hf hc.1 hc.2.1 hc.2.2.1 hc.2.2.2)
  · exact h

theorem entrySent (h : s₀.Keeps free s) (e : QEntry) : s₀.Keeps free (s.entrySent e) := by
  unfold State.entrySent; (repeat' split)
  · exact h.same (by simp) (by simp)
  · exact h.restart
  · exact h

end State.Keeps

end Sys2Proof.Machine
end

section
/-! SUPPORT. What every command keeps, command by command, and with that every step: the clocks run on, straps and items are held, the
roster keeps its form. -/

namespace Sys2Proof.Machine

open Host (Outcome)

/-- If the outcome is a next state, the command has kept what it must. -/
def KeepsNext (free : Prop) (s : State) (o : Outcome State Fault Refusal) : Prop := ∀ t, o = .next t → s.Keeps free t

variable {free : Prop} {s₀ s : State}

theorem keepsNext_next (h : s₀.Keeps free s) : KeepsNext free s₀ (.next s) := by
  rintro t ⟨⟩
  exact h

/-! ## The shared forms of a command -/

theorem whilePowered_keeps (h : s₀.Keeps free s) {act : State → State} (ha : s₀.Keeps free (act s)) :
    KeepsNext free s₀ (whilePowered s act) := by
  refine keepsNext_next ?_
  split
  · exact ha
  · exact h

theorem onRequest_keeps {act : State → State} (ha : s.Keeps free (act s)) : KeepsNext free s (onRequest s act) := by
  refine whilePowered_keeps (.refl s) ?_
  split
  · exact .refl s
  · exact ha

theorem runOut_keeps {start : Option Nat} {span : Nat} {act : Nat → State → State}
    (ha : ∀ due u, s.Keeps free u → s.Keeps free (act due u)) : s.Keeps free (runOut start span s act) := by
  unfold runOut
  split
  · exact .refl s
  · exact ha _ _ (.advanceTo (.refl s) _)

/-- A command that leaves the core and the seat keeps everything. -/
theorem whilePowered_keeps_same {act : State → State} (hc : (act s).core = s.core) (hs : (act s).seat = s.seat) :
    KeepsNext free s (whilePowered s act) :=
  whilePowered_keeps (.refl s) (.same (.refl s) hc hs)

theorem onRequest_keeps_same {act : State → State} (hc : (act s).core = s.core) (hs : (act s).seat = s.seat) :
    KeepsNext free s (onRequest s act) :=
  onRequest_keeps (.same (.refl s) hc hs)

/-! ## Characters (R7, R11) -/

/-- The characters of a burst are an undamaged ASK to write an item that this node serves (R166, R167). -/
structure State.ServesWrite (s : State) (chars : List Byte) : Prop where
  check   : checkOk chars = true
  kind    : headerKind (byteAt chars 0) = some .ask
  length  : (burstPayload chars).length = 6
  target  : (byteAt (burstPayload chars) 0).toNat = s.straps.addr.toNat
  sender  : headerAddr (byteAt chars 0) ≠ s.straps.addr
  write   : byteAt (burstPayload chars) 2 = 2
  join    : s.roster.join ≠ .listenOnly
  restart : s.remote.restartFrom = none

@[simp] theorem State.removeEntry_remote (s : State) (e : Entry) : (s.removeEntry e).remote = s.remote := by
  rw [State.removeEntry, remote_of_beyond (State.tellChange_beyond _ _ _)]; rfl

@[simp] theorem State.updateEntry_remote (s : State) (h : Heard) (old : Option Entry) : (s.updateEntry h old).remote = s.remote := by
  rw [State.updateEntry_eq, remote_of_beyond (State.tellRound_beyond _ _ _), remote_of_beyond (State.tellChange_beyond _ _ _)]; rfl

@[simp] theorem State.rosterTakes_remote (s : State) (h : Heard) : (s.rosterTakes h).remote = s.remote := by
  unfold State.rosterTakes
  dsimp only
  (repeat' split) <;> simp

theorem State.enterListenOnly_join (s : State) : s.enterListenOnly.roster.join = .listenOnly := by
  unfold State.enterListenOnly
  dsimp only
  split
  · rw [join_of_core (State.halt_core _ _), join_of_core (State.silence_core _)]
  · rw [join_of_core (State.silence_core _)]

/-- After a clash the node is listen-only (R30, R31). -/
theorem State.clashFound_join (s : State) (f : Flag) : (s.clashFound f).roster.join = .listenOnly := by
  unfold State.clashFound; split
  · assumption
  · exact State.enterListenOnly_join _

/-- At a node that a burst other than a BEACON leaves outside listen-only, the burst was no clash, and straps, join state and remote
requests stand. -/
theorem State.rosterHears_noClash {h : Heard} (hk : h.kind ≠ .beacon) (hj : (s.rosterHears h).roster.join ≠ .listenOnly) :
    s.roster.join ≠ .listenOnly ∧ (s.rosterHears h).remote = s.remote ∧ (s.rosterHears h).straps = s.straps := by
  have hown : s.ownAddress h = false := by
    cases ho : s.ownAddress h with
    | false => rfl
    | true => exact absurd (by simpa [State.rosterHears, ho] using s.clashFound_join .addressClash) hj
  have hrole : s.roleClash h = false := by simp [State.roleClash, hk]
  have heq : s.rosterHears h = if h.sender = 0 then s else s.rosterTakes h := by
    simp [State.rosterHears_ordinary hown hrole, hk]
  rw [heq] at hj ⊢
  split
  · next h0 =>
    rw [if_pos h0] at hj
    exact ⟨hj, rfl, rfl⟩
  · next h0 =>
    rw [if_neg h0] at hj
    have hc := s.rosterTakes_core h
    exact ⟨join_of_core hc ▸ hj, s.rosterTakes_remote h, straps_of_core hc⟩

namespace State.Keeps

theorem burstAccepted (h : s₀.Keeps free s) (x : Heard)
    (hf : x.kind = .ask → (byteAt x.payload 0).toNat = s.straps.addr.toNat → s.roster.join ≠ .listenOnly →
      x.sender ≠ s.straps.addr → s.remote.restartFrom = none → byteAt x.payload 2 = 2 → free) :
    s₀.Keeps free (s.burstAccepted x) := by
  have hr : s₀.Keeps free ((s.bump cReceived).rosterHears x) :=
    rosterHears (s := s.bump cReceived) (h.same rfl rfl) x
  unfold State.burstAccepted
  cases hk : x.kind with
  | notice => rw [State.contentArrives_notice hk]; exact hr.noticeArrives _ _ _
  | ask =>
    rw [State.contentArrives_ask hk]
    refine hr.askArrives _ _ (fun h0 hj ha hrest h2 => ?_)
    obtain ⟨hjoin, hremote, hstraps⟩ :=
      State.rosterHears_noClash (s := s.bump cReceived) (h := x) (by simp [hk]) hj
    rw [hstraps] at h0 ha
    rw [hremote] at hrest
    exact hf hk h0 hjoin ha hrest h2
  | answer => rw [State.contentArrives_answer hk]; exact hr.same (by simp) (by simp)
  | motion =>
    rw [State.contentArrives_motion hk]; split
    · exact hr.same (by simp) (by simp)
    · exact hr
  | _ => rw [State.contentArrives_none] <;> first | exact hr | simp [hk]

theorem judgeBurst (h : s₀.Keeps free s) {a : Assembly} (hlen : burstChars a.chars ≤ a.chars.length)
    (hf : s.ServesWrite a.chars → free) : s₀.Keeps free (s.judgeBurst a) := by
  have habandon : ∀ c, s₀.Keeps free (s.abandon c) := fun c => h.same (by simp) (by simp)
  unfold State.judgeBurst
  split
  · next hcheck =>
    split
    · exact habandon _
    · next k hkind =>
      split
      · next hlok =>
        refine burstAccepted (s := s.setRx .hunting) (h.same rfl rfl) _ (fun hk ht hj ha hr hw => hf ?_)
        obtain rfl : k = .ask := hk
        have hsix : (byteAt a.chars 1).toNat = 6 := by simpa [BurstKind.lengthOk] using hlok
        have hchars : 10 ≤ a.chars.length := by simpa [burstChars, hsix] using hlen
        exact ⟨hcheck, hkind, by simp [burstPayload, hsix]; omega, ht, ha, hw, hj, hr⟩
      · exact habandon _
  · exact habandon _

theorem assemble (h : s₀.Keeps free s) (a : Assembly) (d : Byte)
    (hf : burstChars (a.chars ++ [d]) ≤ (a.chars ++ [d]).length → s.ServesWrite (a.chars ++ [d]) → free) :
    s₀.Keeps free (s.assemble a d) := by
  unfold State.assemble
  dsimp only
  split
  · exact h.same (by simp) (by simp)
  · split
    · next hdone => exact h.judgeBurst hdone.2 (hf hdone.2)
    · exact h.same rfl rfl

theorem hear (h : s₀.Keeps free s) (d : Byte) (bad : Bool) (tether start : Nat)
    (hf : ∀ a, s.rail.rx = .assembling a → bad = false → burstChars (a.chars ++ [d]) ≤ (a.chars ++ [d]).length →
      s.ServesWrite (a.chars ++ [d]) → free) : s₀.Keeps free (s.hear d bad tether start) := by
  unfold State.hear
  split
  · split
    · exact h.same (by simp) (by simp)
    · exact h
  · next a hrx =>
    split
    · exact h.same (by simp) (by simp)
    · next hgood => exact h.assemble a d (hf a hrx (Bool.eq_false_of_not_eq_true hgood))

end State.Keeps

theorem State.gapIfDue_remote (s : State) : s.gapIfDue.remote = s.remote := by
  unfold State.gapIfDue State.abandon; (repeat' split) <;> rfl

theorem State.gapIfDue_rx {s : State} {a : Assembly} (h : s.gapIfDue.rail.rx = .assembling a) : s.rail.rx = .assembling a := by
  unfold State.gapIfDue at h
  split at h
  · exact h
  · next b hb =>
    split at h
    · cases h
    · exact h

theorem execCharacterReceived_keeps (data : Byte) (parity stopOk : Bool) :
    KeepsNext (s.completesItemWrite data parity stopOk = true) s (execCharacterReceived data parity stopOk s) := by
  cases hp : s.powered with
  | false =>
    refine keepsNext_next ?_
    rw [hp]
    exact .refl s
  | true =>
    refine whilePowered_keeps (.refl s) ?_
    split
    · exact .same (s := s.advance charTime) (.advance (.refl s) _) (by simp) (by simp)
    · next hsend =>
      refine State.Keeps.hear (.advance (.same (.refl s) (by simp) (by simp)) _) _ _ _ _ (fun a hrx hgood hlen hw => ?_)
      have hcore := s.gapIfDue_core
      have haddr : s.gapIfDue.straps = s.straps := straps_of_core hcore
      have hrx' := State.gapIfDue_rx (s := s) hrx
      simp only [State.completesItemWrite, hrx', hp, hsend, hgood, hw.check, hw.kind, hw.length, hw.write, hlen, Bool.and_eq_true,
        decide_eq_true_eq, Option.isNone_none, Bool.not_false, Option.isNone_iff_eq_none, and_true, true_and]
      exact ⟨⟨⟨haddr ▸ hw.target, haddr ▸ hw.sender⟩, join_of_core hcore ▸ hw.join⟩, s.gapIfDue_remote ▸ hw.restart⟩

end Sys2Proof.Machine
end

section
/-! SUPPORT. What every command keeps, from the rail's commands to the host port's, and with that every step. -/

namespace Sys2Proof.Machine

variable {free : Prop} {s : State}

/-! ## Rail -/

theorem execCharacterMissing_keeps : KeepsNext free s (execCharacterMissing s) := by
  refine whilePowered_keeps_same ?_ ?_ <;> split <;> simp

theorem execGap_keeps : KeepsNext free s (execGap s) := by
  refine whilePowered_keeps (.refl s) ?_
  split
  · exact .refl s
  · exact .same (.advanceTo (.refl s) _) (State.abandon_core _ _) (State.abandon_seat _ _)

theorem execQuietWaitExpiry_keeps : KeepsNext free s (execQuietWaitExpiry s) := by
  refine whilePowered_keeps (.refl s) ?_
  (repeat' split)
  · exact .refl s
  · exact .refl s
  · exact .same (.advanceTo (.refl s) _) (State.beginSending_core _ _ _) (State.beginSending_seat _ _ _)

theorem State.Keeps.completeSending {s₀ : State} (h : s₀.Keeps free s) (e : QEntry) : s₀.Keeps free (s.completeSending e) := by
  have hsent : ∀ u : State, u.core = s.core → u.seat = s.seat → s₀.Keeps free (u.entrySent e) :=
    fun u hc hs => State.Keeps.entrySent (h.same hc hs) e
  exact hsent _ rfl rfl

theorem execSendComplete_keeps : KeepsNext free s (execSendComplete s) := by
  refine whilePowered_keeps (.refl s) ?_
  split
  · exact .refl s
  · exact .completeSending (.advanceTo (.refl s) _) _

theorem execStuckDrop_keeps : KeepsNext free s (execStuckDrop s) :=
  whilePowered_keeps (.refl s) (runOut_keeps fun _ _ h => h.same (by simp) (by simp))

/-! ## Roster and tether clock -/

theorem execJoinTimerExpiry_keeps : KeepsNext free s (execJoinTimerExpiry s) :=
  whilePowered_keeps (.refl s) (runOut_keeps fun _ _ h => h.becomeActive)

theorem execPeerLeft_keeps (peer : Addr) : KeepsNext free s (execPeerLeft peer s) := by
  refine whilePowered_keeps (.refl s) ?_
  split
  · exact .refl s
  · exact runOut_keeps fun _ _ h => h.removeEntry _

theorem execBeaconPeriod_keeps : KeepsNext free s (execBeaconPeriod s) :=
  whilePowered_keeps (.refl s) (runOut_keeps fun due u h => State.Keeps.same
    (h.still (t := { u with roster := { u.roster with beaconFrom := some due } }) rfl rfl rfl
      (fun hr => ⟨hr.rising, hr.count, hr.others, hr.heard, hr.self, hr.round⟩))
    (by simp) (by simp [State.offerBeacon]))

theorem execSlewTick_keeps : KeepsNext free s (execSlewTick s) := by
  refine whilePowered_keeps (.refl s) ?_
  split
  · exact .refl s
  · exact runOut_keeps fun _ u h => h.clocked rfl rfl
      (.on u.clock 0 1 _ _ (fun hs => (Nat.sub_le _ _).trans hs)) rfl

/-! ## Supply and loads -/

theorem execOfferClaimPeriod_keeps (which : Announcement) : KeepsNext free s (execOfferClaimPeriod which s) := by
  refine whilePowered_keeps (.refl s) ?_
  cases which with
  | offer => exact runOut_keeps fun _ _ h => h.same (by simp) (by simp)
  | claim => exact runOut_keeps fun _ _ h => h.same (by simp) (by simp)

theorem execSupplyReadyChange_keeps (high : Bool) : KeepsNext free s (execSupplyReadyChange high s) :=
  have h : s.Keeps free { s with power := { s.power with supplyReady := high } } := .same (.refl s) rfl rfl
  whilePowered_keeps h h.readyChanged

theorem execRailPresentChange_keeps (milliVolts : Nat) : KeepsNext free s (execRailPresentChange milliVolts s) :=
  have h : s.Keeps free { s with power := { s.power with railPresent := railIsPresent milliVolts } } := .same (.refl s) rfl rfl
  whilePowered_keeps h (h.presentChanged _)

theorem execTripHoldExpiry_keeps : KeepsNext free s (execTripHoldExpiry s) := by
  refine whilePowered_keeps (.refl s) ?_
  split
  · exact runOut_keeps fun _ _ h => h.endTripHold
  · exact .refl s

theorem execReturnDelayExpiry_keeps (delay : DelayEnd) : KeepsNext free s (execReturnDelayExpiry delay s) := by
  refine whilePowered_keeps (.refl s) (runOut_keeps fun _ _ h => ?_)
  split
  · exact h.same (by rfl) (by rfl)
  · exact State.Keeps.reform (h.same (by rfl) (by rfl))

theorem execRaiseTimerExpiry_keeps (load : Load) : KeepsNext free s (execRaiseTimerExpiry load s) :=
  whilePowered_keeps (.refl s) (runOut_keeps fun _ _ h => h.same (by simp) (by simp))

theorem execRailMeasurement_keeps (milliVolts : Nat) : KeepsNext free s (execRailMeasurement milliVolts s) := by
  refine whilePowered_keeps (.refl s) ?_
  split
  · exact runOut_keeps fun due u h => State.Keeps.measureRail
      (s := { u with power := { u.power with measureFrom := some due } }) (h.same rfl rfl) _
  · exact .refl s

theorem execClearTimerExpiry_keeps : KeepsNext free s (execClearTimerExpiry s) :=
  whilePowered_keeps (.refl s) (runOut_keeps fun _ _ h => State.Keeps.reform (h.same rfl rfl))

theorem execSupplyGraceExpiry_keeps : KeepsNext free s (execSupplyGraceExpiry s) :=
  whilePowered_keeps (.refl s) (runOut_keeps fun _ _ h => State.Keeps.reform (h.same rfl rfl))

theorem execDeliveredCurrentMeasurement_keeps (milliAmps : Nat) :
    KeepsNext free s (execDeliveredCurrentMeasurement milliAmps s) := by
  refine whilePowered_keeps (.refl s) ?_
  split
  · exact runOut_keeps fun _ _ h => h.same (by simp) (by simp)
  · exact .refl s

theorem execTripTimerExpiry_keeps : KeepsNext free s (execTripTimerExpiry s) := by
  refine whilePowered_keeps (.refl s) ?_
  split
  · exact runOut_keeps fun _ _ h => h.openSwitch _
  · exact .refl s

theorem execOffTimeExpiry_keeps : KeepsNext free s (execOffTimeExpiry s) := by
  refine whilePowered_keeps (.refl s) ?_
  split
  · exact runOut_keeps fun _ _ h => h.closeSwitch
  · exact .refl s

/-! ## Agreement -/

/-- A step timer of the round: what its expiry does is on the path. -/
theorem stepOver_keeps {st : AgreeState} {span : Nat} {act : State → State} (hb : ∀ u, (act u).beyond = u.beyond)
    (hself : ∀ u : State, u.SelfSound → (act u).SelfSound) : KeepsNext free s (whilePowered s (State.stepOver st span act)) := by
  refine whilePowered_keeps (.refl s) ?_
  unfold State.stepOver
  split
  · exact runOut_keeps fun _ u h => h.path (hb u) (hself u)
  · exact .refl s

theorem execBaseForcedExpiry_keeps : KeepsNext free s (execBaseForcedExpiry s) :=
  whilePowered_keeps (.refl s) (runOut_keeps fun _ _ h => h.path (by simp) (·.endBaseForced))

theorem execReceiverStateChange_keeps (lane : Lane) (locks : Bool) : KeepsNext free s (execReceiverStateChange lane locks s) := by
  have hr : ∀ r, s.Keeps free (s.setReceiver lane r).receiverReported := fun r =>
    .path (s := s.setReceiver lane r) (.same (.refl s) rfl rfl) (by simp) (·.receiverReported)
  refine whilePowered_keeps (.refl s) ?_
  (repeat' split)
  · exact hr _
  · exact .refl s
  · exact hr _
  · exact .refl s
  · exact .refl s

/-! ## Lane engine -/

theorem execLanePacketReceived_keeps (lane : Lane) (bytes : List Byte) :
    KeepsNext free s (execLanePacketReceived lane bytes s) := by
  refine whilePowered_keeps_same ?_ ?_ <;> (repeat' split) <;> simp

theorem execLanePacketSent_keeps (lane : Lane) : KeepsNext free s (execLanePacketSent lane s) := by
  refine whilePowered_keeps (.refl s) ?_
  split
  · exact .refl s
  · exact .same (.same (.advanceTo (.refl s) _) (State.countSent_core _ _ _) (State.countSent_seat _ _ _))
      (State.freeTransmitter_core _ _) (State.freeTransmitter_seat _ _)

theorem execDozeTimerExpiry_keeps : KeepsNext free s (execDozeTimerExpiry s) := by
  refine whilePowered_keeps (.refl s) ?_
  split
  · exact .refl s
  · exact runOut_keeps fun _ _ h => h.same rfl rfl

theorem execLostOnWake_keeps (length : Nat) : KeepsNext free s (execLostOnWake length s) := by
  refine whilePowered_keeps (.refl s) ?_
  split
  · exact .same (.same (.advance (.refl s) _) (State.bump_core _ _) (State.bump_seat _ _))
      (State.restartDoze_core _ _) (State.restartDoze_seat _ _)
  · exact .refl s

/-! ## Picture, motion and audio -/

theorem execSliceSubmit_keeps (start : Bool) (index : Byte) (bytes : List Byte) :
    KeepsNext free s (execSliceSubmit start index bytes s) := by
  refine whilePowered_keeps_same ?_ ?_ <;> split <;> simp

theorem execSliceScan_keeps : KeepsNext free s (execSliceScan s) := by
  refine whilePowered_keeps (.refl s) ?_
  dsimp only
  (repeat' split)
  · exact .refl s
  · exact .same (.advanceToTether (.refl s) _) (State.scanIndex_core _ _) (State.scanIndex_seat _ _)
  · exact .refl s

theorem execSensorWriteComplete_keeps : KeepsNext free s (execSensorWriteComplete s) := by
  refine whilePowered_keeps_same ?_ ?_ <;> dsimp only <;> (repeat' split) <;> simp

theorem execDataReadyEdge_keeps : KeepsNext free s (execDataReadyEdge s) := by
  refine whilePowered_keeps_same ?_ ?_ <;> split <;> rfl

theorem execSensorReadComplete_keeps (raw : Axes) : KeepsNext free s (execSensorReadComplete raw s) := by
  refine whilePowered_keeps_same ?_ ?_ <;> split <;> simp

theorem execSensorStall_keeps : KeepsNext free s (execSensorStall s) :=
  whilePowered_keeps (.refl s) (runOut_keeps fun _ _ h => h.same rfl rfl)

theorem execMotionFallbackExpiry_keeps : KeepsNext free s (execMotionFallbackExpiry s) :=
  whilePowered_keeps (.refl s) (runOut_keeps fun _ _ h => h.same (by simp) (by simp))

theorem execMotionDrain_keeps (count : Byte) : KeepsNext free s (execMotionDrain count s) := by
  refine onRequest_keeps_same ?_ ?_ <;> dsimp only <;> (repeat' split) <;> simp

theorem execAudioFrameInput_keeps (left right : Half) : KeepsNext free s (execAudioFrameInput left right s) := by
  refine whilePowered_keeps_same ?_ ?_ <;> dsimp only <;> (repeat' split) <;> simp

theorem execPresentationTimeReached_keeps : KeepsNext free s (execPresentationTimeReached s) := by
  refine whilePowered_keeps (.refl s) ?_
  dsimp only
  (repeat' split)
  · exact .same (.advanceToTether (.refl s) _) (State.enterPlaying_core _) (State.enterPlaying_seat _)
  · exact .refl s
  · exact .refl s

theorem execOutputFramePeriod_keeps : KeepsNext free s (execOutputFramePeriod s) := by
  refine whilePowered_keeps (.refl s) ?_
  dsimp only
  split
  · exact .same (.same (.advanceTo (.refl s) _) (State.mapAudio_core _ _) (State.mapAudio_seat _ _))
      (State.outputPeriod_core _) (State.outputPeriod_seat _)
  · exact .refl s

theorem execSlipTimerExpiry_keeps : KeepsNext free s (execSlipTimerExpiry s) :=
  whilePowered_keeps (.refl s) (runOut_keeps fun _ _ h => h.same (by simp) (by simp))

theorem execMicCapture_keeps (sample : Half) : KeepsNext free s (execMicCapture sample s) := by
  refine whilePowered_keeps (.refl s) ?_
  dsimp only
  split
  · exact .same (.same (.advanceTo (.refl s) _) (State.mapAudio_core _ _) (State.mapAudio_seat _ _))
      (State.captureSample_core _ _) (State.captureSample_seat _ _)
  · exact .refl s

theorem execMicOutputSample_keeps : KeepsNext free s (execMicOutputSample s) := by
  refine whilePowered_keeps (.refl s) ?_
  dsimp only
  split
  · exact .same (.advanceTo (.refl s) _) rfl rfl
  · exact .refl s

/-! ## Resets, remote requests and the host port -/

theorem execRestartTimerExpiry_keeps : KeepsNext free s (execRestartTimerExpiry s) :=
  whilePowered_keeps (.refl s) (runOut_keeps fun _ _ h => h.restart)

theorem execRemoteRestartTimerExpiry_keeps : KeepsNext free s (execRemoteRestartTimerExpiry s) :=
  whilePowered_keeps (.refl s) (runOut_keeps fun _ _ h => h.restart)

theorem execRailPowerLoss_keeps : KeepsNext free s (execRailPowerLoss s) := by
  refine whilePowered_keeps (.refl s) ?_
  split
  · exact .powerOff (.refl s)
  · exact .refl s

theorem execRemoteStart_keeps (target operation item : Byte) (value : Half) :
    KeepsNext free s (execRemoteStart target operation item value s) := by
  refine onRequest_keeps_same ?_ ?_ <;> (repeat' split) <;> simp

theorem execDeadlineExpiry_keeps : KeepsNext free s (execDeadlineExpiry s) :=
  whilePowered_keeps (.refl s) (runOut_keeps fun _ _ h => h.same rfl rfl)

theorem execRemoteResult_keeps : KeepsNext free s (execRemoteResult s) := onRequest_keeps_same rfl rfl

theorem execItemWrite_keeps (hf : free) (item : Byte) (value : Half) : KeepsNext free s (execItemWrite item value s) :=
  onRequest_keeps (.same (.writeItem (.refl s) hf _ _) rfl rfl)

theorem execStatusRead_keeps : KeepsNext free s (execStatusRead s) := onRequest_keeps_same rfl rfl

theorem execCounterRead_keeps (group : Byte) : KeepsNext free s (execCounterRead group s) := by
  refine onRequest_keeps_same ?_ ?_ <;> dsimp only <;> split <;> rfl

theorem execRestart_keeps : KeepsNext free s (execRestart s) := onRequest_keeps_same (by simp) (by simp)

theorem execUnknownRequest_keeps (code : Byte) : KeepsNext free s (execUnknownRequest code s) := by
  unfold execUnknownRequest
  split
  · exact onRequest_keeps_same (by rfl) (by rfl)
  · rintro t ⟨⟩

/-! ## Every command and every step -/

/-- The command may write an item: an ITEM_WRITE, or the last character of an ASK to write one. -/
def State.mayWrite (s : State) : Instr → Prop
  | .itemWrite _ _ => True
  | .characterReceived data parity stopOk => s.completesItemWrite data parity stopOk = true
  | _ => False

/-- Every command but a full reset keeps all but the items it may write. -/
theorem exec_keeps (c : Instr) (hc : ∀ pins, c ≠ .fullReset pins) : KeepsNext (s.mayWrite c) s (exec c s) := by
  cases c with
  | fullReset straps => exact absurd rfl (hc straps)
  | characterReceived data parity stopOk => exact execCharacterReceived_keeps data parity stopOk
  | gap => exact execGap_keeps
  | carrierDetect present => exact keepsNext_next (.same (.refl s) rfl rfl)
  | quietWaitExpiry => exact execQuietWaitExpiry_keeps
  | sendComplete => exact execSendComplete_keeps
  | stuckDrop => exact execStuckDrop_keeps
  | joinTimerExpiry => exact execJoinTimerExpiry_keeps
  | peerLeft peer => exact execPeerLeft_keeps peer
  | beaconPeriod => exact execBeaconPeriod_keeps
  | slewTick => exact execSlewTick_keeps
  | offerClaimPeriod which => exact execOfferClaimPeriod_keeps which
  | supplyReadyChange high => exact execSupplyReadyChange_keeps high
  | railPresentChange milliVolts => exact execRailPresentChange_keeps milliVolts
  | tripHoldExpiry => exact execTripHoldExpiry_keeps
  | returnDelayExpiry delay => exact execReturnDelayExpiry_keeps delay
  | raiseTimerExpiry load => exact execRaiseTimerExpiry_keeps load
  | railMeasurement milliVolts => exact execRailMeasurement_keeps milliVolts
  | clearTimerExpiry => exact execClearTimerExpiry_keeps
  | supplyGraceExpiry => exact execSupplyGraceExpiry_keeps
  | deliveredCurrentMeasurement milliAmps => exact execDeliveredCurrentMeasurement_keeps milliAmps
  | tripTimerExpiry => exact execTripTimerExpiry_keeps
  | offTimeExpiry => exact execOffTimeExpiry_keeps
  | settleTimerExpiry => exact stepOver_keeps State.enterListen_beyond (fun _ h => h.enterListen)
  | listenTimerExpiry => exact stepOver_keeps State.choose_beyond (fun _ h => h.choose)
  | confirmTimerExpiry => exact stepOver_keeps State.confirmFailure_beyond (fun _ h => h.confirmFailure)
  | baseForcedExpiry => exact execBaseForcedExpiry_keeps
  | receiverStateChange lane locks => exact execReceiverStateChange_keeps lane locks
  | trainingTimerExpiry => exact stepOver_keeps State.trainingFailure_beyond (fun _ h => h.trainingFailure)
  | lanePacketReceived lane bytes => exact execLanePacketReceived_keeps lane bytes
  | lanePacketSent lane => exact execLanePacketSent_keeps lane
  | dozeTimerExpiry => exact execDozeTimerExpiry_keeps
  | lostOnWake length => exact execLostOnWake_keeps length
  | sliceSubmit start index bytes => exact execSliceSubmit_keeps start index bytes
  | sliceScan => exact execSliceScan_keeps
  | sensorWriteComplete => exact execSensorWriteComplete_keeps
  | dataReadyEdge => exact execDataReadyEdge_keeps
  | sensorReadComplete raw => exact execSensorReadComplete_keeps raw
  | sensorStall => exact execSensorStall_keeps
  | motionFallbackExpiry => exact execMotionFallbackExpiry_keeps
  | motionDrain count => exact execMotionDrain_keeps count
  | audioFrameInput left right => exact execAudioFrameInput_keeps left right
  | presentationTimeReached => exact execPresentationTimeReached_keeps
  | outputFramePeriod => exact execOutputFramePeriod_keeps
  | slipTimerExpiry => exact execSlipTimerExpiry_keeps
  | micCapture sample => exact execMicCapture_keeps sample
  | micOutputSample => exact execMicOutputSample_keeps
  | remoteRestartTimerExpiry => exact execRemoteRestartTimerExpiry_keeps
  | remoteStart target operation item value => exact execRemoteStart_keeps target operation item value
  | deadlineExpiry => exact execDeadlineExpiry_keeps
  | remoteResult => exact execRemoteResult_keeps
  | itemRead item => exact onRequest_keeps_same (by rfl) (by rfl)
  | itemWrite item value => exact execItemWrite_keeps trivial item value
  | statusRead => exact execStatusRead_keeps
  | counterRead group => exact execCounterRead_keeps group
  | rosterRead => exact onRequest_keeps_same (by rfl) (by rfl)
  | allowanceRead => exact onRequest_keeps_same (by rfl) (by rfl)
  | laneRead => exact onRequest_keeps_same (by rfl) (by rfl)
  | framesRead => exact onRequest_keeps_same (by rfl) (by rfl)
  | restart => exact execRestart_keeps
  | restartTimerExpiry => exact execRestartTimerExpiry_keeps
  | unknownRequest code => exact execUnknownRequest_keeps code
  | hostDeselect clocked => exact keepsNext_next (.same (.refl s) rfl rfl)
  | railPowerLoss => exact execRailPowerLoss_keeps
  | characterMissing => exact execCharacterMissing_keeps

/-- A step takes a full reset from the queue, or keeps all but the items it may write. -/
theorem step_keeps (hf : s.fullResetNext = false) : KeepsNext (s.itemsMayChange = true) s (step s) := by
  unfold step
  split
  · refine keepsNext_next ?_
    split
    · exact .advance (.refl s) 1
    · exact .refl s
  · next c rest hp =>
    have hc : ∀ pins, c ≠ .fullReset pins := by
      rintro pins rfl
      simp [State.fullResetNext, hp] at hf
    have hmay : State.mayWrite { s with pending := rest } c → s.itemsMayChange = true := by
      intro hw
      cases c with
      | itemWrite => simp [State.itemsMayChange, hp]
      | characterReceived => unfold State.itemsMayChange; rw [hp]; exact hw
      | _ => exact hw.elim
    intro t ht
    have hk := exec_keeps (s := { s with pending := rest }) c hc t ht
    exact ⟨hk.straps, fun hn => hk.items (hn ∘ hmay), hk.clock,
      fun hr => hk.roster ⟨hr.rising, hr.count, hr.others, hr.heard, hr.self, hr.round⟩⟩

/-- Settles O6. -/
theorem clocksNeverRunBack : Obligations.ClocksNeverRunBack :=
  fun _ t hs hf hstep => (step_keeps hf t hstep).clock hs

/-- Settles O8: a step that may not change the items takes no full reset either. -/
theorem strapsAndItemsAreHeld : Obligations.StrapsAndItemsAreHeld := by
  refine fun s t hstep => ⟨fun hf => (step_keeps hf t hstep).straps, fun hm => ?_⟩
  have hf : s.fullResetNext = false := by
    unfold State.fullResetNext
    split
    · next hp => simp [State.itemsMayChange, hp] at hm
    · rfl
  exact (step_keeps hf t hstep).items (by simp [hm])

/-- After a full reset the roster is the self entry alone, its mode set at round 0 (R41, R108). -/
theorem State.fullReset_rosterSound (s : State) (pins : BitVec 11) : (s.fullReset pins).RosterSound where
  rising := List.Pairwise.nil
  count := Nat.zero_le _
  others := fun _ hx => absurd hx List.not_mem_nil
  heard := fun _ hx => absurd hx List.not_mem_nil
  self := ⟨rfl, rfl, rfl⟩
  round := fun _ m hm => by
    change (if atPicturePath (decodeStraps pins).role then some (⟨0, _, _⟩ : ModeSet) else none) = some m at hm
    split at hm
    · exact (Option.some.inj hm) ▸ rfl
    · cases hm

/-- Settles O9: a full reset gives the form, and every other step keeps it. -/
theorem rosterFormIsKept : Obligations.RosterFormIsKept := by
  intro s t hs hstep
  cases hf : s.fullResetNext with
  | false => exact (step_keeps hf t hstep).roster hs
  | true =>
    unfold step at hstep
    unfold State.fullResetNext at hf
    split at hf
    · next pins rest hp =>
      rw [hp] at hstep
      obtain rfl : State.fullReset pins { s with pending := rest } = t := by injection hstep
      exact State.fullReset_rosterSound _ _
    · cases hf

end Sys2Proof.Machine
end

section
/-! SUPPORT. Fields of bytes read back (chapter 11): what stands at an offset of a list put together from fields. -/

namespace Sys2Proof.Machine

/-- A field of `n` bytes reads back as the value modulo 256 to the `n`. -/
theorem leValue_leBytes (n v : Nat) : leValue (leBytes n v) = v % 256 ^ n := by
  induction n generalizing v with
  | zero => simp [leBytes, leValue, Nat.mod_one]
  | succ n ih =>
    have hlow : (BitVec.ofNat 8 v).toNat = v % 256 := BitVec.toNat_ofNat v 8
    rw [leBytes, leValue, ih, hlow, Nat.pow_succ', Nat.mod_mul (x := v) (a := 256)]

theorem fieldAt_leBytes (n v : Nat) (l : List Byte) : fieldAt (leBytes n v ++ l) 0 n = v % 256 ^ n := by
  have ht : (leBytes n v ++ l).take n = leBytes n v := by
    rw [List.take_append_of_le_length (leBytes_length n v).ge, List.take_of_length_le (leBytes_length n v).le]
  rw [fieldAt, List.drop_zero, ht, leValue_leBytes]

@[simp] theorem fieldAt_half (v : Half) (l : List Byte) : fieldAt (leBytes 2 v.toNat ++ l) 0 2 = v.toNat := by
  rw [fieldAt_leBytes]; exact Nat.mod_eq_of_lt v.isLt

@[simp] theorem halfAt_half (v : Half) (l : List Byte) : halfAt (leBytes 2 v.toNat ++ l) 0 = v := by
  rw [halfAt, fieldAt_half]; exact BitVec.eq_of_toNat_eq (by simp)

/-! ## Past the fields before it -/

@[simp] theorem fieldAt_cons_succ (b : Byte) (l : List Byte) (i n : Nat) : fieldAt (b :: l) (i + 1) n = fieldAt l i n := rfl
@[simp] theorem fieldAt_skip2 (v : Nat) (l : List Byte) (i n : Nat) : fieldAt (leBytes 2 v ++ l) (i + 2) n = fieldAt l i n := rfl
@[simp] theorem fieldAt_skip4 (v : Nat) (l : List Byte) (i n : Nat) : fieldAt (leBytes 4 v ++ l) (i + 4) n = fieldAt l i n := rfl
@[simp] theorem fieldAt_skip6 (v : Nat) (l : List Byte) (i n : Nat) : fieldAt (leBytes 6 v ++ l) (i + 6) n = fieldAt l i n := rfl
@[simp] theorem halfAt_cons_succ (b : Byte) (l : List Byte) (i : Nat) : halfAt (b :: l) (i + 1) = halfAt l i := rfl
@[simp] theorem halfAt_skip2 (v : Nat) (l : List Byte) (i : Nat) : halfAt (leBytes 2 v ++ l) (i + 2) = halfAt l i := rfl
@[simp] theorem halfAt_skip4 (v : Nat) (l : List Byte) (i : Nat) : halfAt (leBytes 4 v ++ l) (i + 4) = halfAt l i := rfl
@[simp] theorem byteAt_cons_zero (b : Byte) (l : List Byte) : byteAt (b :: l) 0 = b := rfl
@[simp] theorem byteAt_cons_succ (b : Byte) (l : List Byte) (i : Nat) : byteAt (b :: l) (i + 1) = byteAt l i := rfl
@[simp] theorem byteAt_skip2 (v : Nat) (l : List Byte) (i : Nat) : byteAt (leBytes 2 v ++ l) (i + 2) = byteAt l i := rfl
@[simp] theorem byteAt_skip4 (v : Nat) (l : List Byte) (i : Nat) : byteAt (leBytes 4 v ++ l) (i + 4) = byteAt l i := rfl
@[simp] theorem byteAt_skip6 (v : Nat) (l : List Byte) (i : Nat) : byteAt (leBytes 6 v ++ l) (i + 6) = byteAt l i := rfl

end Sys2Proof.Machine
end

section
/-! SUPPORT. Announcements read back at their peers (R34, R36, R44): what the role of an entry permits, and the BEACONs of usable form. -/

namespace Sys2Proof.Machine

theorem offerPermitted_iff (r : Option Role) : offerPermitted r = true ↔ ¬(r = some .relay ∨ r = some .headset) := by
  rcases r with _ | r
  · decide
  · cases r <;> decide

theorem claimPermitted_iff (r : Option Role) : claimPermitted r = true ↔ ¬ r = some .source := by
  rcases r with _ | r
  · decide
  · cases r <;> decide

theorem modeSetPermitted_iff (r : Option Role) : modeSetPermitted r = true ↔ ¬ r = some .battery := by
  rcases r with _ | r
  · decide
  · cases r <;> decide

variable (e : Entry) (a : Addr) (lt ll : Nat)

theorem Entry.take_offer (o : Offer) (ho : o.current ≤ 65535) : Entry.take ⟨a, .offer, offerPayload o, lt, ll⟩ e =
    if e.role = some .relay ∨ e.role = some .headset then e else { e with offer := some o } := by
  have hcur : fieldAt (offerPayload o) 0 2 = o.current := by
    rw [offerPayload, fieldAt_leBytes]; omega
  have hst : byteAt (offerPayload o) 2 = o.state := rfl
  simp only [Entry.take, hcur, hst, offerPermitted_iff, ite_not]

theorem Entry.take_claim (c : Claim) (hf : c.floor ≤ 65535) (hw : c.want ≤ 65535) (hc : c.cls ≤ 255) :
    Entry.take ⟨a, .claim, claimPayload c, lt, ll⟩ e =
      if e.role = some .source then e else { e with claim := some c } := by
  have hfloor : fieldAt (claimPayload c) 0 2 = c.floor := by
    rw [claimPayload, List.append_assoc, fieldAt_leBytes]; omega
  have hwant : fieldAt (claimPayload c) 2 2 = c.want := by
    rw [claimPayload, List.append_assoc, fieldAt_skip2 _ _ 0, fieldAt_leBytes]; omega
  have hcls : (byteAt (claimPayload c) 4).toNat = c.cls := by
    rw [show byteAt (claimPayload c) 4 = BitVec.ofNat 8 c.cls from rfl, BitVec.toNat_ofNat]; omega
  simp only [Entry.take, hfloor, hwant, hcls, claimPermitted_iff, ite_not]

theorem Entry.take_modeset (r : Half) (c : Grade) (l : List Grade) :
    Entry.take ⟨a, .modeset, modeSetPayload r c l, lt, ll⟩ e =
      if e.role = some .battery then e else { e with modeSet := some ⟨r, l.map gradeCode, gradeCode c⟩ } := by
  have hround : halfAt (modeSetPayload r c l) 0 = r := halfAt_half r _
  have hgrades : (modeSetPayload r c l).drop 3 = l.map gradeCode := rfl
  have hceiling : byteAt (modeSetPayload r c l) 2 = gradeCode c := rfl
  simp only [Entry.take, hround, hgrades, hceiling, modeSetPermitted_iff, ite_not]

theorem Entry.take_confirm (r : Half) (g : Grade) :
    Entry.take ⟨a, .confirm, confirmPayload r (some g), lt, ll⟩ e =
      if e.role = some .battery then e else { e with confirm := some ⟨r, gradeCode g⟩ } := by
  have hround : halfAt (confirmPayload r (some g)) 0 = r := halfAt_half r _
  have hgrade : byteAt (confirmPayload r (some g)) 2 = gradeCode g := rfl
  simp only [Entry.take, hround, hgrade, modeSetPermitted_iff, ite_not]

/-! ## BEACONs (R44) -/

theorem roleOfCode_eq_some (b : Byte) (r : Role) : roleOfCode b = some r ↔ b = r.code := by
  unfold roleOfCode
  constructor
  · intro h
    split_ifs at h with h1 h2 h3 h4 <;> obtain rfl := Option.some.inj h <;> assumption
  · rintro rfl
    cases r <;> rfl

/-- A BEACON is of usable form when it names a role and has the length that fits it. -/
theorem beaconRole_eq_some (p : List Byte) (r : Role) :
    beaconRole p = some r ↔ byteAt p 4 = r.code ∧ p.length = (if r = .headset then 11 else 6) := by
  rw [← roleOfCode_eq_some]
  unfold beaconRole
  cases h : roleOfCode (byteAt p 4) with
  | none => simp
  | some r' =>
    cases r' <;> cases r <;> simp

theorem beaconRole_eq_none (p : List Byte) :
    beaconRole p = none ↔ ∀ r : Role, ¬(byteAt p 4 = r.code ∧ p.length = (if r = .headset then 11 else 6)) := by
  simp only [← beaconRole_eq_some, Option.eq_none_iff_forall_ne_some, ne_eq]

/-- Role and summary are set, what the new role does not permit goes, and the anchor is a HEADSET's alone. -/
theorem Entry.takeBeacon_eq (r : Role) (p : List Byte) : e.takeBeacon r p lt = { e with
    role := some r, summary := some (byteAt p 5)
    offer := if r = .source ∨ r = .battery then e.offer else none
    claim := if r = .source then none else e.claim
    modeSet := if r = .battery then none else e.modeSet
    confirm := if r = .battery then none else e.confirm
    anchor := if r = .headset then beaconAnchor p lt e.anchor else none } := by
  cases r <;> rfl

/-- The period code 1 or 2 keeps or rebuilds the anchor, any other removes it (R44, R183). -/
theorem beaconAnchor_eq (p : List Byte) (old : Option Anchor) : beaconAnchor p lt old =
    if (byteAt p 10).toNat = 1 ∨ (byteAt p 10).toNat = 2 then
      some ⟨(match old.filter (fun x => decide (x.time % 2 ^ 32 = fieldAt p 6 4)) with
        | some x => x.time
        | none => rebuildTether lt (fieldAt p 6 4)), decide ((byteAt p 10).toNat = 2)⟩
    else none := by
  have h1 : byteAt p 10 = 1 ↔ (byteAt p 10).toNat = 1 := by rw [← BitVec.toNat_inj]; rfl
  have h2 : byteAt p 10 = 2 ↔ (byteAt p 10).toNat = 2 := by rw [← BitVec.toNat_inj]; rfl
  have hcode : (byteAt p 10 == 2) = decide ((byteAt p 10).toNat = 2) := by
    rw [Bool.eq_iff_iff]; simpa using h2
  unfold beaconAnchor
  simp only [h1, h2, hcode]
  split
  · cases old with
    | none => rfl
    | some x => by_cases hx : x.time % 2 ^ 32 = fieldAt p 6 4 <;> simp only [Option.filter, hx, decide_true, decide_false, if_true, Bool.false_eq_true, if_false]
  · rfl

/-- Settles O25: the four announcements, then the BEACON by its role and period code. -/
theorem announcementsReadBack : Obligations.AnnouncementsReadBack := by
  intro e a lt ll
  refine ⟨fun o ho => e.take_offer a lt ll o ho, fun c hf hw hc => e.take_claim a lt ll c hf hw hc,
    fun r c l => e.take_modeset a lt ll r c l, fun r g => e.take_confirm a lt ll r g, fun p => ⟨fun hn => ?_, fun r hr => ?_⟩⟩
  · simp only [Entry.take, (beaconRole_eq_none p).2 hn]
  · have ht : Entry.take ⟨a, .beacon, p, lt, ll⟩ e = e.takeBeacon r p lt := by
      simp only [Entry.take, (beaconRole_eq_some p r).2 hr]
    simp only [ht, Entry.takeBeacon_eq]
    refine ⟨⟨_, rfl⟩, fun hh => by rw [if_neg hh], fun hh => ?_⟩
    rw [if_pos hh, beaconAnchor_eq]
    refine ⟨fun h1 h2 => by rw [if_neg (not_or.2 ⟨h1, h2⟩)], fun hc => ⟨fun x hx hfield => ?_, fun hother => ?_⟩⟩
    · simp only [if_pos hc, hx, hfield, Option.filter, decide_true, if_true]
    · have hnone : e.anchor.filter (fun x => decide (x.time % 2 ^ 32 = fieldAt p 6 4)) = none := by
        cases hx : e.anchor with
        | none => rfl
        | some x => simp only [Option.filter, decide_eq_true_eq, if_neg (hother x hx)]
      rw [if_pos hc, hnone]

end Sys2Proof.Machine
end

section
/-! SUPPORT. Lane packets and MOTION bursts read back as the fields they were formed from (sections 11.1 and 11.3, R112, R184). -/

namespace Sys2Proof.Machine

variable {s : State}

/-- Only the low 32 bits of a time field count (R46). -/
theorem rebuildTether_mod (t v : Nat) : rebuildTether t (v % 2 ^ 32) = rebuildTether t v := by
  unfold rebuildTether; rw [Nat.mod_mod]

@[simp] theorem rebuildTether_fieldAt (t v : Nat) (l : List Byte) :
    rebuildTether t (fieldAt (leBytes 4 v ++ l) 0 4) = rebuildTether t v := by
  rw [fieldAt_leBytes]; exact rebuildTether_mod t v

/-! ## Motion records (section 11.1) -/

/-- Twice a power of two and what is below it: a flag's place in a word. -/
theorem toNat_motionFlags (r : MotionRecord) : (BitVec.ofNat 16 (motionFlags r)).toNat =
    r.clipped.toNat + 64 * r.range.toNat + 128 * r.rateChanged.toNat + 256 * r.fallback.toNat + 512 * r.rate.toNat := by
  have hclipped := r.clipped.isLt
  have hrate := r.rate.isLt
  rw [BitVec.toNat_ofNat, motionFlags]
  cases r.range <;> cases r.rateChanged <;> cases r.fallback <;> simp only [Bool.toNat, cond, if_true, Bool.false_eq_true, if_false] <;> omega

/-- The flags' word reads back as the flags. -/
theorem motionFlags_read (r : MotionRecord) : let flags := BitVec.ofNat 16 (motionFlags r)
    flags.extractLsb' 0 6 = r.clipped ∧ flags.getLsbD 6 = r.range ∧ flags.getLsbD 7 = r.rateChanged ∧
      flags.getLsbD 8 = r.fallback ∧ flags.extractLsb' 9 2 = r.rate := by
  intro flags
  have hclipped := r.clipped.isLt
  have hrate := r.rate.isLt
  have hflags : flags.toNat = _ := toNat_motionFlags r
  have hbit : ∀ i, flags.getLsbD i = decide (flags.toNat / 2 ^ i % 2 = 1) := fun i => Nat.testBit_eq_decide_div_mod_eq
  refine ⟨BitVec.eq_of_toNat_eq ?_, ?_, ?_, ?_, BitVec.eq_of_toNat_eq ?_⟩
  · rw [BitVec.extractLsb'_toNat, hflags, Nat.shiftRight_zero]; omega
  · rw [hbit, hflags]; cases r.range <;> simp only [Bool.toNat, cond, decide_eq_true_eq, decide_eq_false_iff_not] <;> omega
  · have := Bool.toNat_lt r.range
    rw [hbit, hflags]; cases r.rateChanged <;> simp only [Bool.toNat_true, Bool.toNat_false, decide_eq_true_eq, decide_eq_false_iff_not] <;> omega
  · have := Bool.toNat_lt r.range
    have := Bool.toNat_lt r.rateChanged
    rw [hbit, hflags]; cases r.fallback <;> simp only [Bool.toNat_true, Bool.toNat_false, decide_eq_true_eq, decide_eq_false_iff_not] <;> omega
  · have := Bool.toNat_lt r.range
    have := Bool.toNat_lt r.rateChanged
    have := Bool.toNat_lt r.fallback
    rw [BitVec.extractLsb'_toNat, hflags, Nat.shiftRight_eq_div_pow]; omega

theorem axesAt_axesBytes (a : Axes) (l : List Byte) : axesAt (axesBytes a ++ l) 0 = a := by
  simp [axesAt, axesBytes, List.append_assoc]

theorem motionOfBytes_motionPayload (r : MotionRecord) (stamp : Nat) (l : List Byte) :
    motionOfBytes (motionPayload r ++ l) stamp = { r with stamp := stamp } := by
  obtain ⟨hclipped, hrange, hchanged, hfallback, hrate⟩ := motionFlags_read r
  have hflags : BitVec.ofNat 16 (fieldAt (motionPayload r ++ l) 18 2) = BitVec.ofNat 16 (motionFlags r) := by
    have hfield : fieldAt (motionPayload r ++ l) 18 2 = motionFlags r % 256 ^ 2 := by
      simp only [motionPayload, axesBytes, List.append_assoc, fieldAt_skip2, fieldAt_skip4, fieldAt_leBytes]
    rw [hfield]
    exact BitVec.eq_of_toNat_eq (by simp)
  have hsequence : halfAt (motionPayload r ++ l) 0 = r.sequence := by simp [motionPayload, List.append_assoc]
  have haxes : axesAt (motionPayload r ++ l) 6 = r.axes := by
    simp [motionPayload, axesAt, axesBytes, List.append_assoc]
  simp only [motionOfBytes, hflags, hsequence, haxes, hclipped, hrange, hchanged, hfallback, hrate]

theorem motionPayload_length (r : MotionRecord) : (motionPayload r).length = 20 := by
  simp [motionPayload, axesBytes, leBytes_length]

theorem motionPayload_stamp (r : MotionRecord) (t : Nat) (l : List Byte) :
    rebuildTether t (fieldAt (motionPayload r ++ l) 2 4) = rebuildTether t r.stamp := by
  simp [motionPayload, List.append_assoc]

/-! ## Frames and samples -/

theorem framesAt_skip (l r : List Byte) (n i : Nat) : framesAt (l ++ r) n (l.length + i) = framesAt r n i := by
  induction n generalizing i with
  | zero => rfl
  | succ n ih => simp [framesAt, halfAt, fieldAt, ih, Nat.add_assoc]

theorem samplesAt_skip (l r : List Byte) (n i : Nat) : samplesAt (l ++ r) n (l.length + i) = samplesAt r n i := by
  induction n generalizing i with
  | zero => rfl
  | succ n ih => simp [samplesAt, halfAt, fieldAt, ih, Nat.add_assoc]

theorem frameBytes_length (f : Half × Half) : (frameBytes f).length = 4 := rfl

theorem framesAt_frameBytes (frames : List (Half × Half)) (l : List Byte) :
    framesAt (frames.flatMap frameBytes ++ l) frames.length 0 = frames := by
  induction frames with
  | nil => rfl
  | cons f rest ih =>
    have hrest : framesAt (frameBytes f ++ (rest.flatMap frameBytes ++ l)) rest.length 4 = rest :=
      (framesAt_skip (frameBytes f) _ _ 0).trans ih
    rw [List.flatMap_cons, List.append_assoc, List.length_cons, framesAt, hrest]
    simp [frameBytes, List.append_assoc]

theorem samplesAt_sampleBytes (samples : List Half) (l : List Byte) :
    samplesAt (samples.flatMap (fun v => leBytes 2 v.toNat) ++ l) samples.length 0 = samples := by
  induction samples with
  | nil => rfl
  | cons v rest ih =>
    have hrest : samplesAt (leBytes 2 v.toNat ++ (rest.flatMap (fun v => leBytes 2 v.toNat) ++ l)) rest.length 2 = rest :=
      (samplesAt_skip (leBytes 2 v.toNat) _ _ 0).trans ih
    rw [List.flatMap_cons, List.append_assoc, List.length_cons, samplesAt, hrest, halfAt_half]

theorem flatMap_frameBytes_length (frames : List (Half × Half)) : (frames.flatMap frameBytes).length = 4 * frames.length := by
  rw [List.length_flatMap, List.map_congr_left (fun f _ => frameBytes_length f), List.map_const', List.sum_replicate]
  simp [Nat.mul_comm]

theorem flatMap_sampleBytes_length (samples : List Half) :
    (samples.flatMap (fun v => leBytes 2 v.toNat)).length = 2 * samples.length := by
  rw [List.length_flatMap, List.map_congr_left (fun v _ => leBytes_length 2 v.toNat), List.map_const', List.sum_replicate]
  simp [Nat.mul_comm]

/-! ## Packets -/

theorem packetKindOfCode_code (k : PacketKind) : packetKindOfCode k.code = some k := by cases k <;> rfl

theorem makePacket_bytes (k : PacketKind) (fields : List Byte) : (makePacket k fields).bytes =
    k.code :: (fields ++ leBytes 4 (crc32 (k.code :: fields)).toNat) := rfl

/-- A packet of the length and the contents R184 gives its kind is good on its lane: the check over it is the one it carries. -/
theorem goodPacket_makePacket (k : PacketKind) (fields : List Byte)
    (hlength : fields.length + 5 = packetLength k (makePacket k fields).bytes)
    (hcontent : packetContentOk k (makePacket k fields).bytes = true) :
    goodPacket k.lane (makePacket k fields).bytes = some k := by
  have hcode : packetKindOfCode (byteAt (makePacket k fields).bytes 0) = some k := packetKindOfCode_code k
  have hlen : (makePacket k fields).bytes.length = fields.length + 5 := by
    rw [makePacket_bytes, List.length_cons, List.length_append, leBytes_length]
  have hsplit : (makePacket k fields).bytes.length - 4 = (k.code :: fields).length := by
    rw [hlen, List.length_cons]; omega
  have htake : (makePacket k fields).bytes.take (k.code :: fields).length = k.code :: fields := List.take_left
  have hdrop : (makePacket k fields).bytes.drop (k.code :: fields).length = leBytes 4 (crc32 (k.code :: fields)).toNat :=
    List.drop_left
  simp only [goodPacket, hcode]
  exact if_pos ⟨trivial, hlen.trans hlength, hcontent, by rw [hsplit, htake, hdrop]⟩

/-! ## What each block is handed, for any bytes -/

section handed

variable (c : Counter) (b : List Byte)

theorem packetArrives_slice : (s.bump c).packetArrives .slice b = (s.bump c).sliceArrives (halfAt b 1) (byteAt b 3).toNat
    (rebuildTether s.clock.tether (fieldAt b 4 4)) ((b.drop 10).take (fieldAt b 8 2)) := rfl
theorem packetArrives_audio : (s.bump c).packetArrives .audio b = (s.bump c).audioArrives (halfAt b 1)
    (rebuildTether s.clock.tether (fieldAt b 3 4)) (framesAt b 48 7) := rfl
theorem packetArrives_motion : (s.bump c).packetArrives .motion b = (s.bump c).recordArrives (motionOfBytes (b.drop 1)
    (rebuildTether s.clock.tether (fieldAt (b.drop 1) 2 4))) := by
  have hfield : fieldAt (b.drop 1) 2 4 = fieldAt b 3 4 := by simp only [fieldAt, List.drop_drop]
  rw [hfield]; rfl
theorem packetArrives_mic : (s.bump c).packetArrives .mic b = (s.bump c).micArrives
    (rebuildTether s.clock.tether (fieldAt b 3 4)) (samplesAt b 48 7) := rfl
theorem packetArrives_frameShown : (s.bump c).packetArrives .frameShown b = (s.bump c).frameShownArrives
    ⟨halfAt b 1, rebuildTether s.clock.tether (fieldAt b 3 4), byteAt b 7⟩ := rfl

end handed

/-- A good packet at the end node it is for is counted and handed to its block. -/
theorem exec_lanePacketReceived_good {lane : Lane} {k : PacketKind} {b : List Byte} (hp : s.powered = true)
    (howns : ownsRx s.role lane = true) (hlocked : s.lanes.rx lane = .locked) (hdoze : s.dozesOn lane = false)
    (hrole : s.role ≠ .relay) (hgood : goodPacket lane b = some k) :
    exec (.lanePacketReceived lane b) s = .next ((s.bump (packetCounter lane)).packetArrives k b) := by
  have hbumped : ((s.bump (packetCounter lane)).packetArrives k b).restartDoze lane =
      (s.bump (packetCounter lane)).packetArrives k b := by
    have hr : ((s.bump (packetCounter lane)).packetArrives k b).role = s.role := role_of_core (by simp)
    exact if_neg (fun h => hrole (hr ▸ h.1))
  have htaken : s.takePacket lane b = (s.bump (packetCounter lane)).packetArrives k b := by
    simp only [State.takePacket, hgood, if_neg hrole]
  rw [show exec (.lanePacketReceived lane b) s = execLanePacketReceived lane b s from rfl, execLanePacketReceived,
    whilePowered_on hp, if_pos ⟨howns, hlocked⟩, if_neg (by rw [hdoze]; decide), htaken, hbumped]

section kinds

variable (hp : s.powered = true)
include hp

section headset

variable (hr : s.role = .headset) (hl : s.lanes.downRx = .locked) (hd : s.lanes.dozing = false)
include hr hl hd

theorem exec_packet_down {k : PacketKind} {b : List Byte} (hgood : goodPacket .down b = some k) :
    exec (.lanePacketReceived .down b) s = .next ((s.bump cPacketsDown).packetArrives k b) :=
  exec_lanePacketReceived_good hp (by rw [hr]; rfl) hl (by rw [State.dozesOn, hd]; rfl) (by rw [hr]; decide) hgood

theorem exec_slicePacket (q : SendSlice) (hne : 1 ≤ q.bytes.length) (hle : q.bytes.length ≤ 65535) (hi : q.index ≤ 11) :
    exec (.lanePacketReceived .down (slicePacket q).bytes) s = .next
      ((s.bump cPacketsDown).sliceArrives q.frame q.index (rebuildTether s.clock.tether q.time) q.bytes) := by
  obtain ⟨c, hc⟩ : ∃ c, (slicePacket q).bytes = PacketKind.slice.code :: (leBytes 2 q.frame.toNat ++ (BitVec.ofNat 8 q.index ::
      (leBytes 4 q.time ++ (leBytes 2 q.bytes.length ++ (q.bytes ++ c))))) :=
    ⟨_, by rw [slicePacket, makePacket_bytes]; simp only [List.append_assoc, List.singleton_append]; rfl⟩
  have hcount : fieldAt (slicePacket q).bytes 8 2 = q.bytes.length := by
    simp only [hc, fieldAt_cons_succ, fieldAt_skip2, fieldAt_skip4, fieldAt_leBytes]; omega
  have hindex : (byteAt (slicePacket q).bytes 3).toNat = q.index := by
    simp only [hc, byteAt_cons_succ, byteAt_skip2, byteAt_cons_zero, BitVec.toNat_ofNat]; omega
  have hframe : halfAt (slicePacket q).bytes 1 = q.frame := by simp only [hc, halfAt_cons_succ, halfAt_half]
  have htime : rebuildTether s.clock.tether (fieldAt (slicePacket q).bytes 4 4) = rebuildTether s.clock.tether q.time := by
    simp only [hc, fieldAt_cons_succ, fieldAt_skip2, rebuildTether_fieldAt]
  have hbytes : ((slicePacket q).bytes.drop 10).take q.bytes.length = q.bytes := by
    rw [hc]; exact List.take_left
  have hgood : goodPacket .down (slicePacket q).bytes = some .slice := by
    refine goodPacket_makePacket .slice _ ?_ ?_
    · show _ = 14 + fieldAt (slicePacket q).bytes 8 2
      rw [hcount]; simp only [List.length_append, leBytes_length, List.length_singleton]; omega
    · show decide (fieldAt (slicePacket q).bytes 8 2 ≠ 0 ∧ (byteAt (slicePacket q).bytes 3).toNat ≤ 11) = true
      rw [hcount, hindex]; exact decide_eq_true ⟨by omega, hi⟩
  rw [exec_packet_down hp hr hl hd hgood]
  rw [packetArrives_slice, hframe, hindex, htime, hcount, hbytes]

theorem exec_audioPacket (seq : Half) (pt : Nat) (frames : List (Half × Half)) (hn : frames.length = 48) :
    exec (.lanePacketReceived .down (audioPacket seq pt frames).bytes) s = .next
      ((s.bump cPacketsDown).audioArrives seq (rebuildTether s.clock.tether pt) frames) := by
  obtain ⟨c, hc⟩ : ∃ c, (audioPacket seq pt frames).bytes = PacketKind.audio.code :: (leBytes 2 seq.toNat ++
      (leBytes 4 pt ++ (frames.flatMap frameBytes ++ c))) :=
    ⟨_, by rw [audioPacket, makePacket_bytes]; simp only [List.append_assoc]; rfl⟩
  have hseq : halfAt (audioPacket seq pt frames).bytes 1 = seq := by simp only [hc, halfAt_cons_succ, halfAt_half]
  have htime : rebuildTether s.clock.tether (fieldAt (audioPacket seq pt frames).bytes 3 4) = rebuildTether s.clock.tether pt := by
    simp only [hc, fieldAt_cons_succ, fieldAt_skip2, rebuildTether_fieldAt]
  have hframes : framesAt (audioPacket seq pt frames).bytes 48 7 = frames := by
    rw [hc, ← hn]
    exact (framesAt_skip (PacketKind.audio.code :: (leBytes 2 seq.toNat ++ leBytes 4 pt)) _ _ 0).trans
      (framesAt_frameBytes frames c)
  have hgood : goodPacket .down (audioPacket seq pt frames).bytes = some .audio := by
    refine goodPacket_makePacket .audio _ ?_ rfl
    simp only [List.length_append, leBytes_length, flatMap_frameBytes_length, hn, packetLength]
  rw [exec_packet_down hp hr hl hd hgood]
  rw [packetArrives_audio, hseq, htime, hframes]

end headset

section source

variable (hr : s.role = .source) (hl : s.lanes.upRx = .locked)
include hr hl

theorem exec_packet_up {k : PacketKind} {b : List Byte} (hgood : goodPacket .up b = some k) :
    exec (.lanePacketReceived .up b) s = .next ((s.bump cPacketsUp).packetArrives k b) :=
  exec_lanePacketReceived_good hp (by rw [hr]; rfl) hl (by simp [State.dozesOn]) (by rw [hr]; decide) hgood

theorem exec_motionPacket (r : MotionRecord) :
    exec (.lanePacketReceived .up (makePacket .motion (motionPayload r)).bytes) s = .next
      ((s.bump cPacketsUp).recordArrives { r with stamp := rebuildTether s.clock.tether r.stamp }) := by
  have hgood : goodPacket .up (makePacket .motion (motionPayload r)).bytes = some .motion :=
    goodPacket_makePacket .motion _ (by rw [motionPayload_length]; rfl) rfl
  rw [exec_packet_up hp hr hl hgood]
  have hfields : (makePacket .motion (motionPayload r)).bytes.drop 1 =
      motionPayload r ++ leBytes 4 (crc32 (PacketKind.motion.code :: motionPayload r)).toNat := rfl
  rw [packetArrives_motion, hfields, motionPayload_stamp, motionOfBytes_motionPayload]

theorem exec_micPacket (seq : Half) (time : Nat) (samples : List Half) (hn : samples.length = 48) :
    exec (.lanePacketReceived .up (micPacket seq time samples).bytes) s = .next
      ((s.bump cPacketsUp).micArrives (rebuildTether s.clock.tether time) samples) := by
  obtain ⟨c, hc⟩ : ∃ c, (micPacket seq time samples).bytes = PacketKind.mic.code :: (leBytes 2 seq.toNat ++
      (leBytes 4 time ++ (samples.flatMap (fun v => leBytes 2 v.toNat) ++ c))) :=
    ⟨_, by rw [micPacket, makePacket_bytes]; simp only [List.append_assoc]; rfl⟩
  have htime : rebuildTether s.clock.tether (fieldAt (micPacket seq time samples).bytes 3 4) = rebuildTether s.clock.tether time := by
    simp only [hc, fieldAt_cons_succ, fieldAt_skip2, rebuildTether_fieldAt]
  have hsamples : samplesAt (micPacket seq time samples).bytes 48 7 = samples := by
    rw [hc, ← hn]
    exact (samplesAt_skip (PacketKind.mic.code :: (leBytes 2 seq.toNat ++ leBytes 4 time)) _ _ 0).trans
      (samplesAt_sampleBytes samples c)
  have hgood : goodPacket .up (micPacket seq time samples).bytes = some .mic := by
    refine goodPacket_makePacket .mic _ ?_ rfl
    simp only [List.length_append, leBytes_length, flatMap_sampleBytes_length, hn, packetLength]
  rw [exec_packet_up hp hr hl hgood]
  rw [packetArrives_mic, htime, hsamples]

theorem exec_frameShownPacket (n : Half) (time : Nat) (rep : Byte) (hrep : rep.toNat ≤ 12) :
    exec (.lanePacketReceived .up (makePacket .frameShown (leBytes 2 n.toNat ++ leBytes 4 time ++ [rep])).bytes) s = .next
      ((s.bump cPacketsUp).frameShownArrives ⟨n, rebuildTether s.clock.tether time, rep⟩) := by
  obtain ⟨b, hb⟩ : ∃ b, b = (makePacket .frameShown (leBytes 2 n.toNat ++ leBytes 4 time ++ [rep])).bytes := ⟨_, rfl⟩
  obtain ⟨c, hc⟩ : ∃ c, b = PacketKind.frameShown.code :: (leBytes 2 n.toNat ++ (leBytes 4 time ++ (rep :: c))) :=
    ⟨_, by rw [hb, makePacket_bytes]; simp only [List.append_assoc, List.singleton_append]; rfl⟩
  have hrepeated : byteAt b 7 = rep := by
    simp only [hc, byteAt_cons_succ, byteAt_skip2, byteAt_skip4 _ _ 0, byteAt_cons_zero]
  have hnumber : halfAt b 1 = n := by simp only [hc, halfAt_cons_succ, halfAt_half]
  have htime : rebuildTether s.clock.tether (fieldAt b 3 4) = rebuildTether s.clock.tether time := by
    simp only [hc, fieldAt_cons_succ, fieldAt_skip2, rebuildTether_fieldAt]
  have hgood : goodPacket .up b = some .frameShown := by
    rw [hb]
    refine goodPacket_makePacket .frameShown _ ?_ (decide_eq_true (by rw [← hb, hrepeated]; exact hrep))
    simp only [List.length_append, leBytes_length, packetLength, List.length_singleton]
  rw [← hb, exec_packet_up hp hr hl hgood]
  rw [packetArrives_frameShown, hnumber, htime, hrepeated]

end source

end kinds

/-- Settles O43: the MOTION burst, the SOURCE's last four records, and each kind of packet. -/
theorem lanePacketsArriveWhole : Obligations.LanePacketsArriveWhole := by
  refine ⟨fun s r a lt ll => ?_, fun s r => ⟨rfl, fun hl => ?_, fun oldest rest hl hn => ?_⟩, fun s hp =>
    ⟨fun hr hl hd => ⟨exec_slicePacket hp hr hl hd, exec_audioPacket hp hr hl hd⟩, fun hr hl =>
      ⟨exec_motionPacket hp hr hl, exec_micPacket hp hr hl, exec_frameShownPacket hp hr hl⟩⟩⟩
  · refine ⟨motionPayload_length r, fun hr => ?_, fun hr => ?_⟩
    · rw [State.contentArrives_motion rfl, if_neg hr]
    · have hstamp := motionPayload_stamp r lt []
      have hrecord := motionOfBytes_motionPayload r (rebuildTether lt r.stamp) []
      rw [List.append_nil] at hstamp hrecord
      rw [State.contentArrives_motion rfl, if_pos hr, hstamp, hrecord]
  · exact if_neg (by rw [List.length_append, List.length_singleton]; omega)
  · have hlen : 4 < (s.sliceSource.frames ++ [r]).length := by rw [List.length_append, List.length_singleton]; omega
    exact (if_pos hlen).trans (by rw [hl]; rfl)

end Sys2Proof.Machine
end

section
/-! SUPPORT. A step of the tether clock at the HEADSET (R47, R126, R157): what the slice and the audio controller change. -/

namespace Sys2Proof.Machine

variable {s t u : State}

/-! ## What each controller may change -/

/-- Only the lanes, the HEADSET's slice side and the picture counters differ. -/
def State.OnlyPicture (s t : State) : Prop :=
  t = { s with lanes := t.lanes, sliceHeadset := t.sliceHeadset, counters := { s.counters with picture := t.counters.picture } }

/-- Only the HEADSET's audio side and the audio counters differ. -/
def State.OnlyPlayback (s t : State) : Prop :=
  t = { s with audioHeadset := t.audioHeadset, counters := { s.counters with audio := t.counters.audio } }

theorem State.OnlyPicture.refl (s : State) : s.OnlyPicture s := rfl
theorem State.OnlyPlayback.refl (s : State) : s.OnlyPlayback s := rfl

theorem State.OnlyPicture.trans (h : s.OnlyPicture t) (h' : t.OnlyPicture u) : s.OnlyPicture u := by
  unfold State.OnlyPicture at h'
  rw [h] at h'
  exact h'

theorem State.OnlyPlayback.trans (h : s.OnlyPlayback t) (h' : t.OnlyPlayback u) : s.OnlyPlayback u := by
  unfold State.OnlyPlayback at h'
  rw [h] at h'
  exact h'

namespace State.OnlyPicture

theorem setSlot (s : State) (k : Nat) (x : Slot) : s.OnlyPicture (s.setSlot k x) := rfl
theorem show' (s : State) (k : Nat) (b : Option (List Byte)) : s.OnlyPicture (s.show k b) := rfl
theorem markNotFresh (s : State) : s.OnlyPicture s.markNotFresh := rfl
theorem count (s : State) (i n : Nat) : s.OnlyPicture (s.count (.picture i) n) := rfl

theorem freePassedOver (n : Half) (k : Nat) : s.OnlyPicture (s.freePassedOver n k) := by
  unfold State.freePassedOver; dsimp only
  (repeat' split)
  · exact .trans (.setSlot s _ _) (.count _ _ _)
  · exact .refl s
  · exact .refl s

theorem showAgain (n : Half) (k time : Nat) : s.OnlyPicture (s.showAgain n k time) := by
  unfold State.showAgain; dsimp only
  split
  · next held _ =>
    have hagain := ((setSlot s k { s.sliceHeadset.slot k with held := some ⟨n, time, held.bytes⟩ }).trans
      (.show' _ k (some held.bytes))).trans (.markNotFresh _)
    split
    · exact hagain.trans (.count _ _ _)
    · exact hagain
  · exact .trans (.show' s k none) (.markNotFresh _)

theorem showIndex (n : Half) (k time : Nat) : s.OnlyPicture (s.showIndex n k time) := by
  unfold State.showIndex; dsimp only
  (repeat' split)
  · exact ((setSlot s _ _).trans (.show' _ _ _)).trans (.count _ _ _)
  · exact .showAgain n k time
  · exact .showAgain n k time

theorem makeFrameShown (n time0 repeated : Nat) : s.OnlyPicture (s.makeFrameShown n time0 repeated) := by
  unfold State.makeFrameShown
  split <;> rfl

theorem nextScan (anchor n k : Nat) : s.OnlyPicture (s.nextScan anchor n k) := by
  unfold State.nextScan
  split
  · exact .trans (.makeFrameShown n (scanTime anchor s.straps.refresh120 n 0) s.sliceHeadset.notFresh) rfl
  · rfl

theorem scanIndex (anchor : Nat) : s.OnlyPicture (s.scanIndex anchor) :=
  ((freePassedOver _ _).trans (.showIndex _ _ _)).trans (.nextScan _ _ _)

theorem scanStep (size : Nat) : s.OnlyPicture (s.scanStep size) := by
  unfold State.scanStep; dsimp only
  (repeat' split)
  · rfl
  · exact .scanIndex _
  all_goals rfl

end State.OnlyPicture

namespace State.OnlyPlayback

theorem mapAudio (s : State) (f : AudioHeadset → AudioHeadset) : s.OnlyPlayback (s.mapAudio f) := rfl
theorem count (s : State) (i n : Nat) : s.OnlyPlayback (s.count (.audio i) n) := rfl

theorem startIfDue : s.OnlyPlayback s.startIfDue := by
  unfold State.startIfDue
  (repeat' split) <;> rfl

theorem judgeHead : s.OnlyPlayback s.judgeHead := by
  unfold State.judgeHead
  dsimp only
  split
  · exact .startIfDue
  · exact (mapAudio s _).trans (.trans (.count _ _ _) .startIfDue)

theorem audioStep : s.OnlyPlayback s.audioStep := by
  unfold State.audioStep
  (repeat' split)
  · exact .judgeHead
  · exact (mapAudio s _).trans (.trans (.count _ _ _) .judgeHead)
  · rfl
  · rfl

end State.OnlyPlayback

/-! ## The scan position (R126) -/

theorem sliceInterval_eq (p120 : Bool) : sliceInterval p120 = framePeriod p120 / 12 := rfl

/-- The first frame from a time on is the least whose slice 0 is scanned at or after it. -/
theorem firstFrameFrom_least (anchor : Nat) (p120 : Bool) (now : Nat) :
    now ≤ anchor + firstFrameFrom anchor p120 now * framePeriod p120 ∧
      ∀ m, m < firstFrameFrom anchor p120 now → anchor + m * framePeriod p120 < now := by
  unfold firstFrameFrom framePeriod
  cases p120 <;> simp only [Bool.false_eq_true, if_false, if_true] <;> exact ⟨by omega, fun m hm => by omega⟩

theorem scanStep_noAnchor (h : s.sliceHeadset.anchor = none) (size : Nat) : s.scanStep size = s := by
  simp only [State.scanStep, h]

section anchored

variable {a size : Nat} (ha : s.sliceHeadset.anchor = some a)
include ha

theorem scanStep_ahead (hsize : size < sliceInterval s.straps.refresh120) (hnow : s.clock.tether < s.nextScanTime a) :
    s.scanStep size = s := by
  simp only [State.scanStep, ha, if_pos hsize, if_neg (Nat.not_le.2 hnow)]

theorem scanStep_passed (hsize : size < sliceInterval s.straps.refresh120) (hnow : s.nextScanTime a ≤ s.clock.tether) :
    s.scanStep size = s.scanIndex a := by
  simp only [State.scanStep, ha, if_pos hsize, if_pos hnow]

theorem scanStep_long (hsize : sliceInterval s.straps.refresh120 ≤ size) : s.scanStep size =
    { s.count cSkipped (if s.sliceHeadset.index = 0 then 0 else 12 - s.sliceHeadset.index) with
      sliceHeadset := { s.sliceHeadset with
        frame := firstFrameFrom a s.straps.refresh120 s.clock.tether, index := 0, notFresh := 0 } } := by
  unfold State.scanStep
  rw [ha]
  exact if_neg (Nat.not_lt.2 hsize)

/-- SLICE_SCAN at a scan time the tether time has reached: no time passes. -/
theorem exec_sliceScan_passed (hp : s.powered = true) (hmax : s.clock.tether ≤ tetherMax)
    (hnow : s.nextScanTime a ≤ s.clock.tether) : exec .sliceScan s = .next (s.scanIndex a) := by
  have hstay : s.advanceToTether (s.nextScanTime a) = s := by
    rw [State.advanceToTether, Nat.sub_eq_zero_of_le hnow, State.advance, Nat.add_zero, Nat.add_zero, Nat.min_eq_left hmax]
  rw [show exec .sliceScan s = execSliceScan s from rfl, execSliceScan, whilePowered_on hp, ha]
  simp only [hstay, if_pos hnow]

end anchored

/-! ## The playback queue (R153, R157) -/

/-- A whole block that is late leaves the queue; the first that is not stays, with what follows it. -/
theorem dropLate_splits (now : Nat) (q : List PlayBlock) : ∃ late, q = late ++ (dropLate now q).2 ∧
    late.length = (dropLate now q).1 ∧ (∀ x ∈ late, x.lastTime < now ∧ 48 ≤ x.frames.length) ∧
    ∀ x l, (dropLate now q).2 = x :: l → x.frames.length < 48 ∨ now ≤ x.lastTime := by
  induction q with
  | nil => exact ⟨[], rfl, rfl, by simp, by simp [dropLate]⟩
  | cons b rest ih =>
    obtain ⟨late, hq, hn, hlate, hkept⟩ := ih
    unfold dropLate
    split
    · next hb =>
      rw [Bool.and_eq_true, PlayBlock.whole, PlayBlock.isLate, decide_eq_true_eq, decide_eq_true_eq] at hb
      obtain ⟨hwhole, hpast⟩ := hb
      exact ⟨b :: late, by rw [List.cons_append, ← hq], by rw [List.length_cons, hn],
        List.forall_mem_cons.2 ⟨⟨hpast, hwhole⟩, hlate⟩, hkept⟩
    · next hb =>
      rw [Bool.and_eq_true, PlayBlock.whole, PlayBlock.isLate, decide_eq_true_eq, decide_eq_true_eq, not_and_or] at hb
      refine ⟨[], rfl, rfl, by simp, fun x l hx => ?_⟩
      obtain ⟨rfl, -⟩ := List.cons.inj hx
      omega

theorem startIfDue_counters : s.startIfDue.counters = s.counters := by
  unfold State.startIfDue; (repeat' split) <;> rfl

theorem startIfDue_idle (h : s.audioHeadset.output ≠ .waiting) : s.startIfDue = s := by
  unfold State.startIfDue
  split
  · next hw _ => exact absurd hw h
  · rfl

theorem startIfDue_empty (h : s.audioHeadset.queue = []) : s.startIfDue = s := by
  unfold State.startIfDue
  split
  · next hq => rw [h] at hq; cases hq
  · rfl

theorem startIfDue_early (h : ∀ x l, s.audioHeadset.queue = x :: l → s.clock.tether < x.headTime) : s.startIfDue = s := by
  unfold State.startIfDue
  split
  · next b l _ hq => exact if_neg (Nat.not_le.2 (h b l hq))
  · rfl

theorem startIfDue_due {x : PlayBlock} {l : List PlayBlock} (hw : s.audioHeadset.output = .waiting)
    (hq : s.audioHeadset.queue = x :: l) (hx : x.headTime ≤ s.clock.tether) : s.startIfDue = s.enterPlaying := by
  simp only [State.startIfDue, hw, hq, if_pos hx]

/-- Judging at the head: the late blocks are gone and counted, the rest is the queue that playback may start from. -/
theorem judgeHead_splits (s : State) : ∃ late kept v, s.audioHeadset.queue = late ++ kept ∧
    (∀ x ∈ late, x.lastTime < s.clock.tether ∧ 48 ≤ x.frames.length) ∧
    (∀ x l, kept = x :: l → x.frames.length < 48 ∨ s.clock.tether ≤ x.lastTime) ∧
    s.judgeHead = State.startIfDue v ∧ v.clock = s.clock ∧ v.audioHeadset = { s.audioHeadset with queue := kept } ∧
    v.counters.audio = (if late = [] then s.counters.audio else addAt 1 late.length s.counters.audio) := by
  obtain ⟨late, hq, hn, hlate, hkept⟩ := dropLate_splits s.clock.tether s.audioHeadset.queue
  refine ⟨late, (dropLate s.clock.tether s.audioHeadset.queue).2, _, hq, hlate, hkept, rfl, ?_⟩
  by_cases h0 : late = []
  · have h0' : (dropLate s.clock.tether s.audioHeadset.queue).1 = 0 := by rw [← hn, h0]; rfl
    rw [if_pos h0', if_pos h0]
    have hkeep : (dropLate s.clock.tether s.audioHeadset.queue).2 = s.audioHeadset.queue := by
      rw [h0, List.nil_append] at hq; exact hq.symm
    rw [hkeep]
    exact ⟨rfl, rfl, rfl⟩
  · have h0' : ¬(dropLate s.clock.tether s.audioHeadset.queue).1 = 0 := by
      rw [← hn]; exact fun h => h0 (List.length_eq_zero_iff.1 h)
    rw [if_neg h0', if_neg h0, hn]
    exact ⟨rfl, rfl, rfl⟩

theorem addAt_getElem? (i n : Nat) (l : List Nat) : (addAt i n l)[i]? = (l[i]?).map (fun v => min (v + n) 65535) := by
  simp [addAt, saturate]

theorem addAt_addAt_getElem? (i n m : Nat) (l : List Nat) :
    (addAt i n (addAt i m l))[i]? = (l[i]?).map (fun v => min (v + (n + m)) 65535) := by
  rw [addAt_getElem?, addAt_getElem?, Option.map_map]
  congr 1
  funext v
  show min (min (v + m) 65535 + n) 65535 = _
  omega

/-! ## The audio controller's judgement (R157) -/

theorem judgeHead_empty (h : s.audioHeadset.queue = []) : s.judgeHead = s := by
  unfold State.judgeHead
  rw [h]
  exact startIfDue_empty h

theorem audioStep_waiting (hw : s.audioHeadset.output = .waiting) : s.audioStep = s.judgeHead := by
  simp only [State.audioStep, hw]

theorem audioStep_empty (hq : s.audioHeadset.queue = []) : s.audioStep = s := by
  unfold State.audioStep
  split
  · exact judgeHead_empty hq
  · next h => rw [hq] at h; cases h
  · rfl

theorem audioStep_ramping {j : Nat} (hj : s.audioHeadset.output = .ramping j) : s.audioStep = s := by
  simp only [State.audioStep, hj]

section playing

variable {b : PlayBlock} {rest : List PlayBlock} (hp : s.audioHeadset.output = .playing) (hq : s.audioHeadset.queue = b :: rest)
include hp hq

theorem audioStep_inTime (hb : s.clock.tether ≤ b.lastTime) : s.audioStep = s := by
  simp only [State.audioStep, hp, hq, PlayBlock.isLate, decide_eq_true_eq, if_neg (Nat.not_lt.2 hb)]

theorem audioStep_late (hb : b.lastTime < s.clock.tether) : s.audioStep =
    ((s.mapAudio (fun a => { a with queue := rest, twice := false })).bump cBlockLate).judgeHead := by
  simp only [State.audioStep, hp, hq, PlayBlock.isLate, decide_eq_true_eq, if_pos hb]

end playing

/-- What a clock step does at the playback queue: how many blocks were late, what is left of the queue, and what the output then does. -/
structure Judged (s t : State) (late kept : List PlayBlock) : Prop where
  none_late : late = [] → t.counters.audio = s.counters.audio
  some_late : late ≠ [] → t.counters.audio[1]? = (s.counters.audio[1]?).map (fun v => min (v + late.length) 65535)
  playing : s.audioHeadset.output = .playing → t.audioHeadset = { s.audioHeadset with queue := kept, twice := false }
  early : s.audioHeadset.output = .waiting → (∀ x l, kept = x :: l → s.clock.tether < x.headTime) →
    t.audioHeadset = { s.audioHeadset with queue := kept }
  due : s.audioHeadset.output = .waiting → ∀ x l, kept = x :: l → x.headTime ≤ s.clock.tether →
    t.audioHeadset = { s.audioHeadset with
      queue := kept, output := .playing, slipFrom := some t.clock.now, twice := false, underrun := false }

/-- Only the clock, the audio side and its counters are judged. -/
theorem Judged.congr {w t : State} {late kept : List PlayBlock} (hclock : w.clock = s.clock) (haudio : w.audioHeadset = s.audioHeadset)
    (hcount : w.counters.audio = s.counters.audio) (h : Judged w t late kept) : Judged s t late kept := by
  obtain ⟨h1, h2, h3, h4, h5⟩ := h
  rw [hclock, haudio] at h4 h5
  rw [haudio] at h3
  rw [hcount] at h1 h2
  exact ⟨h1, h2, h3, h4, h5⟩

theorem audioStep_judged_waiting (hw : s.audioHeadset.output = .waiting) : ∃ late kept, s.audioHeadset.queue = late ++ kept ∧
    (∀ x ∈ late, x.lastTime < s.clock.tether ∧ 48 ≤ x.frames.length) ∧
    (∀ x l, kept = x :: l → x.frames.length < 48 ∨ s.clock.tether ≤ x.lastTime) ∧ Judged s s.audioStep late kept := by
  obtain ⟨late, kept, v, hq, hlate, hkept, hv, hclock, haudio, hcount⟩ := judgeHead_splits s
  have hvw : v.audioHeadset.output = .waiting := by rw [haudio]; exact hw
  have hvq : v.audioHeadset.queue = kept := by rw [haudio]
  rw [audioStep_waiting hw, hv]
  have hnot : s.audioHeadset.output ≠ .playing := by rw [hw]; decide
  refine ⟨late, kept, hq, hlate, hkept, ⟨?_, ?_, fun hp => absurd hp hnot, fun _ hearly => ?_, fun _ x l hx hdue => ?_⟩⟩
  · intro h; rw [startIfDue_counters, hcount, if_pos h]
  · intro h; rw [startIfDue_counters, hcount, if_neg h, addAt_getElem?]
  · rw [startIfDue_early (by rw [hvq, hclock]; exact hearly), haudio]
  · rw [startIfDue_due hvw (hvq.trans hx) (by rw [hclock]; exact hdue)]
    show ({ v.audioHeadset with
      output := .playing, slipFrom := some v.clock.now, twice := false, underrun := false } : AudioHeadset) = _
    rw [haudio]
    rfl

theorem audioStep_judged_playing {b : PlayBlock} {rest : List PlayBlock} (hp : s.audioHeadset.output = .playing)
    (hq : s.audioHeadset.queue = b :: rest) (hb : b.lastTime < s.clock.tether) : ∃ late kept, rest = late ++ kept ∧
    (∀ x ∈ late, x.lastTime < s.clock.tether ∧ 48 ≤ x.frames.length) ∧
    (∀ x l, kept = x :: l → x.frames.length < 48 ∨ s.clock.tether ≤ x.lastTime) ∧ Judged s s.audioStep (b :: late) kept := by
  obtain ⟨late, kept, v, hrest, hlate, hkept, hv, hclock, haudio, hcount⟩ :=
    judgeHead_splits ((s.mapAudio (fun a => { a with queue := rest, twice := false })).bump cBlockLate)
  have hvp : v.audioHeadset.output ≠ .waiting := by
    rw [haudio]
    show s.audioHeadset.output ≠ .waiting
    rw [hp]; decide
  have hw : s.audioHeadset.output ≠ .waiting := by rw [hp]; decide
  rw [audioStep_late hp hq hb, hv, startIfDue_idle hvp]
  refine ⟨late, kept, hrest, hlate, hkept,
    ⟨fun h => absurd h (List.cons_ne_nil _ _), fun _ => ?_, fun _ => haudio, fun h => absurd h hw, fun h => absurd h hw⟩⟩
  rw [hcount]
  split
  · next h0 => rw [h0]; exact addAt_getElem? 1 1 s.counters.audio
  · exact addAt_addAt_getElem? 1 late.length 1 s.counters.audio

end Sys2Proof.Machine
end

section
/-! SUPPORT. What the stamp of a usable BEACON does to the tether clock (R47), and the slew tick (R48). -/

namespace Sys2Proof.Machine

variable {s : State}

/-- The clock after a step. -/
def State.withStep (s : State) (offset : Nat) : State :=
  { s with clock := { s.clock with tether := min (s.clock.tether + offset) tetherMax, slew := 0 } }

theorem stepClock_other (hr : s.role ≠ .headset) (offset : Nat) : s.stepClock offset = s.withStep offset := if_neg hr

theorem stepClock_headset (hr : s.role = .headset) (offset : Nat) :
    s.stepClock offset = ((s.withStep offset).scanStep offset).audioStep := if_pos hr

theorem stepClock_clock (offset : Nat) : (s.stepClock offset).clock = (s.withStep offset).clock := by
  by_cases hr : s.role = .headset
  · rw [stepClock_headset hr]; exact clock_of_core (by simp)
  · rw [stepClock_other hr]

/-- The audio side and its counters as the slice controller leaves them to the audio controller. -/
theorem scanStep_audio (size : Nat) : (s.scanStep size).audioHeadset = s.audioHeadset ∧
    (s.scanStep size).counters.audio = s.counters.audio ∧ (s.scanStep size).clock = s.clock := by
  rw [State.OnlyPicture.scanStep (s := s) size]
  exact ⟨rfl, rfl, rfl⟩

theorem audioStep_picture : s.audioStep.sliceHeadset = s.sliceHeadset ∧ s.audioStep.lanes = s.lanes ∧
    s.audioStep.counters.picture = s.counters.picture := by
  rw [State.OnlyPlayback.audioStep (s := s)]
  exact ⟨rfl, rfl, rfl⟩

theorem stepClock_frame (offset : Nat) : let t := s.stepClock offset
    t = { s with clock := t.clock, lanes := t.lanes, sliceHeadset := t.sliceHeadset, audioHeadset := t.audioHeadset
                 counters := { s.counters with picture := t.counters.picture, audio := t.counters.audio } } := by
  intro t
  by_cases hr : s.role = .headset
  · have hscan : (s.withStep offset).OnlyPicture ((s.withStep offset).scanStep offset) := .scanStep offset
    have haudio : ((s.withStep offset).scanStep offset).OnlyPlayback t := by
      rw [show t = s.stepClock offset from rfl, stepClock_headset hr]; exact .audioStep
    unfold State.OnlyPlayback at haudio
    rw [hscan] at haudio
    rw [haudio]
    rfl
  · rw [show t = s.stepClock offset from rfl, stepClock_other hr]
    rfl

section headset

variable (hr : s.role = .headset) (hp : s.powered = true) (size : Nat)
include hr

/-- The slice controller's part of a step is all that changes on its side (R126). -/
theorem stepClock_picture : (s.stepClock size).sliceHeadset = ((s.withStep size).scanStep size).sliceHeadset ∧
    (s.stepClock size).lanes = ((s.withStep size).scanStep size).lanes ∧
    (s.stepClock size).counters.picture = ((s.withStep size).scanStep size).counters.picture := by
  rw [stepClock_headset hr]; exact audioStep_picture

theorem stepClock_picture_same (h : (s.withStep size).scanStep size = s.withStep size) :
    (s.stepClock size).sliceHeadset = s.sliceHeadset ∧ (s.stepClock size).lanes = s.lanes ∧
    (s.stepClock size).counters.picture = s.counters.picture := by
  have hpicture := stepClock_picture hr size
  rw [h] at hpicture
  exact hpicture

theorem stepClock_audio_same (h : ((s.withStep size).scanStep size).audioStep = (s.withStep size).scanStep size) :
    (s.stepClock size).audioHeadset = s.audioHeadset ∧ (s.stepClock size).counters.audio = s.counters.audio := by
  obtain ⟨haudio, hcount, -⟩ := scanStep_audio (s := s.withStep size) size
  rw [stepClock_headset hr, h]
  exact ⟨haudio, hcount⟩

include hp in
theorem stepClock_passed {a : Nat} (ha : s.sliceHeadset.anchor = some a) (hsize : size < sliceInterval s.straps.refresh120)
    (hnow : scanTime a s.straps.refresh120 s.sliceHeadset.frame s.sliceHeadset.index ≤ (s.withStep size).clock.tether) :
    ∃ u, exec .sliceScan (s.withStep size) = .next u ∧ (s.stepClock size).sliceHeadset = u.sliceHeadset ∧
      (s.stepClock size).lanes = u.lanes ∧ (s.stepClock size).counters.picture = u.counters.picture := by
  refine ⟨(s.withStep size).scanIndex a,
    exec_sliceScan_passed (s := s.withStep size) ha hp (Nat.min_le_right _ _) hnow, ?_⟩
  rw [← scanStep_passed (s := s.withStep size) ha hsize hnow]
  exact stepClock_picture hr size

theorem stepClock_long {a : Nat} (ha : s.sliceHeadset.anchor = some a) (hsize : sliceInterval s.straps.refresh120 ≤ size) :
    (s.stepClock size).sliceHeadset = { s.sliceHeadset with
      frame := firstFrameFrom a s.straps.refresh120 (s.withStep size).clock.tether, index := 0, notFresh := 0 } ∧
    (s.stepClock size).lanes = s.lanes ∧ (s.stepClock size).counters.picture =
      (s.counters.add cSkipped (if s.sliceHeadset.index = 0 then 0 else 12 - s.sliceHeadset.index)).picture := by
  have hpicture := stepClock_picture hr size
  rw [scanStep_long (s := s.withStep size) ha hsize] at hpicture
  exact hpicture

/-- The audio controller's part of a step: the late blocks, what is left, and what the output does (R157). -/
theorem stepClock_judged {b : PlayBlock} {rest : List PlayBlock} (hq : s.audioHeadset.queue = b :: rest)
    (ho : s.audioHeadset.output = .waiting ∨ (s.audioHeadset.output = .playing ∧ b.lastTime < (s.withStep size).clock.tether)) :
    ∃ late kept, s.audioHeadset.queue = late ++ kept ∧ (∀ x ∈ late, x.lastTime < (s.withStep size).clock.tether) ∧
      (∀ x ∈ late, 48 ≤ x.frames.length ∨ (s.audioHeadset.output = .playing ∧ x = b)) ∧
      (s.audioHeadset.output = .playing → late ≠ []) ∧
      (∀ x l, kept = x :: l → x.frames.length < 48 ∨ (s.withStep size).clock.tether ≤ x.lastTime) ∧
      Judged (s.withStep size) (s.stepClock size) late kept := by
  obtain ⟨haudio, hcount, hclock⟩ := scanStep_audio (s := s.withStep size) size
  obtain ⟨w, hw⟩ : ∃ w, w = (s.withStep size).scanStep size := ⟨_, rfl⟩
  rw [← hw] at haudio hcount hclock
  have hstep : s.stepClock size = w.audioStep := by rw [hw]; exact stepClock_headset hr size
  have hq' : w.audioHeadset.queue = b :: rest := haudio ▸ hq
  have htether : w.clock.tether = (s.withStep size).clock.tether := congrArg Clock.tether hclock
  have hplaying : w.audioHeadset.output = s.audioHeadset.output := congrArg AudioHeadset.output haudio
  rw [hstep, ← htether]
  rcases ho with ho | ⟨ho, hb⟩
  · obtain ⟨late, kept, hsplit, hlate, hkept, hj⟩ := audioStep_judged_waiting (hplaying.trans ho)
    have hnot : s.audioHeadset.output ≠ .playing := by rw [ho]; decide
    exact ⟨late, kept, hq.trans (hq'.symm.trans hsplit), fun x hx => (hlate x hx).1, fun x hx => .inl (hlate x hx).2,
      fun h => absurd h hnot, hkept, hj.congr hclock haudio hcount⟩
  · obtain ⟨late, kept, hsplit, hlate, hkept, hj⟩ := audioStep_judged_playing (hplaying.trans ho) hq' (htether ▸ hb)
    exact ⟨b :: late, kept, by rw [hq, hsplit, List.cons_append],
      List.forall_mem_cons.2 ⟨htether ▸ hb, fun x hx => (hlate x hx).1⟩,
      List.forall_mem_cons.2 ⟨.inr ⟨ho, rfl⟩, fun x hx => .inl (hlate x hx).2⟩,
      fun _ => List.cons_ne_nil _ _, hkept, hj.congr hclock haudio hcount⟩

end headset

theorem clockHears_step {latched field : Nat} (h : latched + 64 ≤ rebuildTether latched field) :
    s.clockHears latched field = s.stepClock (rebuildTether latched field - latched) := by
  unfold State.clockHears; dsimp only; rw [if_pos h]

theorem clockHears_slew {latched field : Nat} (h : latched < rebuildTether latched field)
    (h64 : rebuildTether latched field < latched + 64) :
    s.clockHears latched field = s.raiseSlew (rebuildTether latched field - latched) := by
  unfold State.clockHears; dsimp only; rw [if_neg (Nat.not_le.2 h64), if_pos h]

theorem clockHears_behind {latched field : Nat} (h : rebuildTether latched field ≤ latched) : s.clockHears latched field = s := by
  unfold State.clockHears; dsimp only; rw [if_neg (by omega), if_neg (Nat.not_lt.2 h)]

theorem exec_slewTick (hp : s.powered = true) (hslew : 0 < s.clock.slew) :
    exec .slewTick s = .next { s.advanceTo (s.clock.slewFrom + slewTime) with clock := { (s.advanceTo (s.clock.slewFrom + slewTime)).clock with
      tether := min ((s.advanceTo (s.clock.slewFrom + slewTime)).clock.tether + 1) tetherMax
      slew := (s.advanceTo (s.clock.slewFrom + slewTime)).clock.slew - 1, slewFrom := s.clock.slewFrom + slewTime } } := by
  rw [show exec .slewTick s = execSlewTick s from rfl, execSlewTick, whilePowered_on hp, if_neg (Nat.pos_iff_ne_zero.1 hslew),
    runOut_running rfl]

theorem exec_slewTick_none (hp : s.powered = true) (hslew : s.clock.slew = 0) : exec .slewTick s = .next s := by
  rw [show exec .slewTick s = execSlewTick s from rfl, execSlewTick, whilePowered_on hp, if_pos hslew]

/-- Settles O27: the three cases of R47, then at a HEADSET the slice controller's part and the audio controller's. -/
theorem tetherClockIsSteered : Obligations.TetherClockIsSteered := by
  refine ⟨fun s latched field => ?_, fun s hp => ⟨exec_slewTick_none hp, fun hslew => ?_⟩⟩
  · dsimp only
    refine ⟨fun h64 => ?_, fun hlt h64 => ?_, fun hle => clockHears_behind hle⟩
    · rw [clockHears_step h64]
      obtain ⟨size, hsize⟩ : ∃ size, size = rebuildTether latched field - latched := ⟨_, rfl⟩
      rw [← hsize]
      refine ⟨stepClock_clock size, fun hr => by rw [stepClock_other hr]; rfl, stepClock_frame size, fun hr hp => ?_⟩
      have hframe : { s with clock := (s.stepClock size).clock } = s.withStep size := by rw [stepClock_clock size]; rfl
      rw [hframe, stepClock_clock size]
      refine ⟨fun ha => stepClock_picture_same hr size (scanStep_noAnchor (s := s.withStep size) ha size), fun a ha => ⟨fun hlt hnow => ?_, fun hlt hnow => ?_, fun hle => ?_⟩,
        fun hq => ?_, fun j hj => ?_, fun b rest ho hq hb => ?_, fun b rest hq ho => ?_⟩
      · exact stepClock_picture_same hr size (scanStep_ahead (s := s.withStep size) ha hlt hnow)
      · exact stepClock_passed hr hp size ha hlt hnow
      · obtain ⟨hslices, hlanes, hcount⟩ := stepClock_long hr size ha hle
        obtain ⟨hreached, hleast⟩ := firstFrameFrom_least a s.straps.refresh120 (s.withStep size).clock.tether
        exact ⟨_, hslices, hreached, hleast, hlanes, hcount⟩
      all_goals have haudio := (scanStep_audio (s := s.withStep size) size).1
      all_goals have hclock := (scanStep_audio (s := s.withStep size) size).2.2
      · exact stepClock_audio_same hr size (audioStep_empty (by rw [haudio]; exact hq))
      · exact stepClock_audio_same hr size (audioStep_ramping (j := j) (by rw [haudio]; exact hj))
      · exact stepClock_audio_same hr size (audioStep_inTime (b := b) (rest := rest) (by rw [haudio]; exact ho) (by rw [haudio]; exact hq)
          (by rw [hclock]; exact hb))
      · obtain ⟨late, kept, hsplit, hlate, hwhole, hne, hkept, hj⟩ := stepClock_judged hr size hq ho
        refine ⟨late, kept, hsplit, hlate, hwhole, hne, hkept, hj.none_late, hj.some_late, hj.playing, fun hw =>
          ⟨hj.early hw, fun x l hx hdue => ?_⟩⟩
        rw [hj.due hw x l hx hdue, stepClock_clock size]
        rfl
    · rw [clockHears_slew hlt h64]
      exact ⟨rfl, rfl, rfl, rfl⟩
  · rw [exec_slewTick hp hslew, slewTime]
    rfl

end Sys2Proof.Machine
end

section
/-! SUPPORT. What the agreement controller's steps and the forming of the mode set leave as it is (R66, R95, R97). -/

namespace Sys2Proof.Machine

variable {s t u : State}

/-! ## Sticky flags (R179) -/

theorem Flag.number_inj {f g : Flag} (h : f.number = g.number) : f = g := by
  have hcode : ∀ x : Flag, x.number = x.ctorIdx := fun x => by cases x <;> rfl
  rw [hcode, hcode] at h
  rw [← Flag.ofNat_ctorIdx f, h, Flag.ofNat_ctorIdx]

theorem Flag.number_lt (f : Flag) : f.number < 28 := by cases f <;> decide

theorem Flag.bit_getLsbD (f g : Flag) : g.bit.getLsbD f.number = decide (f = g) := by
  rw [Flag.bit, BitVec.getLsbD_ofNat, decide_eq_true f.number_lt, Bool.true_and, Nat.testBit_two_pow]
  exact decide_eq_decide.2 ⟨fun h => (Flag.number_inj h).symm, fun h => by rw [h]⟩

/-- Raising a flag sets that flag alone. -/
theorem State.raise_sticky_eq (f g : Flag) : (s.raise g).sticky f = (s.sticky f || decide (f = g)) := by
  simp only [State.sticky, State.raise, BitVec.getLsbD_or, Flag.bit_getLsbD]

theorem State.raise_sticky_ne {f g : Flag} (h : f ≠ g) : (s.raise g).sticky f = s.sticky f := by
  rw [State.raise_sticky_eq, decide_eq_false h, Bool.or_false]

/-! ## The load planner and the data blocks -/

/-- The planner computes the loads and tells the sensor port; a HEADSET's fallback timer is not its own. -/
theorem State.plan_frame (s : State) : ∃ l m, s.plan = { s with loads := l, motionHeadset := m } ∧
    m.fallbackFrom = s.motionHeadset.fallbackFrom ∧
    l = if s.tetherPowered then s.loads.moveTo s.targets s.clock.now else s.loads := by
  unfold State.plan
  split
  · rw [State.handLevels_eq]
    split
    · refine ⟨_, _, rfl, ?_, rfl⟩
      split <;> rfl
    · exact ⟨_, _, rfl, rfl, rfl⟩
  · exact ⟨_, _, rfl, rfl, rfl⟩

/-- A SOURCE whose lane leaves RUNNING holds no slice to be sent and no submission (R123). -/
def SliceSource.left (x : SliceSource) : SliceSource := { x with sendQueue := [], submission := none }

/-- A HEADSET's fallback timer starts where RUNNING is left and stops where it is entered (R141). -/
def fallbackAfter (was is : Bool) (now : Nat) (timer : Option Nat) : Option Nat :=
  if was && !is then some now else if !was && is then none else timer

/-- A SOURCE's slices and a HEADSET's fallback timer follow the leaving and the entry of RUNNING (R95). -/
theorem State.tellDataBlocks_eq (s : State) (was : Bool) : s.tellDataBlocks was = { s with
    sliceSource := if s.role = .source ∧ was = true ∧ s.running = false then s.sliceSource.left else s.sliceSource
    motionHeadset := if s.role = .headset then { s.motionHeadset with
      fallbackFrom := fallbackAfter was s.running s.clock.now s.motionHeadset.fallbackFrom } else s.motionHeadset } := by
  unfold State.tellDataBlocks State.dataBlocksLeave State.dataBlocksEnter fallbackAfter
  cases was <;> cases hs : s.running <;> cases hr : s.role <;> simp [SliceSource.left]

/-- The state after a change of the agreement state, before the planner and the data blocks are told (R95). -/
def State.ordered (st : AgreeState) (g : Option Grade) (r : Reason) (s : State) : State :=
  ({ s with agree := { s.agree with
      state := st, chosen := g, reason := r, stepFrom := if st.timed then some s.clock.now else none } } : State).orderLanes.writeSummary

/-- All that a change of the agreement state does: the lane engine and the summary, the loads, then the data blocks (R95). -/
theorem State.changeAgree_frame (s : State) (st : AgreeState) (g : Option Grade) (r : Reason) :
    let o := s.ordered st g r
    ∃ l m, m.fallbackFrom = s.motionHeadset.fallbackFrom ∧
      l = (if s.tetherPowered then s.loads.moveTo o.targets s.clock.now else s.loads) ∧
      s.changeAgree st g r = { o with
        loads := l
        sliceSource := if s.role = .source ∧ s.running = true ∧ decide (st = .running) = false then s.sliceSource.left else s.sliceSource
        motionHeadset := if s.role = .headset then { m with
          fallbackFrom := fallbackAfter s.running (decide (st = .running)) s.clock.now m.fallbackFrom } else m } := by
  intro o
  obtain ⟨l, m, hplan, hm, hl⟩ := o.plan_frame
  refine ⟨l, m, hm, hl, ?_⟩
  rw [show s.changeAgree st g r = o.plan.tellDataBlocks s.running from rfl, State.tellDataBlocks_eq, hplan]
  rfl

/-! ## Steps of the agreement controller -/

/-- `u` follows `s` by steps that may set the flag `free` alone, and that neither start RUNNING nor touch allowances, grace, periods or
what the self entry announces of itself; where RUNNING is left a SOURCE's send queue is emptied and its submission closed, and a
HEADSET's fallback timer starts (R95). -/
structure State.Handed (free : Flag) (s u : State) : Prop where
  frame  : s.PathRailFrame u
  clock  : u.clock = s.clock
  flags  : ∀ f, f ≠ free → u.sticky f = s.sticky f
  self   : u.roster.self.addr = s.roster.self.addr ∧ u.roster.self.role = s.roster.self.role ∧
    u.roster.self.anchor = s.roster.self.anchor ∧ u.roster.self.offer = s.roster.self.offer ∧ u.roster.self.claim = s.roster.self.claim
  supply : u.power.allowances = s.power.allowances ∧ u.power.lostActive = s.power.lostActive ∧ u.power.graceFrom = s.power.graceFrom
  period : u.power.offerFrom = s.power.offerFrom ∧ u.power.claimFrom = s.power.claimFrom
  starts : u.running = true → s.running = true
  slices : u.sliceSource =
    if s.role = .source ∧ s.running = true ∧ u.running = false then s.sliceSource.left else s.sliceSource
  timer  : u.motionHeadset.fallbackFrom =
    if s.role = .headset ∧ s.running = true ∧ u.running = false then some s.clock.now else s.motionHeadset.fallbackFrom

variable {free : Flag}

theorem State.PathRailFrame.trans (h : s.PathRailFrame t) (h' : t.PathRailFrame u) : s.PathRailFrame u := by
  unfold State.PathRailFrame at h'
  rw [h] at h'
  exact h'

theorem State.PathRailFrame.straps (h : s.PathRailFrame u) : u.straps = s.straps := by rw [h]
theorem State.PathRailFrame.peers (h : s.PathRailFrame u) : u.roster.peers = s.roster.peers := by rw [h]
theorem State.PathRailFrame.role (h : s.PathRailFrame u) : u.role = s.role := congrArg Straps.role h.straps

theorem State.Handed.role (h : s.Handed free u) : u.role = s.role := h.frame.role

theorem State.Handed.trans (h : s.Handed free t) (h' : t.Handed free u) : s.Handed free u where
  frame := h.frame.trans h'.frame
  clock := h'.clock.trans h.clock
  flags f hf := (h'.flags f hf).trans (h.flags f hf)
  self := by
    obtain ⟨h1, h2, h3, h4, h5⟩ := h.self
    obtain ⟨h1', h2', h3', h4', h5'⟩ := h'.self
    exact ⟨h1'.trans h1, h2'.trans h2, h3'.trans h3, h4'.trans h4, h5'.trans h5⟩
  supply := by
    obtain ⟨h1, h2, h3⟩ := h.supply
    obtain ⟨h1', h2', h3'⟩ := h'.supply
    exact ⟨h1'.trans h1, h2'.trans h2, h3'.trans h3⟩
  period := ⟨h'.period.1.trans h.period.1, h'.period.2.trans h.period.2⟩
  starts hr := h.starts (h'.starts hr)
  slices := by
    have h1 := h.starts
    have h2 := h'.starts
    rw [h'.slices, h.slices, h.role]
    cases hs : s.running <;> cases ht : t.running <;> cases hu : u.running <;> simp_all [SliceSource.left]
  timer := by
    have h1 := h.starts
    have h2 := h'.starts
    rw [h'.timer, h.timer, h.role, h.clock]
    cases hs : s.running <;> cases ht : t.running <;> cases hu : u.running <;> simp_all

namespace State.Handed

/-- Steps that leave agreement state, slices, fallback timer and flags alone. -/
theorem still (hframe : s.PathRailFrame u) (hclock : u.clock = s.clock) (hhost : u.host = s.host)
    (hself : u.roster.self.addr = s.roster.self.addr ∧ u.roster.self.role = s.roster.self.role ∧
      u.roster.self.anchor = s.roster.self.anchor ∧ u.roster.self.offer = s.roster.self.offer ∧
      u.roster.self.claim = s.roster.self.claim)
    (hsupply : u.power.allowances = s.power.allowances ∧ u.power.lostActive = s.power.lostActive ∧
      u.power.graceFrom = s.power.graceFrom)
    (hperiod : u.power.offerFrom = s.power.offerFrom ∧ u.power.claimFrom = s.power.claimFrom)
    (hrun : u.agree.state = s.agree.state) (hslices : u.sliceSource = s.sliceSource)
    (htimer : u.motionHeadset.fallbackFrom = s.motionHeadset.fallbackFrom) : s.Handed free u := by
  have hrunning : u.running = s.running := by rw [State.running, hrun]; rfl
  refine ⟨hframe, hclock, fun f _ => by rw [State.sticky, hhost]; rfl, hself, hsupply, hperiod, fun h => hrunning ▸ h, ?_, ?_⟩
  · rw [hrunning, hslices, if_neg (by simp +contextual)]
  · rw [hrunning, htimer, if_neg (by simp +contextual)]

theorem refl (s : State) : s.Handed free s :=
  still rfl rfl rfl ⟨rfl, rfl, rfl, rfl, rfl⟩ ⟨rfl, rfl, rfl⟩ ⟨rfl, rfl⟩ rfl rfl rfl

theorem plan (s : State) : s.Handed free s.plan := by
  obtain ⟨l, m, h, hm, -⟩ := s.plan_frame
  rw [h]
  exact still rfl rfl rfl ⟨rfl, rfl, rfl, rfl, rfl⟩ ⟨rfl, rfl, rfl⟩ ⟨rfl, rfl⟩ rfl rfl hm

/-- A change of state that does not enter RUNNING. -/
theorem changeAgree (s : State) {st : AgreeState} (hst : st ≠ .running) (g : Option Grade) (r : Reason) :
    s.Handed free (s.changeAgree st g r) := by
  obtain ⟨l, m, hm, -, h⟩ := s.changeAgree_frame st g r
  have hend : decide (st = .running) = false := decide_eq_false hst
  have hrun : (s.changeAgree st g r).running = false := by rw [h]; exact hend
  have hslices : (s.changeAgree st g r).sliceSource =
      if s.role = .source ∧ s.running = true ∧ decide (st = .running) = false then s.sliceSource.left else s.sliceSource := by rw [h]
  have htimer : (s.changeAgree st g r).motionHeadset = if s.role = .headset then { m with
      fallbackFrom := fallbackAfter s.running (decide (st = .running)) s.clock.now m.fallbackFrom } else m := by rw [h]
  rw [hend] at hslices htimer
  refine ⟨?frame, ?clock, ?flags, ?self, ?supply, ?period, ?starts, ?slices, ?timer⟩
  case starts => rw [hrun]; exact fun h => absurd h (by decide)
  case slices => rw [hrun, hslices]
  case timer =>
    rw [hrun, htimer, ← hm]
    cases hr : s.role <;> cases hs : s.running <;> simp [fallbackAfter]
  case flags => intro f _; rw [h]; rfl
  case frame => rw [h]; rfl
  all_goals rw [h]
  case clock => rfl
  case self => exact ⟨rfl, rfl, rfl, rfl, rfl⟩
  case supply => exact ⟨rfl, rfl, rfl⟩
  case period => exact ⟨rfl, rfl⟩

theorem halt (s : State) (r : Reason) : s.Handed free (s.halt r) := changeAgree s (by decide) none r

theorem enterSettle (s : State) (r : Reason) : s.Handed free (s.enterSettle r) := changeAgree s (by decide) none r

theorem setRound (s : State) (r : Half) : s.Handed free (s.setRound r) := by
  refine still rfl rfl rfl ?_ ⟨rfl, rfl, rfl⟩ ⟨rfl, rfl⟩ rfl rfl rfl
  unfold State.setRound
  dsimp only
  split <;> exact ⟨rfl, rfl, rfl, rfl, rfl⟩

theorem openRound (s : State) (r : Reason) : s.Handed free (s.openRound r) := by
  unfold State.openRound
  (repeat' split)
  · exact halt s _
  · exact halt s _
  · exact (setRound s _).trans (enterSettle _ _)

theorem pathChanged (s : State) : s.Handed free s.pathChanged := by
  unfold State.pathChanged
  split
  · exact openRound s _
  · exact refl s

theorem ownSetChanged (s : State) : s.Handed free s.ownSetChanged := by
  unfold State.ownSetChanged
  (repeat' split)
  · exact halt s _
  · exact openRound s _
  · exact refl s

theorem writeModeSet (s : State) (l : List Grade) (c : Grade) : s.Handed free (s.writeModeSet l c) :=
  still rfl rfl rfl ⟨rfl, rfl, rfl, rfl, rfl⟩ ⟨rfl, rfl, rfl⟩ ⟨rfl, rfl⟩ rfl rfl rfl

theorem handModeSet (s : State) (quiet : Bool) (l : List Grade) (c : Grade) : s.Handed free (s.handModeSet quiet l c) := by
  unfold State.handModeSet
  split
  · exact writeModeSet s l c
  · exact (writeModeSet s l c).trans (ownSetChanged _)

theorem handIfChanged (s : State) (quiet : Bool) (l : List Grade) (c : Grade) : s.Handed free (s.handIfChanged quiet l c) := by
  unfold State.handIfChanged
  split
  · exact refl s
  · exact handModeSet s quiet l c

theorem formModeSet (s : State) (quiet : Bool) : s.Handed free (s.formModeSet quiet) := by
  unfold State.formModeSet
  split
  · exact handIfChanged s quiet _ _
  · exact refl s
  · refine trans (t := { s with power := s.power.stepDelays s.role s.effectiveCap s.effectiveCeiling s.clock.now }) ?_
      (handIfChanged _ quiet _ _)
    exact still rfl rfl rfl ⟨rfl, rfl, rfl, rfl, rfl⟩ ⟨rfl, rfl, rfl⟩ ⟨rfl, rfl⟩ rfl rfl rfl

theorem handCap (s : State) (cap : Nat) : s.Handed free (s.handCap cap) := by
  unfold State.handCap
  split
  · exact refl s
  · refine trans (t := { s with loads := { s.loads with cap := cap } }) ?_ (plan _)
    exact still rfl rfl rfl ⟨rfl, rfl, rfl, rfl, rfl⟩ ⟨rfl, rfl, rfl⟩ ⟨rfl, rfl⟩ rfl rfl rfl

theorem syncAudioPower (s : State) : s.Handed free s.syncAudioPower := by
  rw [State.syncAudioPower_eq]
  (repeat' split) <;> exact still rfl rfl rfl ⟨rfl, rfl, rfl, rfl, rfl⟩ ⟨rfl, rfl, rfl⟩ ⟨rfl, rfl⟩ rfl rfl rfl

theorem formCap (s : State) : s.Handed free s.formCap := by
  unfold State.formCap
  split
  · exact (handCap s _).trans (syncAudioPower _)
  · exact refl s

theorem reform (s : State) : s.Handed free s.reform := (formModeSet s false).trans (formCap _)

theorem failRound (s : State) (r : Reason) : s.Handed free (s.failRound r) :=
  ((formModeSet s true).trans (openRound _ r)).trans (formCap _)

theorem enterTraining (s : State) : s.Handed free s.enterTraining := changeAgree s (by decide) _ _

/-! ## Bursts of a round heard (R97): BASE_FORCED alone may be set -/

theorem setBaseForced (s : State) : s.Handed .baseForced s.setBaseForced := by
  refine ⟨rfl, rfl, fun f hf => State.raise_sticky_ne hf, ⟨rfl, rfl, rfl, rfl, rfl⟩, ⟨rfl, rfl, rfl⟩, ⟨rfl, rfl⟩, id, ?_, ?_⟩
  · exact (if_neg (by rintro ⟨-, h, h'⟩; exact absurd (h.symm.trans h') (by decide))).symm
  · exact (if_neg (by rintro ⟨-, h, h'⟩; exact absurd (h.symm.trans h') (by decide))).symm

theorem confirmFailure (s : State) : s.Handed .baseForced s.confirmFailure := by
  unfold State.confirmFailure
  split
  · exact (setBaseForced s).trans (failRound _ _)
  · refine trans (t := { s with agree := { s.agree with failures := s.agree.failures + 1 } }) ?_ (openRound _ _)
    exact still rfl rfl rfl ⟨rfl, rfl, rfl, rfl, rfl⟩ ⟨rfl, rfl, rfl⟩ ⟨rfl, rfl⟩ rfl rfl rfl

theorem judgeConfirms (s : State) : s.Handed .baseForced s.judgeConfirms := by
  unfold State.judgeConfirms
  dsimp only
  (repeat' split)
  · exact confirmFailure s
  · exact enterTraining s
  · exact refl s

theorem offerBurst (s : State) {k : BurstKind} (hk : k ≠ .ask) (p : List Byte) : s.Handed free (s.offerBurst k p) := by
  have hpower : (s.offerBurst k p).power = s.power := by
    unfold State.offerBurst State.addEntry State.askGivenUp
    (repeat' split) <;> rfl
  have h := State.Announces.offerBurst s hk p
  unfold State.Announces at h
  rw [hpower] at h
  rw [h]
  exact still rfl rfl rfl ⟨rfl, rfl, rfl, rfl, rfl⟩ ⟨rfl, rfl, rfl⟩ ⟨rfl, rfl⟩ rfl rfl rfl

theorem enterConfirming (s : State) (g : Grade) : s.Handed .baseForced (s.enterConfirming g) := by
  have hself : (s.changeAgree .confirming (some g) s.agree.reason).Handed .baseForced
      ((s.changeAgree .confirming (some g) s.agree.reason).mapSelf
        (fun e => { e with confirm := some ⟨s.agree.round, gradeCode g⟩ })) :=
    still rfl rfl rfl ⟨rfl, rfl, rfl, rfl, rfl⟩ ⟨rfl, rfl, rfl⟩ ⟨rfl, rfl⟩ rfl rfl rfl
  exact (((changeAgree s (by decide) _ _).trans hself).trans (offerBurst _ (by decide) _)).trans (judgeConfirms _)

theorem choose (s : State) : s.Handed .baseForced s.choose := by
  unfold State.choose
  (repeat' split)
  · exact halt s _
  · exact halt s _
  · exact enterConfirming s _

theorem adopt (s : State) (r : Half) : s.Handed .baseForced (s.adopt r) := by
  unfold State.adopt
  dsimp only
  (repeat' split)
  · exact setRound s r
  · exact (setRound s r).trans (halt _ _)
  · exact (setRound s r).trans (enterSettle _ _)

theorem roundHeard (s : State) (b : Bool) (r : Half) : s.Handed .baseForced (s.roundHeard b r) := by
  unfold State.roundHeard
  (repeat' split)
  · exact refl s
  · exact adopt s r
  · exact refl s
  · exact choose s
  · exact refl s
  · exact judgeConfirms s
  · exact refl s

theorem tellRound (s : State) (h : Heard) (e : Entry) : s.Handed .baseForced (s.tellRound h e) := by
  unfold State.tellRound
  (repeat' split) <;> first | exact roundHeard s _ _ | exact refl s

end State.Handed

end Sys2Proof.Machine
end

section
/-! SUPPORT. What a change of one entry is told to, step by step (R37, R58, R66, R86, R96, R119). -/

namespace Sys2Proof.Machine

variable {s t u : State}

/-! ## Views of the roster that peers and the self entry's announcements fix -/

/-- The same peers, and of the self entry the same address, role, anchor, offer and claim. -/
structure Roster.Alike (r r' : Roster) : Prop where
  peers  : r'.peers = r.peers
  addr   : r'.self.addr = r.self.addr
  role   : r'.self.role = r.self.role
  anchor : r'.self.anchor = r.self.anchor
  offer  : r'.self.offer = r.self.offer
  claim  : r'.self.claim = r.self.claim

theorem Roster.Alike.refl (r : Roster) : r.Alike r := ⟨rfl, rfl, rfl, rfl, rfl, rfl⟩

theorem State.Handed.alike {free : Flag} (h : s.Handed free u) : s.roster.Alike u.roster :=
  ⟨h.frame.peers, h.self.1, h.self.2.1, h.self.2.2.1, h.self.2.2.2.1, h.self.2.2.2.2⟩

theorem Entry.onPath_and {e : Entry} {x : Role} (hx : atPicturePath x = true) : (e.onPath && e.role == some x) = (e.role == some x) := by
  by_cases h : e.role = some x
  · simp [Entry.onPath, h, hx]
  · simp [h]

namespace Roster.Alike

variable {r r' : Roster} (h : r.Alike r')
include h

/-- What is read off each entry alike is read off the whole roster alike. -/
theorem map_entries {α : Type} (g : Entry → α) (hg : g r'.self = g r.self) : r'.entries.map g = r.entries.map g := by
  simp only [Roster.entries, h.peers, h.addr, List.map_append, List.map_cons, hg]

theorem chainComplete : r'.chainComplete = r.chainComplete := by
  have hroles := h.map_entries (·.role) h.role
  have hview : ∀ q : Roster, q.chainComplete =
      ((q.entries.map (·.role)).any (fun x => x == some .source) && (q.entries.map (·.role)).any (fun x => x == some .headset)) := by
    intro q
    unfold Roster.chainComplete Roster.path
    rw [List.any_filter, List.any_filter, List.any_map, List.any_map]
    simp only [Entry.onPath_and (x := .source) rfl, Entry.onPath_and (x := .headset) rfl, Function.comp_def]
  rw [hview, hview, hroles]

theorem hasSupplier : r'.hasSupplier = r.hasSupplier := by
  have hview : ∀ q : Roster, q.hasSupplier = (q.entries.map (·.offer)).any Option.isSome := fun q => by
    rw [Roster.hasSupplier, List.any_map]; rfl
  rw [hview, hview, h.map_entries (·.offer) h.offer]

theorem computeAllowances : computeAllowances r' = computeAllowances r := by
  have htotal : totalOffer r' = totalOffer r := by
    unfold totalOffer
    rw [h.map_entries _ (by rw [h.offer])]
  have hclaims : claimantsOf r' = claimantsOf r := by
    unfold claimantsOf
    have hmap := h.map_entries claimantOf (by rw [claimantOf, claimantOf, h.claim, h.addr])
    have hview : ∀ q : Roster, q.entries.filterMap claimantOf = (q.entries.map claimantOf).filterMap id := fun q => by
      rw [List.filterMap_map]; rfl
    rw [hview, hview, hmap]
  unfold Machine.computeAllowances
  rw [htotal, hclaims]

theorem scheduleOf : scheduleOf r' = scheduleOf r := by
  have hmap := h.map_entries (fun e => if e.role = some .headset then e.anchor else none) (by rw [h.role, h.anchor])
  have hview : ∀ q : Roster, Machine.scheduleOf q =
      ((q.entries.map (fun e => if e.role = some .headset then e.anchor else none)).filterMap id).head? := fun q => by
    rw [List.filterMap_map]; rfl
  rw [hview, hview, hmap]

end Roster.Alike

/-! ## The supply: grace and allowance list (R58, R63, R64, R86) -/

/-- What the power manager does with changed offers and claims before it forms cap and mode set again. -/
def State.supplied (s : State) : State := s.checkSupply.runAllowances

theorem State.powerTold_eq (s : State) : s.powerTold = s.supplied.reform := rfl

/-- The list and the grace, SUPPLY_LOST and SUPPLY_SHORT follow the roster; nothing else moves. -/
theorem State.supplied_eq (s : State) : s.supplied = { s with
    power := { s.power with
      allowances := if s.roster.hasSupplier then some (computeAllowances s.roster) else s.power.allowances
      lostActive := s.power.lostActive && !(s.tetherPowered && s.roster.hasSupplier)
      graceFrom :=
        if s.tetherPowered = false then s.power.graceFrom
        else if s.roster.hasSupplier = true then none
        else if s.power.graceFrom.isSome || s.power.lostActive then s.power.graceFrom else some s.clock.now }
    host := { s.host with sticky :=
      if s.roster.hasSupplier ∧ (computeAllowances s.roster).short then s.host.sticky ||| Flag.supplyShort.bit else s.host.sticky } } := by
  unfold State.supplied
  rw [State.runAllowances_eq, State.checkSupply_eq]
  cases hs : s.roster.hasSupplier <;> simp

theorem State.supplied_sticky (f : Flag) : s.supplied.sticky f =
    (s.sticky f || (decide (f = .supplyShort) && (s.roster.hasSupplier && (computeAllowances s.roster).short))) := by
  rw [State.supplied_eq, State.sticky]
  cases s.roster.hasSupplier <;> cases (computeAllowances s.roster).short <;>
    simp [BitVec.getLsbD_or, Flag.bit_getLsbD, State.sticky]

/-! ## Frames -/

theorem State.PathFrame.trans (h : s.PathFrame t) (h' : t.PathFrame u) : s.PathFrame u := by
  unfold State.PathFrame at h'
  rw [h] at h'
  exact h'

theorem State.PathRailFrame.pathFrame (h : s.PathRailFrame u) (hrail : u.rail = s.rail) (hcounters : u.counters = s.counters) :
    s.PathFrame u := by
  unfold State.PathRailFrame at h
  rw [hrail, hcounters] at h
  exact h

theorem State.reform_pathFrame (s : State) : s.PathFrame s.reform :=
  (State.Handed.reform (free := .baseForced) s).frame.pathFrame (by simp) (by simp)

theorem State.pathChanged_pathFrame (s : State) : s.PathFrame s.pathChanged :=
  (State.Handed.pathChanged (free := .baseForced) s).frame.pathFrame (by simp) (by simp)

theorem State.syncSchedule_frame (s : State) : ∃ x, s.syncSchedule = { s with sliceSource := x } ∧
    x = if s.role = .source ∧ s.sliceSource.schedule ≠ scheduleOf s.roster then
      { s.sliceSource with schedule := scheduleOf s.roster, submission := none } else s.sliceSource := by
  rw [State.syncSchedule_eq]
  split <;> exact ⟨_, rfl, rfl⟩

/-! ## A change told, in its three steps -/

/-- The change was one of offer or claim. -/
def offerOrClaimChanged (old new : Option Entry) : Bool :=
  optionOffer old != optionOffer new || optionClaim old != optionClaim new

/-- The state with the supply settled, where an offer or claim changed. -/
def State.supplyStep (s : State) (changed : Bool) : State := if changed then s.supplied else s

/-- The state after the power manager is told. -/
def State.powerStep (s : State) (changed : Bool) : State := if changed then s.supplied.reform else s

/-- The state after the agreement controller is told too. -/
def State.pathStep (s : State) (changed path : Bool) : State :=
  if path then (s.powerStep changed).pathChanged else s.powerStep changed

theorem State.tellChange_eq (s : State) (old new : Option Entry) : s.tellChange old new =
    (s.pathStep (offerOrClaimChanged old new) (optionOnPath old != optionOnPath new)).syncSchedule := rfl

section steps

variable (s : State) (changed path : Bool)

theorem State.powerStep_pathFrame : s.PathFrame (s.powerStep changed) := by
  unfold State.powerStep
  split
  · exact .trans (t := s.supplied) (by rw [State.supplied_eq]; rfl) (reform_pathFrame _)
  · rfl

theorem State.pathStep_pathFrame : s.PathFrame (s.pathStep changed path) := by
  unfold State.pathStep
  split
  · exact (s.powerStep_pathFrame changed).trans (pathChanged_pathFrame _)
  · exact s.powerStep_pathFrame changed

theorem State.tellChange_pathFrame (old new : Option Entry) : s.PathFrame (s.tellChange old new) := by
  rw [State.tellChange_eq]
  obtain ⟨x, hx, -⟩ := (s.pathStep (offerOrClaimChanged old new) (optionOnPath old != optionOnPath new)).syncSchedule_frame
  refine State.PathFrame.trans (s.pathStep_pathFrame (offerOrClaimChanged old new) (optionOnPath old != optionOnPath new)) ?_
  rw [hx]
  rfl

/-- From the state with the supply settled, where it is, every step is the agreement controller's or forms the mode set. -/
theorem State.powerStep_handed {free : Flag} : (s.supplyStep changed).Handed free (s.powerStep changed) := by
  cases changed
  · exact .refl s
  · exact .reform s.supplied

theorem State.pathStep_handed {free : Flag} : (s.supplyStep changed).Handed free (s.pathStep changed path) := by
  cases path
  · exact s.powerStep_handed changed
  · exact (s.powerStep_handed changed).trans (.pathChanged _)

theorem State.supplyStep_sticky {f : Flag} (hf : f ≠ .supplyShort) : (s.supplyStep changed).sticky f = s.sticky f := by
  cases changed
  · rfl
  · exact (s.supplied_sticky f).trans (by rw [decide_eq_false hf, Bool.false_and, Bool.or_false])

theorem State.supplyStep_power : (s.supplyStep changed).power.offerFrom = s.power.offerFrom ∧
    (s.supplyStep changed).power.claimFrom = s.power.claimFrom := by
  cases changed
  · exact ⟨rfl, rfl⟩
  · rw [State.supplyStep, if_pos rfl, State.supplied_eq]; exact ⟨rfl, rfl⟩

theorem State.tellChange_sticky (old new : Option Entry) {f : Flag} (hf : f ≠ .supplyShort) :
    (s.tellChange old new).sticky f = s.sticky f := by
  rw [State.tellChange_eq]
  obtain ⟨x, hx, -⟩ := (s.pathStep (offerOrClaimChanged old new) (optionOnPath old != optionOnPath new)).syncSchedule_frame
  rw [hx]
  exact ((s.pathStep_handed _ _).flags f hf).trans (s.supplyStep_sticky _ hf)

theorem State.tellChange_period (old new : Option Entry) :
    (s.tellChange old new).power.offerFrom = s.power.offerFrom ∧ (s.tellChange old new).power.claimFrom = s.power.claimFrom := by
  rw [State.tellChange_eq]
  obtain ⟨x, hx, -⟩ := (s.pathStep (offerOrClaimChanged old new) (optionOnPath old != optionOnPath new)).syncSchedule_frame
  obtain ⟨hoffer, hclaim⟩ := (s.pathStep_handed (free := .supplyShort)
    (offerOrClaimChanged old new) (optionOnPath old != optionOnPath new)).period
  obtain ⟨hoffer', hclaim'⟩ := s.supplyStep_power (offerOrClaimChanged old new)
  rw [hx]
  exact ⟨hoffer.trans hoffer', hclaim.trans hclaim'⟩

end steps

/-! ## The agreement controller's part (R93, R96) -/

/-- Only role, mode set, chain and local time decide what a trigger makes of the controller. -/
theorem Agree.opened_congr (hr : s.roster.Alike u.roster) (hm : u.power.modeSet = s.power.modeSet) (hc : u.clock = s.clock)
    (why : Reason) (a : Agree) : a.opened why u = a.opened why s := by
  rw [Agree.opened, Agree.opened, hr.chainComplete, hm, hc]

theorem Agree.afterSet_congr (hr : s.roster.Alike u.roster) (hm : u.power.modeSet = s.power.modeSet) (hc : u.clock = s.clock)
    (hrole : u.role = s.role) (changed : Bool) (a : Agree) : a.afterSet changed u = a.afterSet changed s := by
  rw [Agree.afterSet, Agree.afterSet, Agree.opened_congr hr hm hc, hm, hrole]

theorem Agree.afterPath_congr (hr : s.roster.Alike u.roster) (hm : u.power.modeSet = s.power.modeSet) (hc : u.clock = s.clock)
    (hrole : u.role = s.role) (changed : Bool) (a : Agree) : a.afterPath changed u = a.afterPath changed s := by
  rw [Agree.afterPath, Agree.afterPath, Agree.opened_congr hr hm hc, hrole]

/-- A trigger keeps BASE_FORCED and the lowered ceiling. -/
theorem Agree.opened_keeps (why : Reason) (t : State) (a : Agree) :
    (a.opened why t).lowered = a.lowered ∧ (a.opened why t).baseForcedFrom = a.baseForcedFrom := by
  unfold Agree.opened Agree.haltedFor
  (repeat' split) <;> exact ⟨rfl, rfl⟩

theorem Agree.afterSet_keeps (changed : Bool) (t : State) (a : Agree) :
    (a.afterSet changed t).lowered = a.lowered ∧ (a.afterSet changed t).baseForcedFrom = a.baseForcedFrom := by
  unfold Agree.afterSet
  (repeat' split)
  · exact ⟨rfl, rfl⟩
  · exact ⟨rfl, rfl⟩
  · exact a.opened_keeps _ t

theorem Agree.afterPath_keeps (changed : Bool) (t : State) (a : Agree) :
    (a.afterPath changed t).lowered = a.lowered ∧ (a.afterPath changed t).baseForcedFrom = a.baseForcedFrom := by
  unfold Agree.afterPath
  split
  · exact ⟨rfl, rfl⟩
  · exact a.opened_keeps _ t

theorem State.openRound_power (r : Reason) : (s.openRound r).power = s.power := by
  unfold State.openRound
  (repeat' split)
  · exact State.changeAgree_power ..
  · exact State.changeAgree_power ..
  · exact State.changeAgree_power ..

theorem State.pathChanged_power : s.pathChanged.power = s.power := by
  unfold State.pathChanged
  split
  · exact State.openRound_power _
  · rfl

theorem State.ownSetChanged_power : s.ownSetChanged.power = s.power := by
  unfold State.ownSetChanged
  (repeat' split)
  · exact State.changeAgree_power ..
  · exact State.openRound_power _
  · rfl

/-- The mode set as it is formed for a role, and its ceiling; a BATTERY has none (R69, R70). -/
theorem State.handIfChanged_agree (l : List Grade) (c : Grade) : (s.handIfChanged false l c).agree =
    s.agree.afterSet (decide (l ≠ s.power.modeSet) || decide (c ≠ s.power.modeCeiling)) (s.handIfChanged false l c) := by
  unfold State.handIfChanged
  split
  · next h => rw [← h.1, ← h.2]; simp [Agree.afterSet]
  · next h =>
    have hchanged : (decide (l ≠ s.power.modeSet) || decide (c ≠ s.power.modeCeiling)) = true := by
      rw [Bool.or_eq_true, decide_eq_true_eq, decide_eq_true_eq]
      rw [not_and_or] at h
      exact h.imp Ne.symm Ne.symm
    have hhanded : (s.writeModeSet l c).Handed .supplyShort (s.writeModeSet l c).ownSetChanged := .ownSetChanged _
    rw [hchanged]
    show (s.writeModeSet l c).ownSetChanged.agree = s.agree.afterSet true (s.writeModeSet l c).ownSetChanged
    rw [Agree.afterSet_congr hhanded.alike (congrArg Power.modeSet State.ownSetChanged_power) hhanded.clock hhanded.role,
      State.ownSetChanged_agree]
    rfl

theorem State.handIfChanged_power (l : List Grade) (c : Grade) : (s.handIfChanged false l c).power =
    { s.power with modeSet := l, modeCeiling := c } := by
  unfold State.handIfChanged
  split
  · next h => obtain ⟨rfl, rfl⟩ := h; rfl
  · exact State.ownSetChanged_power

/-- The delays brought up to date (R68). -/
def State.delayed (s : State) : State :=
  { s with power := s.power.stepDelays s.role s.effectiveCap s.effectiveCeiling s.clock.now }

theorem State.formModeSet_source (hr : s.role = .source) :
    s.formModeSet false = s.handIfChanged false s.sourceSet s.effectiveCeiling := by simp only [State.formModeSet, hr]

theorem State.formModeSet_battery (hr : s.role = .battery) : s.formModeSet false = s := by simp only [State.formModeSet, hr]

theorem State.formModeSet_powered (hr : s.tetherPowered = true) :
    s.formModeSet false = s.delayed.handIfChanged false s.delayed.formedSet s.delayed.effectiveCeiling := by
  unfold State.formModeSet
  split
  · next h => rw [State.tetherPowered, h] at hr; exact absurd hr (by decide)
  · next h => rw [State.tetherPowered, h] at hr; exact absurd hr (by decide)
  · rfl

/-- A role is a SOURCE's, a BATTERY's or one that takes its power from the tether. -/
theorem State.role_cases (s : State) : s.role = .source ∨ s.role = .battery ∨ s.tetherPowered = true := by
  rw [State.tetherPowered]
  cases s.role
  · exact .inl rfl
  · exact .inr (.inr rfl)
  · exact .inr (.inr rfl)
  · exact .inr (.inl rfl)

theorem State.formModeSet_agree (s : State) : (s.formModeSet false).agree = s.agree.afterSet
    (decide ((s.formModeSet false).power.modeSet ≠ s.power.modeSet) ||
      decide ((s.formModeSet false).power.modeCeiling ≠ s.power.modeCeiling)) (s.formModeSet false) := by
  rcases s.role_cases with hr | hr | hr
  · rw [State.formModeSet_source hr, State.handIfChanged_power]
    exact State.handIfChanged_agree _ _
  · rw [State.formModeSet_battery hr]
    simp [Agree.afterSet]
  · rw [State.formModeSet_powered hr, State.handIfChanged_power]
    exact State.handIfChanged_agree _ _

/-- The cap handed on reaches loads, sensor port and audio controller only (R66). -/
theorem State.formCap_frame (s : State) : s.formCap.power = s.power ∧ s.formCap.agree = s.agree ∧ s.formCap.lanes = s.lanes ∧
    s.formCap.roster = s.roster := by
  have hcap : (s.handCap s.effectiveCap).power = s.power ∧ (s.handCap s.effectiveCap).agree = s.agree ∧
      (s.handCap s.effectiveCap).lanes = s.lanes ∧ (s.handCap s.effectiveCap).roster = s.roster := by
    unfold State.handCap
    split
    · exact ⟨rfl, rfl, rfl, rfl⟩
    · obtain ⟨l, m, h, -, -⟩ := ({ s with loads := { s.loads with cap := s.effectiveCap } } : State).plan_frame
      rw [h]
      exact ⟨rfl, rfl, rfl, rfl⟩
  unfold State.formCap
  split
  · rw [State.syncAudioPower_eq]
    (repeat' split) <;> exact hcap
  · exact ⟨rfl, rfl, rfl, rfl⟩

theorem State.reform_power (s : State) : s.reform.power = (s.formModeSet false).power := (State.formCap_frame _).1
theorem State.reform_agree (s : State) : s.reform.agree = (s.formModeSet false).agree := (State.formCap_frame _).2.1

/-- What a change told makes of the controller: the mode set's change first, then the path's (R96). -/
theorem State.pathStep_agree (s : State) (changed path : Bool) : (s.pathStep changed path).agree =
    (s.agree.afterSet (decide ((s.pathStep changed path).power.modeSet ≠ s.power.modeSet) ||
      decide ((s.pathStep changed path).power.modeCeiling ≠ s.power.modeCeiling)) (s.pathStep changed path)).afterPath path
      (s.pathStep changed path) := by
  have hhanded : (s.powerStep changed).Handed .supplyShort (s.pathStep changed path) := by
    cases path
    · exact .refl _
    · exact .pathChanged _
  have hpower : (s.pathStep changed path).power = (s.powerStep changed).power := by
    cases path
    · rfl
    · exact State.pathChanged_power
  have hmode : (s.pathStep changed path).power.modeSet = (s.powerStep changed).power.modeSet := congrArg Power.modeSet hpower
  have hset : (s.powerStep changed).agree = s.agree.afterSet (decide ((s.powerStep changed).power.modeSet ≠ s.power.modeSet) ||
      decide ((s.powerStep changed).power.modeCeiling ≠ s.power.modeCeiling)) (s.powerStep changed) := by
    cases changed
    · simp [State.powerStep, Agree.afterSet]
    · have hcap : (s.supplied.formModeSet false).Handed .supplyShort s.supplied.reform := .formCap _
      have hsupplied : s.supplied.agree = s.agree ∧ s.supplied.power.modeSet = s.power.modeSet ∧
          s.supplied.power.modeCeiling = s.power.modeCeiling := by rw [State.supplied_eq]; exact ⟨rfl, rfl, rfl⟩
      obtain ⟨hagree, hold, hceiling⟩ := hsupplied
      show s.supplied.reform.agree = s.agree.afterSet (decide (s.supplied.reform.power.modeSet ≠ s.power.modeSet) ||
        decide (s.supplied.reform.power.modeCeiling ≠ s.power.modeCeiling)) s.supplied.reform
      rw [Agree.afterSet_congr hcap.alike (congrArg Power.modeSet (State.reform_power _)) hcap.clock hcap.role,
        State.reform_agree, State.reform_power, State.formModeSet_agree, hagree, hold, hceiling]
  rw [Agree.afterPath_congr hhanded.alike hmode hhanded.clock hhanded.role,
    Agree.afterSet_congr hhanded.alike hmode hhanded.clock hhanded.role, hpower, ← hset]
  cases path
  · simp [State.pathStep, Agree.afterPath]
  · exact State.pathChanged_agree

/-- A node that takes no triggers keeps its controller as it is. -/
theorem State.tellChange_agree_idle (h : s.agree.takes s.role = false) (old new : Option Entry) :
    (s.tellChange old new).agree = s.agree := by
  have hrole := (s.pathStep_pathFrame (offerOrClaimChanged old new) (optionOnPath old != optionOnPath new))
  have hr : (s.pathStep (offerOrClaimChanged old new) (optionOnPath old != optionOnPath new)).role = s.role := by rw [hrole]; rfl
  rw [State.tellChange_eq]
  obtain ⟨x, hx, -⟩ := (s.pathStep (offerOrClaimChanged old new) (optionOnPath old != optionOnPath new)).syncSchedule_frame
  have hset : ∀ b : Bool, s.agree.afterSet b (s.pathStep (offerOrClaimChanged old new) (optionOnPath old != optionOnPath new)) = s.agree :=
    fun b => if_pos (.inr (by rw [hr]; exact h))
  rw [hx]
  show (s.pathStep (offerOrClaimChanged old new) (optionOnPath old != optionOnPath new)).agree = s.agree
  rw [State.pathStep_agree, hset]
  exact if_pos (.inr (by rw [hr]; exact h))

end Sys2Proof.Machine
end

section
/-! SUPPORT. Listen-only (R16, R30, R31): what falls silent, and what a burst does at a node that has. -/

namespace Sys2Proof.Machine

variable {s t u : State}

/-! ## Falling silent -/

/-- Channel and requester fall silent; only flag REMOTE_DONE may be set. -/
theorem State.silence_frame (s : State) : ∃ r x w, s.silence = { s with rail := r, remote := x, host := { s.host with sticky := w } } ∧
    r.queue = [] ∧ r.sending = none ∧ (s.remote.state = .queued → x.state = .giveUp) ∧
    (s.remote.state ≠ .queued → x = s.remote) ∧ (∀ f, f ≠ .remoteDone → w.getLsbD f.number = s.sticky f) := by
  have hrail : ∃ r, ({ (if s.rail.sending.isSome then s.stopSending else s) with
      rail := { (if s.rail.sending.isSome then s.stopSending else s).rail with queue := [], stuck := none } } : State) =
      { s with rail := r } ∧ r.queue = [] ∧ r.sending = none := by
    by_cases hs : s.rail.sending.isSome
    · rw [if_pos hs]; exact ⟨_, rfl, rfl, rfl⟩
    · rw [if_neg hs]; exact ⟨_, rfl, rfl, by simpa using hs⟩
  obtain ⟨r, hr, hqueue, hsending⟩ := hrail
  rw [show s.silence = State.askGivenUp { (if s.rail.sending.isSome then s.stopSending else s) with
      rail := { (if s.rail.sending.isSome then s.stopSending else s).rail with queue := [], stuck := none } } from rfl, hr,
    State.askGivenUp_eq]
  by_cases hq : s.remote.state = .queued
  · rw [if_pos hq]
    exact ⟨r, _, _, rfl, hqueue, hsending, fun _ => rfl, fun h => absurd hq h,
      fun f hf => State.raise_sticky_ne (s := s) hf⟩
  · rw [if_neg hq]
    exact ⟨r, s.remote, s.host.sticky, rfl, hqueue, hsending, fun h => absurd h hq, fun _ => rfl, fun _ _ => rfl⟩

/-- Between `s` and `u` the node has become listen-only and silent (R30): join timer, periods, sending and queue are stopped, a queued
request ended, the controller halted; counters, settings and what a SOURCE's host holds stand. -/
def State.Silenced (s u : State) : Prop :=
  u.roster.join = .listenOnly ∧ u.roster.joinFrom = none ∧ u.roster.beaconFrom = none ∧ u.rail.queue = [] ∧
  u.rail.sending = none ∧ u.counters = s.counters ∧ u.power.offerFrom = none ∧ u.power.claimFrom = none ∧
  (s.remote.state = .queued → u.remote.state = .giveUp) ∧ (s.remote.state ≠ .queued → u.remote = s.remote) ∧
  (s.role ≠ .battery → u.agree.state = .halted ∧ u.agree.reason = .listenOnly ∧ u.agree.round = s.agree.round) ∧
  u.straps = s.straps ∧ u.items = s.items ∧ u.motionSource = s.motionSource ∧ u.audioSource = s.audioSource

/-- What is told to the power manager and the agreement controller alone leaves a silent node so. -/
theorem State.Silenced.path (h : s.Silenced t) (hframe : t.PathFrame u) (hagree : u.agree = t.agree)
    (hperiod : u.power.offerFrom = t.power.offerFrom ∧ u.power.claimFrom = t.power.claimFrom) : s.Silenced u := by
  unfold State.Silenced at *
  rw [hagree, hperiod.1, hperiod.2, hframe]
  exact h

theorem onPath_of_ne (h : s.role ≠ .battery) : s.onPath = true := by
  unfold State.onPath
  cases hr : s.role
  case battery => exact absurd hr h
  all_goals rfl

/-- The node falls silent: only flag REMOTE_DONE may be set, peers and clock stand. -/
theorem State.enterListenOnly_silenced (s : State) : s.Silenced s.enterListenOnly ∧
    (∀ f, f ≠ .remoteDone → s.enterListenOnly.sticky f = s.sticky f) ∧ s.enterListenOnly.roster.peers = s.roster.peers ∧
    s.enterListenOnly.clock = s.clock := by
  obtain ⟨v, hv⟩ : ∃ v : State, v = { s with
    roster := { s.roster with join := .listenOnly, joinFrom := none, beaconFrom := none }
    power := { s.power with offerFrom := none, claimFrom := none } } := ⟨_, rfl⟩
  obtain ⟨r, x, w, hsilence, hqueue, hsending, hgiven, hkept, hflags⟩ := v.silence_frame
  have henter : s.enterListenOnly = if v.onPath then v.silence.halt .listenOnly else v.silence := by rw [hv]; rfl
  have hremote : (s.remote.state = .queued → x.state = .giveUp) ∧ (s.remote.state ≠ .queued → x = s.remote) := by
    rw [hv] at hgiven hkept; exact ⟨hgiven, hkept⟩
  obtain ⟨hgiven, hkept⟩ := hremote
  have hsticky : ∀ f, f ≠ .remoteDone → w.getLsbD f.number = s.sticky f := by rw [hv] at hflags; exact hflags
  rw [henter]
  by_cases hpath : v.onPath = true
  · have hhanded : v.silence.Handed .remoteDone (v.silence.halt .listenOnly) := .halt _ _
    have hframe : v.silence.PathFrame (v.silence.halt .listenOnly) := hhanded.frame.pathFrame (by simp) (by simp)
    have hagree : (v.silence.halt .listenOnly).agree = v.silence.agree.haltedFor .listenOnly := State.changeAgree_agree ..
    rw [if_pos hpath]
    refine ⟨?_, fun f hf => (hhanded.flags f hf).trans ?_, ?_, hhanded.clock.trans ?_⟩
    · unfold State.Silenced
      rw [hagree, hhanded.period.1, hhanded.period.2, hframe, hsilence, hv]
      exact ⟨rfl, rfl, rfl, hqueue, hsending, rfl, rfl, rfl, hgiven, hkept, fun _ => ⟨rfl, rfl, rfl⟩, rfl, rfl, rfl, rfl⟩
    · rw [hsilence]; exact hsticky f hf
    · rw [hframe, hsilence, hv]
    · rw [hsilence, hv]
  · have hbattery : s.role = .battery := by
      by_contra h
      exact hpath (by rw [hv]; exact onPath_of_ne h)
    rw [if_neg hpath, hsilence]
    refine ⟨?_, fun f hf => hsticky f hf, by rw [hv], by rw [hv]⟩
    rw [hv]
    exact ⟨rfl, rfl, rfl, hqueue, hsending, rfl, rfl, rfl, hgiven, hkept, fun h => absurd hbattery h, rfl, rfl, rfl, rfl⟩

/-! ## A burst entered in the roster (R35, R36) -/

/-- The sender's entry is in its place; a new one sets PEER_JOINED. -/
def State.entered (s : State) (h : Heard) : State :=
  (if (s.roster.find h.sender).isNone then s.raise .peerJoined else s).setPeers
    (putEntry (h.entry (s.roster.find h.sender)) s.roster.peers)

theorem State.rosterTakes_eq {h : Heard} (hleaving : ¬(h.kind = .notice ∧ byteAt h.payload 0 = 4))
    (hroom : s.roster.peers.length < 6 ∨ s.roster.find h.sender ≠ none) : s.rosterTakes h =
    ((s.entered h).tellChange (s.roster.find h.sender) (some (h.entry (s.roster.find h.sender)))).tellRound h
      (h.entry (s.roster.find h.sender)) := by
  unfold State.rosterTakes State.entered
  rw [if_neg (show ¬(h.kind = .notice ∧ byteAt h.payload 0 = noticeLeaving) from hleaving)]
  cases hf : s.roster.find h.sender with
  | some e => exact State.updateEntry_eq ..
  | none =>
    have hlen : ¬6 ≤ s.roster.peers.length := by
      rcases hroom with h | h
      · omega
      · exact absurd hf h
    exact (if_neg hlen).trans (State.updateEntry_eq ..)

/-- A seventh peer is not entered. -/
theorem State.rosterTakes_full {h : Heard} (hleaving : ¬(h.kind = .notice ∧ byteAt h.payload 0 = 4))
    (hroom : ¬(s.roster.peers.length < 6 ∨ s.roster.find h.sender ≠ none)) : s.rosterTakes h = s := by
  obtain ⟨hlen, hf⟩ := not_or.1 hroom
  unfold State.rosterTakes
  rw [if_neg (show ¬(h.kind = .notice ∧ byteAt h.payload 0 = noticeLeaving) from hleaving), not_not.1 hf]
  exact if_pos (Nat.not_lt.1 hlen)

theorem State.tellRound_other {h : Heard} (hm : h.kind ≠ .modeset) (hc : h.kind ≠ .confirm) (e : Entry) : s.tellRound h e = s := by
  unfold State.tellRound
  split
  · next hk => exact absurd hk hm
  · next hk => exact absurd hk hc
  · rfl

theorem State.rosterTakes_peers {h : Heard} (hleaving : ¬(h.kind = .notice ∧ byteAt h.payload 0 = 4))
    (hroom : s.roster.peers.length < 6 ∨ s.roster.find h.sender ≠ none) :
    (s.rosterTakes h).roster.peers = putEntry (h.entry (s.roster.find h.sender)) s.roster.peers := by
  rw [State.rosterTakes_eq hleaving hroom, (State.Handed.tellRound _ _ _).frame.peers]
  rw [(State.tellChange_pathFrame (s.entered h) _ _)]
  rfl

/-- What is found after a burst: its sender's entry at that address, every other entry as it was. -/
theorem State.rosterTakes_find {h : Heard} (hleaving : ¬(h.kind = .notice ∧ byteAt h.payload 0 = 4))
    (hroom : s.roster.peers.length < 6 ∨ s.roster.find h.sender ≠ none) (a : Addr) : (s.rosterTakes h).roster.find a =
    if a = h.sender then some (h.entry (s.roster.find h.sender)) else s.roster.find a := by
  have haddr : (h.entry (s.roster.find h.sender)).addr = h.sender := by
    rw [Heard.entry_addr]
    cases hf : s.roster.find h.sender with
    | none => rfl
    | some e => exact (State.RosterSound.find_mem hf).2
  rw [Roster.find, State.rosterTakes_peers hleaving hroom, find_putEntry, haddr]
  rfl

theorem State.entered_sticky (h : Heard) {f : Flag} (hf : f ≠ .peerJoined) : (s.entered h).sticky f = s.sticky f := by
  unfold State.entered
  split
  · exact State.raise_sticky_ne hf
  · rfl

theorem State.removeEntry_sticky (e : Entry) {f : Flag} (hs : f ≠ .supplyShort) (hl : f ≠ .peerLeft) :
    (s.removeEntry e).sticky f = s.sticky f :=
  (State.tellChange_sticky _ _ _ hs).trans (State.raise_sticky_ne hl)

/-- The roster sets no flags but its own two, SUPPLY_SHORT and BASE_FORCED. -/
theorem State.rosterTakes_sticky (h : Heard) {f : Flag} (hs : f ≠ .supplyShort) (hb : f ≠ .baseForced) (hj : f ≠ .peerJoined)
    (hl : f ≠ .peerLeft) : (s.rosterTakes h).sticky f = s.sticky f := by
  by_cases hleaving : h.kind = .notice ∧ byteAt h.payload 0 = 4
  · unfold State.rosterTakes
    rw [if_pos (show h.kind = .notice ∧ byteAt h.payload 0 = noticeLeaving from hleaving)]
    cases s.roster.find h.sender with
    | none => rfl
    | some e => exact State.removeEntry_sticky e hs hl
  by_cases hroom : s.roster.peers.length < 6 ∨ s.roster.find h.sender ≠ none
  · rw [State.rosterTakes_eq hleaving hroom, (State.Handed.tellRound _ _ _).flags f hb, State.tellChange_sticky _ _ _ hs,
      State.entered_sticky h hj]
  · rw [State.rosterTakes_full hleaving hroom]

/-- The tether clock sets no flag. -/
theorem State.clockHears_host (a b : Nat) : (s.clockHears a b).host = s.host := by
  obtain ⟨n, h⟩ | ⟨n, h⟩ | h := s.clockHears_cases a b
  · rw [h, stepClock_frame]
  · rw [h]; rfl
  · rw [h]

theorem State.clockHears_sticky (a b : Nat) (f : Flag) : (s.clockHears a b).sticky f = s.sticky f := by
  rw [State.sticky, State.clockHears_host]
  rfl

/-- At a SOURCE nothing but the clock hears a stamp (R47). -/
theorem State.clockHears_source (hr : s.role = .source) (a b : Nat) : ∃ c, s.clockHears a b = { s with clock := c } := by
  obtain ⟨n, h⟩ | ⟨n, h⟩ | h := s.clockHears_cases a b
  · exact ⟨_, h.trans (stepClock_other (by rw [hr]; decide) n)⟩
  · exact ⟨_, h⟩
  · exact ⟨_, h⟩

/-! ## A clash (R30, R31) -/

theorem State.clashFound_silent (h : s.roster.join = .listenOnly) (f : Flag) : s.clashFound f = s.raise f := if_pos h

theorem State.clashFound_new (h : s.roster.join ≠ .listenOnly) (f : Flag) : s.clashFound f = (s.raise f).enterListenOnly := if_neg h

/-- A clash at a node that was not listen-only yet. -/
theorem State.clashFound_silenced (h : s.roster.join ≠ .listenOnly) {f : Flag} (hf : f ≠ .remoteDone) :
    s.Silenced (s.clashFound f) ∧ (s.clashFound f).sticky f = true ∧
    (∀ g, g ≠ f → g ≠ .remoteDone → (s.clashFound f).sticky g = s.sticky g) ∧
    (s.clashFound f).roster.peers = s.roster.peers ∧ (s.clashFound f).clock = s.clock := by
  obtain ⟨hsilenced, hflags, hpeers, hclock⟩ := (s.raise f).enterListenOnly_silenced
  rw [State.clashFound_new h]
  exact ⟨hsilenced, (hflags f hf).trans (State.raise_sticky f), fun g hg hd => (hflags g hd).trans (State.raise_sticky_ne hg), hpeers,
    hclock⟩

/-- A SOURCE already silent stays so whatever the roster and the clock make of a BEACON. -/
theorem State.Silenced.beacon (hs : s.Silenced t) (hr : s.role = .source) {h : Heard} (hk : h.kind = .beacon) (a b : Nat) :
    s.Silenced ((t.rosterTakes h).clockHears a b) := by
  have hstraps : t.straps = s.straps := by
    obtain ⟨-, -, -, -, -, -, -, -, -, -, -, hstraps, -⟩ := hs; exact hstraps
  have hrole : t.role = .source := (congrArg Straps.role hstraps).trans hr
  have hhalted : t.agree.state = .halted ∧ t.agree.reason = .listenOnly := by
    obtain ⟨-, -, -, -, -, -, -, -, -, -, hagree, -⟩ := hs
    obtain ⟨hstate, hreason, -⟩ := hagree (by rw [hr]; decide)
    exact ⟨hstate, hreason⟩
  have hleaving : ¬(h.kind = .notice ∧ byteAt h.payload 0 = 4) := by rw [hk]; exact fun h => absurd h.1 (by decide)
  have htaken : s.Silenced (t.rosterTakes h) := by
    by_cases hroom : t.roster.peers.length < 6 ∨ t.roster.find h.sender ≠ none
    · rw [State.rosterTakes_eq hleaving hroom, State.tellRound_other (by rw [hk]; decide) (by rw [hk]; decide)]
      have hentered : s.Silenced (t.entered h) := by
        unfold State.entered
        split <;> exact hs
      have hidle : (t.entered h).agree.takes (t.entered h).role = false := by
        have hagree : (t.entered h).agree = t.agree := by unfold State.entered; split <;> rfl
        rw [hagree, Agree.takes, hhalted.1, hhalted.2]
        simp
      exact hentered.path (State.tellChange_pathFrame _ _ _) (State.tellChange_agree_idle hidle _ _)
        (State.tellChange_period _ _ _)
    · rw [State.rosterTakes_full hleaving hroom]
      exact hs
  have hrole' : (t.rosterTakes h).role = .source := (role_of_core (State.rosterTakes_core _ _)).trans hrole
  obtain ⟨c, hc⟩ := State.clockHears_source hrole' a b
  rw [hc]
  exact htaken

/-! ## The statement -/

theorem State.roleClash_iff (h : Heard) : s.roleClash h = true ↔ s.role = .source ∧ h.kind = .beacon ∧
    beaconRole h.payload = some .source ∧ h.sender.toNat < s.straps.addr.toNat := by
  simp only [State.roleClash, Bool.and_eq_true, decide_eq_true_eq, and_assoc]

theorem State.ownAddress_iff (h : Heard) : s.ownAddress h = true ↔ h.sender ≠ 0 ∧ h.sender = s.straps.addr := by
  rw [State.ownAddress, decide_eq_true_eq]

theorem State.rosterHears_own {h : Heard} (ha : s.ownAddress h = true) : s.rosterHears h = s.clashFound .addressClash := if_pos ha

/-- A role clash: the flag and the silence, then roster and clock take the BEACON still, unless its sender has no address. -/
theorem State.rosterHears_roleClash {h : Heard} (hr : s.roleClash h = true) : s.rosterHears h =
    if h.sender = 0 then s.clashFound .roleClash
    else ((s.clashFound .roleClash).rosterTakes h).clockHears h.tether (fieldAt h.payload 0 4) := by
  obtain ⟨-, hk, hb, hlt⟩ := (State.roleClash_iff h).1 hr
  have ha : s.ownAddress h = false := by
    rw [Bool.eq_false_iff, ne_eq, State.ownAddress_iff]
    rintro ⟨-, h⟩
    rw [h] at hlt
    exact lt_irrefl _ hlt
  have hbeacon : h.kind = .beacon ∧ (beaconRole h.payload).isSome := ⟨hk, by rw [hb]; rfl⟩
  simp only [State.rosterHears, ha, hr, if_pos hbeacon, if_true, Bool.false_eq_true, if_false]

/-- Settles O26: own address, role clash, then any other burst. -/
theorem addressClashSilencesNode : Obligations.AddressClashSilencesNode := by
  intro s h
  dsimp only
  have hclash := State.roleClash_iff (s := s) h
  refine ⟨fun hsender haddr => ?_, fun hr => ?_, fun hr h0 => ?_, fun hr h0 hown => ?_, fun hr => ?_⟩
  · have hown : s.ownAddress h = true := (State.ownAddress_iff h).2 ⟨by rw [hsender]; exact haddr, hsender⟩
    rw [State.rosterHears_own hown]
    refine ⟨fun hj => ?_, fun hj => State.clashFound_silent hj _⟩
    obtain ⟨hsilenced, hflag, -, hpeers, hclock⟩ := State.clashFound_silenced hj (f := .addressClash) (by decide)
    exact ⟨hsilenced, hflag, hpeers, hclock⟩
  · rw [State.rosterHears_roleClash (hclash.2 hr)]
    obtain ⟨hsource, hk, -, -⟩ := hr
    refine ⟨fun hj => ?_, fun hj => by rw [State.clashFound_silent hj]; rfl⟩
    obtain ⟨hsilenced, hflag, hothers, hpeers, -⟩ := State.clashFound_silenced hj (f := .roleClash) (by decide)
    have hother := hothers .addressClash (by decide) (by decide)
    by_cases h0 : h.sender = 0
    · rw [if_pos h0]
      exact ⟨hsilenced, hflag, hother, fun _ => hpeers, fun h => absurd h0 h⟩
    · have hkept : ∀ {f : Flag}, f ≠ .supplyShort → f ≠ .baseForced → f ≠ .peerJoined → f ≠ .peerLeft →
          (((s.clashFound .roleClash).rosterTakes h).clockHears h.tether (fieldAt h.payload 0 4)).sticky f =
            (s.clashFound .roleClash).sticky f := fun hs hb hj hl => by
        exact (State.clockHears_sticky _ _ _).trans (State.rosterTakes_sticky h hs hb hj hl)
      rw [if_neg h0]
      refine ⟨hsilenced.beacon hsource hk _ _, ?_, ?_, fun h => absurd h h0, fun _ _ hroom => ?_⟩
      · rw [hkept (by decide) (by decide) (by decide) (by decide)]; exact hflag
      · rw [hkept (by decide) (by decide) (by decide) (by decide)]; exact hother
      · have hfind : (s.clashFound .roleClash).roster.find h.sender = s.roster.find h.sender := by
          rw [Roster.find, hpeers]; rfl
        rw [roster_of_seat (State.clockHears_seat ..), State.rosterTakes_find (by rw [hk]; exact fun h => absurd h.1 (by decide))
          (by rw [hfind, hpeers]; exact hroom), if_pos rfl, hfind]
        rfl
  · have hown : s.ownAddress h = false := by
      rw [Bool.eq_false_iff, ne_eq, State.ownAddress_iff]; exact fun h => h.1 h0
    rw [State.rosterHears_ordinary hown (Bool.eq_false_iff.2 (fun h => hr (hclash.1 h))), if_pos h0]
  · have hown' : s.ownAddress h = false := by
      rw [Bool.eq_false_iff, ne_eq, State.ownAddress_iff]; exact fun h => hown h.2
    rw [State.rosterHears_ordinary hown' (Bool.eq_false_iff.2 (fun h => hr (hclash.1 h))), if_neg h0]
    refine ⟨fun r hk husable => ?_, fun hnone => ?_⟩
    · rw [if_pos ⟨hk, by rw [(beaconRole_eq_some h.payload r).2 husable]; rfl⟩]
    · refine if_neg (fun hb => ?_)
      rcases hnone with hk | hn
      · exact hk hb.1
      · have hb' := hb.2
        rw [(beaconRole_eq_none h.payload).2 hn] at hb'
        exact absurd hb' (by decide)
  · have hr' : s.roleClash h = false := Bool.eq_false_iff.2 (fun h => hr (hclash.1 h))
    by_cases hown : s.ownAddress h = true
    · rw [State.rosterHears_own hown]
      obtain ⟨h0, hsender⟩ := (State.ownAddress_iff h).1 hown
      refine ⟨?_, fun hne => ?_⟩
      · by_cases hj : s.roster.join = .listenOnly
        · rw [State.clashFound_silent hj]; exact State.raise_sticky_ne (by decide)
        · exact (State.clashFound_silenced hj (f := .addressClash) (by decide)).2.2.1 .roleClash (by decide) (by decide)
      · rcases hne with hne | hne
        · exact absurd hsender hne
        · exact absurd (hsender.trans hne) h0
    · rw [State.rosterHears_ordinary (Bool.eq_false_iff.2 hown) hr']
      have htaken : ∀ {f : Flag}, f ≠ .supplyShort → f ≠ .baseForced → f ≠ .peerJoined → f ≠ .peerLeft →
          (s.rosterTakes h).sticky f = s.sticky f := State.rosterTakes_sticky h
      have hjoin : (s.rosterTakes h).roster.join = s.roster.join := join_of_core (State.rosterTakes_core _ _)
      (repeat' split)
      · exact ⟨rfl, fun _ => ⟨rfl, rfl⟩⟩
      · rw [State.clockHears_sticky, State.clockHears_sticky, roster_of_seat (State.clockHears_seat ..)]
        exact ⟨htaken (by decide) (by decide) (by decide) (by decide),
          fun _ => ⟨hjoin, htaken (by decide) (by decide) (by decide) (by decide)⟩⟩
      · exact ⟨htaken (by decide) (by decide) (by decide) (by decide),
          fun _ => ⟨hjoin, htaken (by decide) (by decide) (by decide) (by decide)⟩⟩

end Sys2Proof.Machine
end

section
/-! SUPPORT. What a change told hands on: the lane at rest (R95), the mode set formed (R67 to R70), supply and schedule (R58, R86, R119).
The removal of an entry (R37 to R39) and the burst of a peer (R35, R36) follow. -/

namespace Sys2Proof.Machine

variable {s t u : State}

/-! ## The lane at rest (R95, R111) -/

/-- In HALTED and in SETTLE the lane engine is off, the summary names the state alone, the lane stands at its pinned level and no doze
runs. -/
structure State.LaneRests (t : State) : Prop where
  state   : t.agree.state = .halted ∨ t.agree.state = .settle
  tx      : ∀ l, ownsTx t.role l = true → (t.lanes.tx l).state = .off ∧ (t.lanes.tx l).sending = none ∧ (t.lanes.tx l).waiting = []
  rx      : ∀ l, ownsRx t.role l = true → t.lanes.rx l = .off
  summary : t.roster.self.summary = some (laneSummary t.agree.state.code 0)
  level   : t.tetherPowered = true → t.loads.current.lane = t.loads.target.lane ∧ t.loads.target.lane = if t.parked then 0 else 1
  doze    : t.lanes.dozing = false ∧ t.lanes.dozeFrom = none

theorem State.LaneRests.notRunning (h : t.LaneRests) : t.running = false := by
  rw [State.running]
  rcases h.state with h | h <;> rw [h] <;> decide

theorem shedOne_lane {order : List Load} {l l' : Levels} (h : shedOne order l = some l') : l'.lane = l.lane := by
  unfold shedOne at h
  split at h
  · cases h
  · next k _ =>
    obtain rfl := Option.some.inj h
    cases k <;> rfl

/-- Shedding leaves the lane's level as it is (R75). -/
theorem shed_lane (r : Role) (cap : Nat) (order : List Load) (n : Nat) (l : Levels) : (shed r cap order n l).lane = l.lane := by
  induction n generalizing l with
  | zero => rfl
  | succ n ih =>
    unfold shed
    split
    · rfl
    · split
      · rfl
      · next l' hl => exact (ih l').trans (shedOne_lane hl)

theorem State.targets_lane (s : State) : s.targets.lane = s.pinnedLane := by
  unfold State.targets
  split
  · next h => rw [State.pinnedLane, if_pos h]
  · split
    · next hr => rw [shed_lane, State.wantedLevels, if_pos hr]
    · rfl

theorem State.pinnedLane_rests (h : s.agree.state = .halted ∨ s.agree.state = .settle) : s.pinnedLane = if s.parked then 0 else 1 := by
  unfold State.pinnedLane
  split
  · rfl
  · rcases h with h | h <;> rw [h]

theorem State.plan_lane (hp : s.tetherPowered = true) : s.plan.loads.current.lane = s.pinnedLane ∧
    s.plan.loads.target.lane = s.pinnedLane := by
  obtain ⟨l, m, h, -, hl⟩ := s.plan_frame
  rw [h, hl, if_pos hp]
  exact ⟨s.targets_lane, s.targets_lane⟩

/-- What the lane engine is ordered to in HALTED and in SETTLE, parked or not (R111). -/
theorem State.orderLanes_rests (h : s.agree.state = .halted ∨ s.agree.state = .settle) (lane : Lane) :
    (ownsTx s.role lane = true → (s.orderLanes.lanes.tx lane).state = .off ∧ (s.orderLanes.lanes.tx lane).sending = none ∧
      (s.orderLanes.lanes.tx lane).waiting = []) ∧
    (ownsRx s.role lane = true → s.orderLanes.lanes.rx lane = .off) ∧
    s.orderLanes.lanes.dozing = false ∧ s.orderLanes.lanes.dozeFrom = none := by
  obtain ⟨st, hst⟩ : ∃ st, st = if s.parked then AgreeState.halted else s.agree.state := ⟨_, rfl⟩
  have hrest : st = .halted ∨ st = .settle := by
    rw [hst]; split
    · exact .inl rfl
    · exact h
  have hlanes : s.orderLanes.lanes.tx lane = (if ownsTx s.role lane then (s.lanes.tx lane).order (orderedTx st) else s.lanes.tx lane) ∧
      s.orderLanes.lanes.rx lane = (if ownsRx s.role lane then orderedRx st (s.lanes.rx lane) else s.lanes.rx lane) ∧
      s.orderLanes.lanes.dozing = false ∧
      s.orderLanes.lanes.dozeFrom = (if st = .running ∧ s.role = .relay then some s.clock.now else none) := by
    rw [hst]; cases lane <;> exact ⟨rfl, rfl, rfl, rfl⟩
  obtain ⟨htx, hrx, hdozing, hdoze⟩ := hlanes
  refine ⟨fun hown => ?_, fun hown => ?_, hdozing, ?_⟩
  · rw [htx, if_pos hown]
    rcases hrest with h | h <;> rw [h] <;> exact ⟨rfl, rfl, rfl⟩
  · rw [hrx, if_pos hown]
    rcases hrest with h | h <;> rw [h] <;> rfl
  · rw [hdoze]
    rcases hrest with h | h <;> rw [h] <;> rfl

theorem Agree.summary_rests {a : Agree} (h : a.state = .halted ∨ a.state = .settle) : a.summary = laneSummary a.state.code 0 := by
  unfold Agree.summary
  rcases h with h | h <;> rw [h]

/-- The lane rests after an entry into HALTED or SETTLE. -/
theorem State.changeAgree_rests (s : State) {st : AgreeState} (hst : st = .halted ∨ st = .settle) (r : Reason) :
    (s.changeAgree st none r).LaneRests := by
  obtain ⟨v, hv⟩ : ∃ v : State, v = { s with agree := { s.agree with
    state := st, chosen := none, reason := r, stepFrom := if st.timed then some s.clock.now else none } } := ⟨_, rfl⟩
  have hstate : v.agree.state = .halted ∨ v.agree.state = .settle := by rw [hv]; exact hst
  have horder := State.orderLanes_rests hstate
  obtain ⟨l, m, -, hl, h⟩ := s.changeAgree_frame st none r
  have ho : s.ordered st none r = v.orderLanes.writeSummary := by rw [hv]; rfl
  have htargets : (s.ordered st none r).targets.lane = if v.parked then 0 else 1 := by
    rw [State.targets_lane, ho]
    exact State.pinnedLane_rests (s := v) hstate
  rw [h]
  rw [hv] at horder htargets
  refine ⟨hst, fun lane hown => (horder lane).1 hown, fun lane hown => (horder lane).2.1 hown, ?_, fun hp => ?_, (horder .down).2.2⟩
  · exact congrArg some (Agree.summary_rests (a := { s.agree with
      state := st, chosen := none, reason := r, stepFrom := if st.timed then some s.clock.now else none }) hst)
  · rw [hl, if_pos (show s.tetherPowered = true from hp)]
    exact ⟨rfl, htargets⟩

theorem State.openRound_rests (s : State) (r : Reason) : (s.openRound r).LaneRests := by
  unfold State.openRound
  (repeat' split)
  · exact State.changeAgree_rests _ (.inl rfl) _
  · exact State.changeAgree_rests _ (.inl rfl) _
  · exact State.changeAgree_rests _ (.inr rfl) _

/-- A trigger that is taken leaves the lane at rest (R96, R107). -/
theorem State.pathChanged_rests (h : s.agree.takes s.role = true) : s.pathChanged.LaneRests := by
  rw [State.pathChanged, State.takesTriggers_eq, if_pos h]
  exact s.openRound_rests _

theorem State.ownSetChanged_rests (h : s.agree.takes s.role = true) : s.ownSetChanged.LaneRests := by
  rw [State.ownSetChanged, State.takesTriggers_eq, if_pos h]
  split
  · exact State.changeAgree_rests _ (.inl rfl) _
  · exact s.openRound_rests _

/-- The same controller, lanes, roster, power and settings, the lane's levels as they stood: the lane rests still. -/
theorem State.LaneRests.congr (h : s.LaneRests) (hstraps : u.straps = s.straps) (hitems : u.items = s.items) (hagree : u.agree = s.agree)
    (hlanes : u.lanes = s.lanes) (hself : u.roster.self.summary = s.roster.self.summary) (hpower : u.power = s.power)
    (hlevel : s.tetherPowered = true → u.loads.current.lane = u.loads.target.lane ∧ u.loads.target.lane = if s.parked then 0 else 1) :
    u.LaneRests := by
  have hrole : u.role = s.role := congrArg Straps.role hstraps
  have hparked : u.parked = s.parked := by
    simp only [State.parked, State.ownGrant, State.parkHold, State.holdOf, State.tetherPowered, State.item, State.role, hstraps, hitems,
      hpower]
  have hp : u.tetherPowered = s.tetherPowered := by rw [State.tetherPowered, hrole]; rfl
  refine ⟨by rw [hagree]; exact h.state, ?_, ?_, by rw [hself, hagree]; exact h.summary, fun hu => ?_, by rw [hlanes]; exact h.doze⟩
  · rw [hlanes, hrole]; exact h.tx
  · rw [hlanes, hrole]; exact h.rx
  · rw [hparked]; exact hlevel (hp ▸ hu)

theorem State.LaneRests.formCap (h : s.LaneRests) : s.formCap.LaneRests := by
  have hcap : (s.handCap s.effectiveCap).LaneRests := by
    unfold State.handCap
    split
    · exact h
    · obtain ⟨v, hv⟩ : ∃ v : State, v = { s with loads := { s.loads with cap := s.effectiveCap } } := ⟨_, rfl⟩
      rw [← hv]
      obtain ⟨l, m, hplan, -, -⟩ := v.plan_frame
      have hlane : s.tetherPowered = true → v.plan.loads.current.lane = v.plan.loads.target.lane ∧
          v.plan.loads.target.lane = if s.parked then 0 else 1 := fun hp => by
        obtain ⟨hcurrent, htarget⟩ := State.plan_lane (s := v) (by rw [hv]; exact hp)
        have hpinned : v.pinnedLane = if s.parked then 0 else 1 := by
          rw [hv]; exact State.pinnedLane_rests (s := s) h.state
        exact ⟨hcurrent.trans htarget.symm, htarget.trans hpinned⟩
      rw [hplan] at hlane ⊢
      rw [hv] at hlane ⊢
      exact h.congr rfl rfl rfl rfl rfl rfl hlane
  unfold State.formCap
  split
  · rw [State.syncAudioPower_eq]
    (repeat' split)
    · exact hcap
    · exact hcap.congr rfl rfl rfl rfl rfl rfl hcap.level
    · exact hcap.congr rfl rfl rfl rfl rfl rfl hcap.level
  · exact h

/-- The lane at rest, reached by the agreement controller's steps, has been handed on (R95). -/
theorem State.LaneRests.handedOn {free : Flag} (h : t.LaneRests) (hh : s.Handed free t) : s.HandedOn t := by
  have hoff := h.notRunning
  have hends : t.agree.state ≠ .training ∧ t.agree.state ≠ .running := by
    rcases h.state with h | h <;> rw [h] <;> decide
  obtain ⟨hnotTraining, hnotRunning⟩ := hends
  have horder : (if t.parked then AgreeState.halted else t.agree.state) ≠ .training ∧
      (if t.parked then AgreeState.halted else t.agree.state) ≠ .running := by
    split
    · decide
    · exact ⟨hnotTraining, hnotRunning⟩
  obtain ⟨hordTraining, hordRunning⟩ := horder
  have hgraded : ¬(t.agree.state = .training ∨ t.agree.state = .running) := not_or.2 ⟨hnotTraining, hnotRunning⟩
  unfold State.HandedOn
  dsimp only
  refine ⟨fun l hl => ?_, fun l hl _ => ?_, fun hg => absurd hg (not_or.2 ⟨hordTraining, hordRunning⟩), ?_, fun hp => ?_,
    fun _ => h.doze, fun hs _ => ⟨fun hr => ?_, fun hr => ?_⟩, fun _ ht => ?_, fun hst => ?_⟩
  · obtain ⟨hstate, hsending, hwaiting⟩ := h.tx l hl
    rw [if_neg hordTraining, if_neg hordRunning]
    exact ⟨hstate, fun _ => ⟨hsending, hwaiting⟩⟩
  · rw [if_neg hordTraining]; exact h.rx l hl
  · rw [if_neg hgraded]; exact h.summary
  · rw [if_neg hgraded]; exact h.level hp
  · rw [hh.slices, if_pos ⟨hh.role ▸ hr, hs, hoff⟩]; exact ⟨rfl, rfl⟩
  · rw [hh.timer, if_pos ⟨hh.role ▸ hr, hs, hoff⟩, hh.clock]
  · rw [hoff] at ht; exact absurd ht (by decide)
  · have hno : ¬s.running = true := by rw [hst, hoff]; decide
    rw [hh.slices, hh.timer, if_neg (fun h => hno h.2.1), if_neg (fun h => hno h.2.1)]
    exact ⟨rfl, rfl⟩

/-! ## The controller's part of a change told -/

/-- The opening of a round leaves a controller that takes triggers still. -/
theorem Agree.afterSet_takes {a : Agree} {r : Role} (h : a.takes r = true) (changed : Bool) (t : State) :
    (a.afterSet changed t).takes r = true := by
  have hrole : decide (r ≠ .battery) = true := by
    rw [Agree.takes, Bool.and_eq_true] at h; exact h.1
  have htakes : ∀ b : Agree, b.state = .settle ∨ (b.reason ≠ .notJoined ∧ b.reason ≠ .listenOnly) → b.takes r = true := by
    intro b hb
    rw [Agree.takes, hrole, Bool.true_and]
    rcases hb with hb | ⟨hn, hl⟩
    · rw [hb]; rfl
    · rw [decide_eq_false hn, decide_eq_false hl, Bool.or_false, Bool.and_false, Bool.not_false]
  unfold Agree.afterSet Agree.opened
  (repeat' split)
  · exact h
  · exact htakes _ (.inr ⟨nofun, nofun⟩)
  · exact htakes _ (.inr ⟨nofun, nofun⟩)
  · exact htakes _ (.inl rfl)

theorem State.handIfChanged_rests (h : s.agree.takes s.role = true) {l : List Grade} {c : Grade}
    (hchanged : l ≠ s.power.modeSet ∨ c ≠ s.power.modeCeiling) : (s.handIfChanged false l c).LaneRests := by
  have hne : ¬(s.power.modeSet = l ∧ s.power.modeCeiling = c) := fun ⟨hl, hc⟩ => hchanged.elim (· hl.symm) (· hc.symm)
  rw [State.handIfChanged, if_neg hne]
  exact State.ownSetChanged_rests (s := s.writeModeSet l c) h

theorem State.formModeSet_rests (h : s.agree.takes s.role = true)
    (hchanged : (s.formModeSet false).power.modeSet ≠ s.power.modeSet ∨
      (s.formModeSet false).power.modeCeiling ≠ s.power.modeCeiling) : (s.formModeSet false).LaneRests := by
  rcases s.role_cases with hr | hr | hr
  · rw [State.formModeSet_source hr, State.handIfChanged_power] at hchanged
    rw [State.formModeSet_source hr]
    exact State.handIfChanged_rests h hchanged
  · rw [State.formModeSet_battery hr] at hchanged
    exact absurd hchanged (not_or.2 ⟨not_not.2 rfl, not_not.2 rfl⟩)
  · rw [State.formModeSet_powered hr, State.handIfChanged_power] at hchanged
    rw [State.formModeSet_powered hr]
    exact State.handIfChanged_rests (s := s.delayed) h hchanged

theorem State.powerStep_rests (h : s.agree.takes s.role = true) {changed : Bool}
    (hchanged : (s.powerStep changed).power.modeSet ≠ s.power.modeSet ∨
      (s.powerStep changed).power.modeCeiling ≠ s.power.modeCeiling) : (s.powerStep changed).LaneRests := by
  cases changed
  · exact absurd hchanged (not_or.2 ⟨not_not.2 rfl, not_not.2 rfl⟩)
  · have hsupplied : s.supplied.agree = s.agree ∧ s.supplied.role = s.role ∧ s.supplied.power.modeSet = s.power.modeSet ∧
        s.supplied.power.modeCeiling = s.power.modeCeiling := by rw [State.supplied_eq]; exact ⟨rfl, rfl, rfl, rfl⟩
    obtain ⟨hagree, hrole, hset, hceiling⟩ := hsupplied
    refine State.LaneRests.formCap (State.formModeSet_rests (s := s.supplied) (by rw [hagree, hrole]; exact h) ?_)
    rw [hset, hceiling, ← State.reform_power]
    exact hchanged

/-- A trigger taken, of the mode set or of the path, leaves the lane at rest. -/
theorem State.pathStep_rests (h : s.agree.takes s.role = true) {changed path : Bool}
    (hchanged : (s.pathStep changed path).power.modeSet ≠ s.power.modeSet ∨
      (s.pathStep changed path).power.modeCeiling ≠ s.power.modeCeiling ∨ path = true) : (s.pathStep changed path).LaneRests := by
  cases path
  · refine State.powerStep_rests h ?_
    rcases hchanged with h | h | h
    · exact .inl h
    · exact .inr h
    · cases h
  · have hrole : (s.powerStep changed).role = s.role := by rw [s.powerStep_pathFrame changed]; rfl
    refine State.pathChanged_rests (s := s.powerStep changed) ?_
    have hagree := s.pathStep_agree changed false
    rw [show s.pathStep changed false = s.powerStep changed from rfl] at hagree
    rw [hrole, hagree, Agree.afterPath, if_pos (.inl rfl)]
    exact Agree.afterSet_takes h _ _

/-! ## Cap and mode set formed (R65 to R70) -/

/-- Straps, settings, list, droop level and faults decide the parked condition and the effective cap. -/
theorem State.cap_congr (hstraps : u.straps = s.straps) (hitems : u.items = s.items)
    (hlist : u.power.allowances = s.power.allowances) (hdroop : u.power.droop = s.power.droop)
    (hcrit : u.power.critActive = s.power.critActive) (hlost : u.power.lostActive = s.power.lostActive) :
    u.parked = s.parked ∧ u.effectiveCap = s.effectiveCap := by
  have hparked : u.parked = s.parked := by
    simp only [State.parked, State.ownGrant, State.parkHold, State.holdOf, State.tetherPowered, State.item, State.role, hstraps, hitems,
      hlist, hcrit, hlost]
  have hgrant : u.ownGrant = s.ownGrant := by simp only [State.ownGrant, hstraps, hlist]
  have hfloors : u.floorsHold = s.floorsHold := by
    simp only [State.floorsHold, State.holdOf, State.item, hitems, hcrit, hlost]
  have hrole : u.role = s.role := congrArg Straps.role hstraps
  refine ⟨hparked, ?_⟩
  rw [State.effectiveCap, State.effectiveCap, hparked, hfloors, hgrant, hrole, hdroop]

theorem State.ceiling_congr (hstraps : u.straps = s.straps) (hitems : u.items = s.items) (hlowered : u.agree.lowered = s.agree.lowered) :
    u.effectiveCeiling = s.effectiveCeiling := by
  simp only [State.effectiveCeiling, State.item, hstraps, hitems, hlowered]

theorem State.plan_cap (s : State) : s.plan.loads.cap = s.loads.cap := by
  obtain ⟨l, m, h, -, hl⟩ := s.plan_frame
  rw [h, hl]
  dsimp only
  split <;> rfl

theorem State.changeAgree_cap (s : State) (st : AgreeState) (g : Option Grade) (r : Reason) :
    (s.changeAgree st g r).loads.cap = s.loads.cap := by
  obtain ⟨l, m, -, hl, h⟩ := s.changeAgree_frame st g r
  rw [h, hl]
  dsimp only
  split <;> rfl

theorem State.pathChanged_cap (s : State) : s.pathChanged.loads.cap = s.loads.cap := by
  unfold State.pathChanged State.openRound State.halt State.enterSettle
  (repeat' split)
  · exact State.changeAgree_cap ..
  · exact State.changeAgree_cap ..
  · exact State.changeAgree_cap ..
  · rfl

theorem State.formCap_cap (hp : s.tetherPowered = true) : s.formCap.loads.cap = s.effectiveCap := by
  have hcap : (s.handCap s.effectiveCap).loads.cap = s.effectiveCap := by
    unfold State.handCap
    split
    · assumption
    · exact State.plan_cap _
  rw [State.formCap, if_pos hp, State.syncAudioPower_eq]
  (repeat' split) <;> exact hcap

theorem stepDelay_eq {p : Prop} [Decidable p] {b : Bool} (hb : b = true ↔ p) (now : Nat) (d : Delay) :
    (¬p → stepDelay b now d = .idle) ∧ (p → stepDelay b now d = if d = .idle then .running now else d) := by
  cases b
  · exact ⟨fun _ => rfl, fun h => absurd (hb.2 h) (by decide)⟩
  · exact ⟨fun h => absurd (hb.1 rfl) h, fun _ => by cases d <;> rfl⟩

theorem candidate_iff (r : Role) (cap : Nat) (c g : Grade) : candidate r cap c g = true ↔
    totalCost r (floorLevels r (gradeNum g)) ≤ cap ∧ gradeNum g ≤ gradeNum c := by
  rw [candidate, sustainable, Bool.and_eq_true, decide_eq_true_eq, decide_eq_true_eq]

theorem Power.stepDelays_delay (p : Power) (r : Role) (cap : Nat) (c : Grade) (now : Nat) {g : Grade} (hg : g ≠ .g1) :
    (p.stepDelays r cap c now).delay g = stepDelay (candidate r cap c g) now (p.delay g) := by
  cases g
  · exact absurd rfl hg
  all_goals rfl

/-- Mode set, ceiling and cap as they stand after they were formed. -/
theorem State.reform_setFormed (s : State) : s.SetFormed s.reform := by
  have hhanded : s.Handed .baseForced s.reform := .reform s
  have hframe := s.reform_pathFrame
  have hstraps : s.reform.straps = s.straps := hhanded.frame.straps
  have hitems : s.reform.items = s.items := by rw [hframe]
  have hagree : s.reform.agree.lowered = s.agree.lowered ∧ s.reform.agree.baseForcedFrom = s.agree.baseForcedFrom := by
    rw [State.reform_agree, State.formModeSet_agree]; exact Agree.afterSet_keeps _ _ _
  have hceiling : s.reform.effectiveCeiling = s.effectiveCeiling := State.ceiling_congr hstraps hitems hagree.1
  refine ⟨fun hp => ?_, fun hr => ?_⟩
  · have hp' : s.tetherPowered = true := by rw [State.tetherPowered, ← hhanded.role]; exact hp
    have hpower : s.reform.power = { s.delayed.power with
        modeSet := s.delayed.formedSet, modeCeiling := s.delayed.effectiveCeiling } := by
      rw [State.reform_power, State.formModeSet_powered hp', State.handIfChanged_power]
    obtain ⟨hparked, hcap⟩ : s.reform.parked = s.parked ∧ s.reform.effectiveCap = s.effectiveCap :=
      State.cap_congr hstraps hitems (by rw [hpower]; rfl) (by rw [hpower]; rfl) (by rw [hpower]; rfl) (by rw [hpower]; rfl)
    have hloads : s.reform.loads.cap = s.reform.effectiveCap := by
      have hformed : (s.formModeSet false).Handed .baseForced s.reform := .formCap _
      have hpf : (s.formModeSet false).tetherPowered = true := by
        rw [State.tetherPowered, ← hformed.role]; exact hp
      have hsame : (s.formModeSet false).effectiveCap = s.reform.effectiveCap :=
        (State.cap_congr hformed.frame.straps.symm (by rw [hformed.frame]) (by rw [State.reform_power]) (by rw [State.reform_power])
          (by rw [State.reform_power]) (by rw [State.reform_power])).2
      rw [← hsame]
      exact State.formCap_cap hpf
    refine ⟨fun g hg => ?_, ?_, ?_, hloads⟩
    · have hdelay : s.reform.power.delay g = stepDelay (candidate s.role s.effectiveCap s.effectiveCeiling g) s.clock.now
          (s.power.delay g) := by
        rw [hpower, ← Power.stepDelays_delay _ _ _ _ _ hg]
        cases g <;> rfl
      have hfits := stepDelay_eq (candidate_iff s.role s.effectiveCap s.effectiveCeiling g) s.clock.now (s.power.delay g)
      dsimp only
      rw [hdelay, hhanded.role, hcap, hceiling, hhanded.clock]
      exact hfits
    · rw [hparked, hagree.2, hpower]
      rfl
    · rw [hceiling, hpower]
      rfl
  · have hr' : s.role = .source := hhanded.role.symm.trans hr
    have hpower : s.reform.power = { s.power with modeSet := s.sourceSet, modeCeiling := s.effectiveCeiling } := by
      rw [State.reform_power, State.formModeSet_source hr', State.handIfChanged_power]
    rw [hceiling, hagree.2, hpower]
    exact ⟨rfl, rfl⟩

/-- Only the power block, settings, controller, cap and time are read. -/
theorem State.SetFormed.congr (h : s.SetFormed t) (hstraps : u.straps = t.straps) (hitems : u.items = t.items) (hpower : u.power = t.power)
    (hlowered : u.agree.lowered = t.agree.lowered) (hforced : u.agree.baseForcedFrom = t.agree.baseForcedFrom)
    (hcap : u.loads.cap = t.loads.cap) (hclock : u.clock = t.clock) : s.SetFormed u := by
  obtain ⟨hparked, heffective⟩ := State.cap_congr hstraps hitems (congrArg Power.allowances hpower) (congrArg Power.droop hpower)
    (congrArg Power.critActive hpower) (congrArg Power.lostActive hpower)
  have hceiling := State.ceiling_congr hstraps hitems hlowered
  have hrole : u.role = t.role := congrArg Straps.role hstraps
  unfold State.SetFormed State.tetherPowered at *
  rw [hrole, hparked, heffective, hceiling, hpower, hforced, hcap, hclock]
  exact h

/-! ## The whole of a change told -/

/-- The copy's following leaves what RUNNING's end handed on (R95). -/
theorem State.HandedOn.schedule (h : s.HandedOn t) {x : SliceSource} (hqueue : x.sendQueue = t.sliceSource.sendQueue)
    (hsubmission : x.submission = none ∨ x.submission = t.sliceSource.submission) : s.HandedOn { t with sliceSource := x } := by
  obtain ⟨htx, hrx, hgrade, hsummary, hlevel, hdoze, hleft, henter, hstay⟩ := h
  refine ⟨htx, hrx, hgrade, hsummary, hlevel, hdoze, fun hs ht => ⟨fun hr => ?_, (hleft hs ht).2⟩, henter, fun hst => ?_⟩
  · obtain ⟨hq, hsub⟩ := (hleft hs ht).1 hr
    exact ⟨hqueue.trans hq, hsubmission.elim id (fun h => h.trans hsub)⟩
  · exact ⟨hqueue.trans (hstay hst).1, (hstay hst).2⟩

/-- What settles the supply, and then leaves it, is what the roster's offers and claims ask (R58, R63, R64, R86). -/
theorem State.supplyFollows_of {changed : Bool} (halike : s.roster.Alike t.roster) (hclock : t.clock = s.clock)
    (hsticky : t.sticky .supplyShort = (s.supplyStep changed).sticky .supplyShort)
    (hsupply : t.power.allowances = (s.supplyStep changed).power.allowances ∧
      t.power.lostActive = (s.supplyStep changed).power.lostActive ∧ t.power.graceFrom = (s.supplyStep changed).power.graceFrom)
    (hset : changed = true → s.SetFormed t) : s.SupplyFollows changed t := by
  obtain ⟨hlist, hlost, hgrace⟩ := hsupply
  unfold State.SupplyFollows
  rw [halike.hasSupplier, halike.computeAllowances, hsticky, hlist, hlost, hgrace, hclock]
  cases changed
  · exact ⟨rfl, (Bool.or_false _).symm, (Bool.and_true _).symm, rfl, hset⟩
  · rw [show s.supplyStep true = s.supplied from rfl, State.supplied_sticky, State.supplied_eq]
    refine ⟨rfl, rfl, ?_, ?_, hset⟩
    · rw [Bool.true_and, Bool.and_comm s.roster.hasSupplier]
    · cases s.tetherPowered <;> cases s.roster.hasSupplier <;> cases s.power.lostActive <;> cases s.power.graceFrom <;> rfl

section told

variable (s : State) (old new : Option Entry)

/-- What the change is told to before the schedule copy follows. -/
def State.toldPath : State := s.pathStep (offerOrClaimChanged old new) (optionOnPath old != optionOnPath new)

theorem State.tellChange_schedule : ∃ x, s.tellChange old new = { s.toldPath old new with sliceSource := x } ∧
    x = if (s.toldPath old new).role = .source ∧ (s.toldPath old new).sliceSource.schedule ≠ scheduleOf (s.toldPath old new).roster then
      { (s.toldPath old new).sliceSource with schedule := scheduleOf (s.toldPath old new).roster, submission := none }
      else (s.toldPath old new).sliceSource := State.syncSchedule_frame _

/-- Settling the supply reaches the power block and a flag. -/
theorem State.supplyStep_frame (changed : Bool) : ∃ p h, s.supplyStep changed = { s with power := p, host := h } := by
  cases changed
  · exact ⟨s.power, s.host, rfl⟩
  · exact ⟨_, _, s.supplied_eq⟩

theorem State.toldPath_handed {free : Flag} :
    (s.supplyStep (offerOrClaimChanged old new)).Handed free (s.toldPath old new) := s.pathStep_handed _ _

/-- The submission and the send queue before the copy follows: as they stood, unless RUNNING was left. -/
theorem State.toldPath_slices : (s.toldPath old new).role = s.role ∧ (s.toldPath old new).sliceSource =
    if s.role = .source ∧ s.running = true ∧ (s.toldPath old new).running = false then s.sliceSource.left else s.sliceSource := by
  have hhanded := s.toldPath_handed old new (free := .baseForced)
  obtain ⟨p, h, hframe⟩ := s.supplyStep_frame (offerOrClaimChanged old new)
  refine ⟨hhanded.role.trans (by rw [hframe]; rfl), ?_⟩
  rw [hhanded.slices, hframe]
  rfl

/-- The copy of the schedule, and the submission with it (R119, R123). -/
theorem State.tellChange_scheduleFollows : s.ScheduleFollows (s.tellChange old new) := by
  obtain ⟨hrole, hslices⟩ := s.toldPath_slices old new
  obtain ⟨x, ht, hx⟩ := s.tellChange_schedule old new
  rw [hrole] at hx
  have hrun : (s.tellChange old new).running = (s.toldPath old new).running := by rw [ht]; rfl
  refine ⟨fun hr => ?_, fun hr => ?_⟩
  · rw [ht]
    show x = s.sliceSource
    rw [hx, if_neg (fun h => hr h.1), hslices, if_neg (fun h => hr h.1)]
  · have hkept : (s.toldPath old new).sliceSource.schedule = s.sliceSource.schedule ∧
        (s.toldPath old new).sliceSource.frames = s.sliceSource.frames ∧
        (s.toldPath old new).sliceSource.answer = s.sliceSource.answer := by
      rw [hslices]; split <;> exact ⟨rfl, rfl, rfl⟩
    obtain ⟨hschedule, hframes, hanswer⟩ := hkept
    have hsubmission : (s.toldPath old new).running = s.running →
        (s.toldPath old new).sliceSource.submission = s.sliceSource.submission := fun h => by
      rw [hslices, h, if_neg (by rintro ⟨-, h1, h2⟩; rw [h1] at h2; exact absurd h2 (by decide))]
    rw [hrun, ht]
    show x.schedule = scheduleOf (s.toldPath old new).roster ∧ x.frames = s.sliceSource.frames ∧ x.answer = s.sliceSource.answer ∧
      (s.sliceSource.schedule ≠ scheduleOf (s.toldPath old new).roster → x.submission = none) ∧
      (s.sliceSource.schedule = scheduleOf (s.toldPath old new).roster → (s.toldPath old new).running = s.running →
        x.submission = s.sliceSource.submission)
    rw [hschedule] at hx
    by_cases hc : s.sliceSource.schedule = scheduleOf (s.toldPath old new).roster
    · rw [if_neg (fun h => h.2 hc)] at hx
      rw [hx]
      exact ⟨hschedule.trans hc, hframes, hanswer, fun h => absurd hc h, fun _ => hsubmission⟩
    · rw [if_pos ⟨hr, hc⟩] at hx
      rw [hx]
      exact ⟨rfl, hframes, hanswer, fun _ => rfl, fun h => absurd h hc⟩

/-- The controller's part: the triggers taken in their order, and what they hand on (R95, R96). -/
theorem State.tellChange_agreeFollows : s.AgreeFollows (optionOnPath old != optionOnPath new) (s.tellChange old new) := by
  obtain ⟨x, ht, hx⟩ := s.tellChange_schedule old new
  have hagree := s.pathStep_agree (offerOrClaimChanged old new) (optionOnPath old != optionOnPath new)
  rw [ht]
  refine ⟨hagree, fun hchanged htakes => ?_⟩
  have hrests : (s.toldPath old new).LaneRests := by
    refine State.pathStep_rests htakes ?_
    rw [Bool.or_eq_true, Bool.or_eq_true, decide_eq_true_eq, decide_eq_true_eq, or_assoc] at hchanged
    exact hchanged
  have hhanded : s.HandedOn (s.toldPath old new) := by
    have h := hrests.handedOn (s.toldPath_handed old new (free := .baseForced))
    obtain ⟨p, ho, hframe⟩ := s.supplyStep_frame (offerOrClaimChanged old new)
    rw [hframe] at h
    exact h
  refine State.HandedOn.schedule (t := s.toldPath old new) hhanded ?_ ?_
  · rw [hx]; split <;> rfl
  · rw [hx]; split
    · exact .inl rfl
    · exact .inr rfl

/-- Delays, mode set, ceiling and cap stand as `reform` leaves them, whatever the path's change then does to the round. -/
theorem State.pathStep_setFormed (path : Bool) : s.SetFormed (s.pathStep true path) := by
  have hdelay : s.supplied.SetFormed s.supplied.reform := s.supplied.reform_setFormed
  have hformed : s.SetFormed s.supplied.reform := by
    have hsame : ∀ g, s.supplied.power.delay g = s.power.delay g := fun g => by rw [State.supplied_eq]; cases g <;> rfl
    unfold State.SetFormed at hdelay ⊢
    simp only [hsame] at hdelay
    exact hdelay
  cases path
  · exact hformed
  · have hhanded : s.supplied.reform.Handed .baseForced s.supplied.reform.pathChanged := .pathChanged _
    have hagree : s.supplied.reform.pathChanged.agree.lowered = s.supplied.reform.agree.lowered ∧
        s.supplied.reform.pathChanged.agree.baseForcedFrom = s.supplied.reform.agree.baseForcedFrom := by
      rw [State.pathChanged_agree]; exact Agree.afterPath_keeps _ _ _
    have hitems : s.supplied.reform.pathChanged.items = s.supplied.reform.items := by rw [hhanded.frame]
    exact hformed.congr hhanded.frame.straps hitems State.pathChanged_power hagree.1 hagree.2
      (State.pathChanged_cap _) hhanded.clock

/-- The supply's part: list, SUPPLY_SHORT, grace and SUPPLY_LOST, then cap and mode set (R58, R63, R64, R86). -/
theorem State.tellChange_supplyFollows : s.SupplyFollows (offerOrClaimChanged old new) (s.tellChange old new) := by
  obtain ⟨x, ht, -⟩ := s.tellChange_schedule old new
  have hhanded := s.toldPath_handed old new (free := .baseForced)
  have hset : offerOrClaimChanged old new = true → s.SetFormed { s.toldPath old new with sliceSource := x } := by
    intro hc
    have hformed := s.pathStep_setFormed (optionOnPath old != optionOnPath new)
    rw [← hc] at hformed
    exact State.SetFormed.congr (t := s.toldPath old new) hformed rfl rfl rfl rfl rfl rfl rfl
  have hstands : s.roster.Alike (s.toldPath old new).roster ∧ (s.toldPath old new).clock = s.clock := by
    have halike := hhanded.alike
    have hclock := hhanded.clock
    obtain ⟨p, h, hframe⟩ := s.supplyStep_frame (offerOrClaimChanged old new)
    rw [hframe] at halike hclock
    exact ⟨halike, hclock⟩
  rw [ht]
  exact State.supplyFollows_of (t := { s.toldPath old new with sliceSource := x }) hstands.1 hstands.2
    (hhanded.flags .supplyShort (by decide)) hhanded.supply hset

end told

/-! ## The removal of an entry (R37 to R39) -/

theorem State.tellChange_clock (s : State) (old new : Option Entry) : (s.tellChange old new).clock = s.clock := by
  obtain ⟨x, ht, -⟩ := s.tellChange_schedule old new
  have hclock := (s.toldPath_handed old new (free := .baseForced)).clock
  obtain ⟨p, h, hframe⟩ := s.supplyStep_frame (offerOrClaimChanged old new)
  rw [hframe] at hclock
  rw [ht]
  exact hclock

theorem offerOrClaimChanged_removed (e : Entry) : offerOrClaimChanged (some e) none = (e.offer.isSome || e.claim.isSome) := by
  cases ho : e.offer <;> cases hc : e.claim <;> simp [offerOrClaimChanged, optionOffer, optionClaim, ho, hc]

theorem optionOnPath_removed (e : Entry) : (optionOnPath (some e) != optionOnPath none) = e.onPath := by
  rw [optionOnPath, optionOnPath]; cases e.onPath <;> rfl

/-- An entry removed, and what is told of it, at whatever time (R37, R38). -/
theorem State.removeEntry_told (s : State) (c : Clock) (e : Entry) :
    let t := ({ s with clock := c } : State).removeEntry e
    s.SupplyFollows (e.offer.isSome || e.claim.isSome) t ∧ s.ScheduleFollows t ∧ s.AgreeFollows e.onPath t ∧
    t.roster.find e.addr = none ∧ t.roster.peers = s.roster.peers.filter (fun x => x.addr != e.addr) ∧ t.sticky .peerLeft = true ∧
      State.PathFrame { s with roster := { s.roster with peers := s.roster.peers.filter (fun x => x.addr != e.addr) } } t ∧
      t.clock = c := by
  intro t
  obtain ⟨v, hv⟩ : ∃ v : State, v = (({ s with clock := c } : State).setPeers
    (s.roster.peers.filter (fun x => x.addr != e.addr))).raise .peerLeft := ⟨_, rfl⟩
  have ht : t = v.tellChange (some e) none := by rw [hv]; rfl
  have hsupply := v.tellChange_supplyFollows (some e) none
  have hschedule := v.tellChange_scheduleFollows (some e) none
  have hagree := v.tellChange_agreeFollows (some e) none
  have hframe := v.tellChange_pathFrame (some e) none
  have hleft := v.tellChange_sticky (some e) none (f := .peerLeft) (by decide)
  have hclock := v.tellChange_clock (some e) none
  have hshort : v.sticky .supplyShort = s.sticky .supplyShort := by rw [hv]; exact State.raise_sticky_ne (by decide)
  rw [offerOrClaimChanged_removed, State.SupplyFollows, hshort] at hsupply
  rw [optionOnPath_removed] at hagree
  rw [← ht] at hsupply hschedule hagree hframe hleft hclock
  have hpeers : t.roster.peers = s.roster.peers.filter (fun x => x.addr != e.addr) := by rw [hframe, hv]; rfl
  have hset : v.SetFormed t → s.SetFormed t := by rw [hv]; exact id
  obtain ⟨hlist, hflag, hlost, hgrace, hformed⟩ := hsupply
  rw [hv] at hlist hlost hgrace hschedule hagree hframe hleft hclock
  exact ⟨⟨hlist, hflag, hlost, hgrace, fun h => hset (hformed h)⟩, hschedule, hagree, by rw [Roster.find, hpeers]; exact find_filter_self _ _,
    hpeers, hleft.trans (State.raise_sticky .peerLeft), hframe, hclock⟩

theorem exec_peerLeft (hp : s.powered = true) {a : Addr} {e : Entry} {t0 : Nat} (hf : s.roster.find a = some e)
    (hl : e.lastHeard = some t0) : exec (.peerLeft a) s = .next ((s.advanceTo (t0 + agingTime)).removeEntry e) := by
  rw [show exec (.peerLeft a) s = execPeerLeft a s from rfl, execPeerLeft, whilePowered_on hp, hf]
  exact congrArg _ (runOut_running hl _ _)

/-- A NOTICE LEAVING from an address that is not the node's own (R39). -/
theorem State.rosterHears_leaving {h : Heard} (hk : h.kind = .notice) (hb : byteAt h.payload 0 = 4) (h0 : h.sender ≠ 0)
    (hown : h.sender ≠ s.straps.addr) :
    s.rosterHears h = match s.roster.find h.sender with | some e => s.removeEntry e | none => s := by
  have hown' : s.ownAddress h = false := by
    rw [Bool.eq_false_iff, ne_eq, State.ownAddress_iff]; exact fun h => hown h.2
  have hclash : s.roleClash h = false := by
    rw [Bool.eq_false_iff, ne_eq, State.roleClash_iff, hk]
    rintro ⟨-, h, -⟩
    exact absurd h (by decide)
  rw [State.rosterHears_ordinary hown' hclash, if_neg h0, if_neg (by rw [hk]; rintro ⟨h, -⟩; exact absurd h (by decide)),
    State.rosterTakes]
  exact if_pos ⟨hk, hb⟩

theorem State.contentArrives_leaving {h : Heard} (hk : h.kind = .notice) (hb : byteAt h.payload 0 = 4) : s.contentArrives h = s := by
  rw [State.contentArrives_notice hk, hb]
  rfl

/-- Settles O23: the removal, by silence and by notice. -/
theorem silentPeerIsRemoved : Obligations.SilentPeerIsRemoved := by
  refine ⟨fun s a e t0 hp hf hl => ?_, fun s h hk hb h0 hown => ⟨fun hnone => ?_, fun e hf => ?_⟩⟩
  · obtain ⟨c, hc⟩ : ∃ c, s.advanceTo (t0 + agingTime) = { s with clock := c } := ⟨_, rfl⟩
    obtain ⟨-, haddr⟩ := State.RosterSound.find_mem hf
    have htold := s.removeEntry_told c e
    rw [haddr] at htold
    obtain ⟨hsupply, hschedule, hagree, hnone, hpeers, hleft, hframe, hclock⟩ := htold
    refine ⟨({ s with clock := c } : State).removeEntry e, (exec_peerLeft hp hf hl).trans (by rw [hc]), ?_,
      hsupply, hschedule, hagree, hnone, hpeers, hleft, hframe⟩
    rw [show t0 + 350000 = t0 + agingTime from rfl, hc]
    exact hclock
  · rw [State.rosterHears_leaving hk hb h0 hown, hnone]
    exact ⟨rfl, State.contentArrives_leaving hk hb⟩
  · obtain ⟨-, haddr⟩ := State.RosterSound.find_mem hf
    have htold := s.removeEntry_told s.clock e
    rw [haddr] at htold
    obtain ⟨hsupply, hschedule, hagree, hnone, hpeers, hleft, hframe, hclock⟩ := htold
    dsimp only
    rw [State.rosterHears_leaving hk hb h0 hown, hf]
    exact ⟨⟨hsupply, hschedule, hagree, hnone, hpeers, hleft, hframe⟩, hclock, State.contentArrives_leaving hk hb⟩

end Sys2Proof.Machine
end

section
/-! SUPPORT. The burst of a peer at the roster (R35, R36): its sender's entry, and what follows of a MODESET or CONFIRM (R97). -/

namespace Sys2Proof.Machine

variable {s t u : State}

/-! ## The entry -/

/-- When the entry was heard makes no difference to what the burst's kind carries. -/
theorem Entry.take_heard (h : Heard) (e : Entry) (x : Option Nat) :
    Entry.take h { e with lastHeard := x } = { Entry.take h e with lastHeard := x } := by
  unfold Entry.take Entry.takeBeacon
  dsimp only
  (repeat' split) <;> rfl

theorem Heard.entry_eq (h : Heard) (old : Option Entry) :
    h.entry old = { Entry.take h (old.getD (newEntry h.sender)) with lastHeard := some h.local' } := Entry.take_heard ..

theorem Heard.offerOrClaim (h : Heard) (old : Option Entry) : offerOrClaimChanged old (some (h.entry old)) =
    (decide ((old.getD (newEntry h.sender)).offer ≠ (Entry.take h (old.getD (newEntry h.sender))).offer) ||
      decide ((old.getD (newEntry h.sender)).claim ≠ (Entry.take h (old.getD (newEntry h.sender))).claim)) := by
  have hbne : ∀ {α : Type} [BEq α] [LawfulBEq α] [DecidableEq α] (a b : α), (a != b) = decide (a ≠ b) := fun a b => by
    rw [Bool.eq_iff_iff, bne_iff_ne, decide_eq_true_eq]
  have hold : optionOffer old = (old.getD (newEntry h.sender)).offer ∧ optionClaim old = (old.getD (newEntry h.sender)).claim := by
    cases old <;> exact ⟨rfl, rfl⟩
  rw [offerOrClaimChanged, hold.1, hold.2, optionOffer, optionClaim, Heard.entry_eq, hbne, hbne]

theorem Heard.path (h : Heard) (old : Option Entry) : (optionOnPath old != optionOnPath (some (h.entry old))) =
    decide ((old.getD (newEntry h.sender)).onPath ≠ (Entry.take h (old.getD (newEntry h.sender))).onPath) := by
  have hold : optionOnPath old = (old.getD (newEntry h.sender)).onPath := by cases old <;> rfl
  have hnew : optionOnPath (some (h.entry old)) = (Entry.take h (old.getD (newEntry h.sender))).onPath := by
    rw [optionOnPath, Heard.entry_eq]; rfl
  rw [hold, hnew, Bool.eq_iff_iff, bne_iff_ne, decide_eq_true_eq]

/-- A MODESET or CONFIRM carries no offer or claim. -/
theorem Heard.round_keeps {h : Heard} (hk : h.kind = .modeset ∨ h.kind = .confirm) (e : Entry) :
    (Entry.take h e).offer = e.offer ∧ (Entry.take h e).claim = e.claim := by
  unfold Entry.take
  rcases hk with hk | hk <;> rw [hk] <;> dsimp only <;> split <;> exact ⟨rfl, rfl⟩

/-- Entering the entry reaches the peers and the flag PEER_JOINED. -/
theorem State.entered_frame (s : State) (h : Heard) : ∃ w, s.entered h = { s with
    roster := { s.roster with peers := putEntry (h.entry (s.roster.find h.sender)) s.roster.peers }
    host := { s.host with sticky := w } } := by
  unfold State.entered
  split
  · exact ⟨_, rfl⟩
  · exact ⟨_, rfl⟩

/-! ## After the round is told (R97) -/

/-- The round told of a MODESET or CONFIRM leaves the supply as it is. -/
theorem State.SupplyFollows.handed (h : s.SupplyFollows false t) (hh : t.Handed .baseForced u) : s.SupplyFollows false u := by
  obtain ⟨hlist, hflag, hlost, hgrace, -⟩ := h
  obtain ⟨hlist', hlost', hgrace'⟩ := hh.supply
  exact ⟨hlist'.trans hlist, (hh.flags _ (by decide)).trans hflag, hlost'.trans hlost, hgrace'.trans hgrace, fun h => absurd h (by decide)⟩

/-- It leaves the schedule's copy, and the submission unless RUNNING is left. -/
theorem State.ScheduleFollows.handed {free : Flag} (h : s.ScheduleFollows t) (hh : t.Handed free u) (hrole : t.role = s.role)
    (hstart : t.running = true → s.running = true) : s.ScheduleFollows u := by
  obtain ⟨hother, hsource⟩ := h
  have hheld : scheduleOf u.roster = scheduleOf t.roster := hh.alike.scheduleOf
  refine ⟨fun hr => ?_, fun hr => ?_⟩
  · rw [hh.slices, if_neg (fun h => hr (hrole ▸ h.1))]
    exact hother hr
  · obtain ⟨hschedule, hframes, hanswer, hclosed, hstays⟩ := hsource hr
    show u.sliceSource.schedule = scheduleOf u.roster ∧ u.sliceSource.frames = s.sliceSource.frames ∧
      u.sliceSource.answer = s.sliceSource.answer ∧ (s.sliceSource.schedule ≠ scheduleOf u.roster → u.sliceSource.submission = none) ∧
      (s.sliceSource.schedule = scheduleOf u.roster → u.running = s.running → u.sliceSource.submission = s.sliceSource.submission)
    rw [hheld, hh.slices]
    split
    · next hleft =>
      obtain ⟨-, ht, hu⟩ := hleft
      refine ⟨hschedule, hframes, hanswer, fun _ => rfl, fun _ hsame => ?_⟩
      rw [hu, hstart ht] at hsame
      exact absurd hsame (by decide)
    · next hnot =>
      refine ⟨hschedule, hframes, hanswer, hclosed, fun hc hsame => hstays hc ?_⟩
      have hstarts := hh.starts
      rw [hrole] at hnot
      cases ht : t.running <;> cases hu : u.running <;> simp_all

theorem State.tellChange_starts (s : State) (old new : Option Entry) (h : (s.tellChange old new).running = true) : s.running = true := by
  obtain ⟨x, ht, -⟩ := s.tellChange_schedule old new
  rw [ht] at h
  have hstarts := (s.toldPath_handed old new (free := .baseForced)).starts h
  obtain ⟨p, ho, hframe⟩ := s.supplyStep_frame (offerOrClaimChanged old new)
  rw [hframe] at hstarts
  exact hstarts

/-- What a burst leaves to the round told: list and schedule, and for a kind that tells no round the controller too. -/
theorem State.rosterTakes_told {h : Heard} (hleaving : ¬(h.kind = .notice ∧ byteAt h.payload 0 = 4))
    (hroom : s.roster.peers.length < 6 ∨ s.roster.find h.sender ≠ none) :
    let old := (s.roster.find h.sender).getD (newEntry h.sender)
    let new := Entry.take h old
    s.SupplyFollows (decide (old.offer ≠ new.offer) || decide (old.claim ≠ new.claim)) (s.rosterTakes h) ∧
    (h.kind ≠ .modeset → h.kind ≠ .confirm → s.AgreeFollows (decide (old.onPath ≠ new.onPath)) (s.rosterTakes h)) ∧
    s.ScheduleFollows (s.rosterTakes h) := by
  intro old new
  obtain ⟨u, hu⟩ : ∃ u, u = (s.entered h).tellChange (s.roster.find h.sender) (some (h.entry (s.roster.find h.sender))) := ⟨_, rfl⟩
  have hsupply := (s.entered h).tellChange_supplyFollows (s.roster.find h.sender) (some (h.entry (s.roster.find h.sender)))
  have hschedule := (s.entered h).tellChange_scheduleFollows (s.roster.find h.sender) (some (h.entry (s.roster.find h.sender)))
  have hagree := (s.entered h).tellChange_agreeFollows (s.roster.find h.sender) (some (h.entry (s.roster.find h.sender)))
  have hframe := (s.entered h).tellChange_pathFrame (s.roster.find h.sender) (some (h.entry (s.roster.find h.sender)))
  rw [h.offerOrClaim, State.SupplyFollows, s.entered_sticky h (by decide)] at hsupply
  rw [h.path] at hagree
  obtain ⟨w, hw⟩ := s.entered_frame h
  have hstart : u.running = true → s.running = true := by
    rw [hu]
    intro hr
    have hs := State.tellChange_starts _ _ _ hr
    rw [hw] at hs
    exact hs
  rw [← hu, hw] at hsupply hschedule hagree hframe
  have hrole : u.role = s.role := by rw [hframe]; rfl
  have hround := State.Handed.tellRound u h (h.entry (s.roster.find h.sender))
  rw [State.rosterTakes_eq hleaving hroom, ← hu]
  refine ⟨?_, fun hm hc => ?_, State.ScheduleFollows.handed hschedule hround hrole hstart⟩
  · by_cases hk : h.kind = .modeset ∨ h.kind = .confirm
    · obtain ⟨ho, hc⟩ := Heard.round_keeps hk old
      have hnone : (decide (old.offer ≠ new.offer) || decide (old.claim ≠ new.claim)) = false := by
        rw [decide_eq_false (not_not.2 ho.symm), decide_eq_false (not_not.2 hc.symm)]; rfl
      rw [hnone] at hsupply ⊢
      exact State.SupplyFollows.handed hsupply hround
    · rw [State.tellRound_other (fun h => hk (.inl h)) (fun h => hk (.inr h))]
      exact hsupply
  · rw [State.tellRound_other hm hc]
    exact hagree

/-! ## The roster in address order (R33, R119) -/

/-- The entries of a roster in form stand in strictly rising address order, the self entry among them. -/
theorem State.RosterSound.entries_rising (h : s.RosterSound) :
    s.roster.entries.Pairwise (fun a b => a.addr.toNat < b.addr.toNat) := by
  have hself : ∀ e ∈ s.roster.peers, e.addr.toNat ≠ s.roster.self.addr.toNat := fun e he hn =>
    (h.others e he).2 ((BitVec.eq_of_toNat_eq hn).trans h.self.1)
  unfold Roster.entries
  refine List.pairwise_append.2 ⟨h.rising.filter _, List.pairwise_cons.2 ⟨fun e he => ?_, h.rising.filter _⟩, fun a ha b hb => ?_⟩
  · obtain ⟨he, hge⟩ := List.mem_filter.1 he
    rw [decide_eq_true_eq] at hge
    have := hself e he
    omega
  · obtain ⟨ha, hlt⟩ := List.mem_filter.1 ha
    rw [decide_eq_true_eq] at hlt
    rcases List.mem_cons.1 hb with rfl | hb
    · exact hlt
    · obtain ⟨hb, hge⟩ := List.mem_filter.1 hb
      rw [decide_eq_true_eq] at hge
      omega

/-- The schedule is the anchor of the lowest-addressed HEADSET entry that holds one (R119). -/
theorem State.RosterSound.scheduleOf_lowest (h : s.RosterSound) {e : Entry} {a : Anchor} (he : e ∈ s.roster.entries)
    (hr : e.role = some .headset) (ha : e.anchor = some a)
    (hlowest : ∀ x ∈ s.roster.entries, x.role = some .headset → x.anchor ≠ none → e.addr.toNat ≤ x.addr.toNat) :
    scheduleOf s.roster = some a := by
  obtain ⟨before, after, hsplit⟩ := List.append_of_mem he
  have hrising := h.entries_rising
  rw [hsplit] at hrising
  have hnone : before.filterMap (fun e => if e.role = some .headset then e.anchor else none) = [] := by
    refine List.filterMap_eq_nil_iff.2 (fun x hx => ?_)
    have hlt : x.addr.toNat < e.addr.toNat := (List.pairwise_append.1 hrising).2.2 x hx e List.mem_cons_self
    have hx' : x ∈ s.roster.entries := by rw [hsplit]; exact List.mem_append_left _ hx
    by_cases hh : x.role = some .headset
    · rw [if_pos hh]
      by_contra hanchor
      exact absurd (hlowest x hx' hh hanchor) (by omega)
    · rw [if_neg hh]
  rw [scheduleOf, hsplit, List.filterMap_append, hnone, List.nil_append, List.filterMap_cons, if_pos hr, ha]
  rfl

/-- Settles O24: the entry, the others, and what is told. -/
theorem burstUpdatesItsSendersEntry : Obligations.BurstUpdatesItsSendersEntry := by
  intro s h hsound h0 hown hleaving hroom
  dsimp only
  have hfind := s.rosterTakes_find hleaving hroom
  obtain ⟨hsupply, hagree, hschedule⟩ := State.rosterTakes_told hleaving hroom
  have hcore : (s.rosterTakes h).core = s.core := State.rosterTakes_core _ _
  have hbeyond : (s.rosterTakes h).motionSource = s.motionSource ∧ (s.rosterTakes h).audioSource = s.audioSource := by
    have hb := ((State.tellRound_beyond _ h (h.entry (s.roster.find h.sender))).trans
      (State.tellChange_beyond (s.entered h) (s.roster.find h.sender) (some (h.entry (s.roster.find h.sender)))))
    rw [← State.rosterTakes_eq hleaving hroom] at hb
    obtain ⟨w, hw⟩ := s.entered_frame h
    rw [hw] at hb
    exact ⟨congrArg Beyond.motion hb, congrArg Beyond.audio hb⟩
  refine ⟨?_, fun a ha => ?_, fun hnew => ?_, ⟨hsupply, hagree⟩, hschedule, fun e a hr he her hea hlowest => ?_,
    join_of_core hcore, straps_of_core hcore, clock_of_core hcore, items_of_core hcore, hbeyond.1, hbeyond.2,
    State.rosterTakes_remote s h⟩
  · rw [hfind, if_pos rfl]; rfl
  · rw [hfind, if_neg ha]
  · rw [State.rosterTakes_eq hleaving hroom, (State.Handed.tellRound _ _ _).flags _ (by decide),
      State.tellChange_sticky _ _ _ (by decide), State.entered, hnew]
    exact State.raise_sticky .peerJoined
  · rw [(hschedule.2 hr).1]
    exact (hsound.rosterTakes h0 hown).scheduleOf_lowest he her hea hlowest

end Sys2Proof.Machine
end

section
/-! SUPPORT. Request frames, flags and the attention output, and the fields of the host's replies (chapter 10, section 11.4). -/

namespace Sys2Proof.Machine

variable {s : State}

/-! ## Request frames (R175) -/

theorem selectionCommands_none {b : List Byte} (h : readRequest b = none) : selectionCommands b = [.hostDeselect ⟨0, 0⟩] := by
  simp only [selectionCommands, h]

/-- A whole frame is read as its request, whatever follows it, and no part of it is. -/
theorem readRequest_whole {code : Byte} {args : List Byte} {i : Instr} (more : List Byte)
    (hlength : requestLength code = args.length + 1) (hrequest : requestOf code (args ++ more) = i) (hwell : i.wellFormed = true)
    (hhost : hostRequest i = true) :
    readRequest ((code :: args) ++ more) = some i ∧ i.wellFormed = true ∧ hostRequest i = true ∧
    selectionCommands ((code :: args) ++ more) = [i, .hostDeselect ⟨more.length, 0⟩] ∧
    ∀ n, n < (code :: args).length →
      readRequest ((code :: args).take n) = none ∧ selectionCommands ((code :: args).take n) = [.hostDeselect ⟨0, 0⟩] := by
  have hread : readRequest ((code :: args) ++ more) = some i :=
    readRequest_cons_eq_some.2 ⟨by rw [hlength]; exact Nat.succ_le_succ (by simp), hrequest⟩
  refine ⟨hread, hwell, hhost, ?_, fun n hn => ?_⟩
  · have hafter : ((code :: args) ++ more).length - requestLength (byteAt ((code :: args) ++ more) 0) = more.length := by
      rw [List.cons_append, byteAt_cons_zero, hlength, List.length_cons, List.length_append]; omega
    simp only [selectionCommands, hread, hafter]
  · have hnone : readRequest ((code :: args).take n) = none := by
      cases n with
      | zero => rfl
      | succ n =>
        rw [List.length_cons] at hn
        refine if_pos ?_
        rw [hlength, List.length_take]
        omega
    exact ⟨hnone, selectionCommands_none hnone⟩

theorem requestLength_unknown {a : Byte} (h : a.toNat = 0 ∨ 12 < a.toNat) : requestLength a = 1 := by
  unfold requestLength
  split
  all_goals omega

theorem requestOf_unknown {a : Byte} (h : a.toNat = 0 ∨ 12 < a.toNat) (args : List Byte) : requestOf a args = .unknownRequest a := by
  unfold requestOf
  split
  any_goals omega
  rfl

/-! ## Flags (section 10.4, R179 to R181) -/

theorem flagBit_getLsbD (b : Bool) (f g : Flag) : (flagBit b g).getLsbD f.number = (b && decide (f = g)) := by
  cases b
  · exact BitVec.getLsbD_zero
  · exact Flag.bit_getLsbD f g

theorem State.flagWord_getLsbD (f : Flag) : s.flagWord.getLsbD f.number = s.flag f := by
  simp only [State.flagWord, BitVec.getLsbD_or, flagBit_getLsbD, State.flag, State.sticky]
  cases f <;> simp [State.live]

theorem getLsbD_noFlag (f : Flag) : (0 : BitVec 28).getLsbD f.number = false := BitVec.getLsbD_zero

theorem foldl_flagBit_getLsbD (p : Flag → Bool) (l : List Flag) (w : BitVec 28) (f : Flag) :
    (l.foldl (fun w g => w ||| flagBit (p g) g) w).getLsbD f.number = (w.getLsbD f.number || (decide (f ∈ l) && p f)) := by
  induction l generalizing w with
  | nil => simp
  | cons g rest ih =>
    rw [List.foldl_cons, ih, BitVec.getLsbD_or, flagBit_getLsbD]
    by_cases h : f = g
    · subst h; cases p f <;> simp
    · simp [h]

theorem State.keptFlags_getLsbD (f : Flag) : s.keptFlags.getLsbD f.number = s.persists f := by
  rw [State.keptFlags, foldl_flagBit_getLsbD, getLsbD_noFlag, Bool.false_or]
  cases f <;> rfl

/-- Every place of the word is a flag's. -/
theorem Flag.exists_number {i : Nat} (h : i < 28) : ∃ f : Flag, f.number = i :=
  ⟨Flag.ofNat i, (by decide : ∀ i < 28, (Flag.ofNat i).number = i) i h⟩

theorem State.item_lt (n : Nat) : s.item n < 65536 := BitVec.isLt _

/-- MASK_LOW below bit 16, MASK_HIGH from there (R180). -/
theorem State.maskWord_getLsbD (f : Flag) : s.maskWord.getLsbD f.number =
    if f.number < 16 then (s.item 28).testBit f.number else (s.item 29).testBit (f.number - 16) := by
  have hn := f.number_lt
  have hlow := s.item_lt (n := itemMaskLow)
  rw [State.maskWord, BitVec.getLsbD_ofNat, decide_eq_true hn, Bool.true_and]
  have hword : s.item itemMaskLow + 65536 * (s.item itemMaskHigh % 4096) =
      2 ^ 16 * (s.item itemMaskHigh % 2 ^ 12) + s.item itemMaskLow := by omega
  rw [hword, Nat.testBit_two_pow_mul_add _ hlow, Nat.testBit_mod_two_pow]
  split
  · rfl
  · rw [decide_eq_true (by omega), Bool.true_and]; rfl

theorem State.attn_iff (hp : s.powered = true) : s.attn = true ↔ ∃ f : Flag, s.flag f = true ∧
    (if f.number < 16 then (s.item 28).testBit f.number else (s.item 29).testBit (f.number - 16)) = true := by
  have hbit : ∀ f : Flag, (s.flagWord &&& s.maskWord).getLsbD f.number = true ↔ s.flag f = true ∧
      (if f.number < 16 then (s.item 28).testBit f.number else (s.item 29).testBit (f.number - 16)) = true := fun f => by
    rw [BitVec.getLsbD_and, State.flagWord_getLsbD, State.maskWord_getLsbD, Bool.and_eq_true]
  rw [State.attn, hp, Bool.true_and, decide_eq_true_eq]
  constructor
  · intro hne
    by_contra hnone
    refine hne (BitVec.eq_of_getLsbD_eq (fun i hi => ?_))
    obtain ⟨f, rfl⟩ := Flag.exists_number hi
    rw [getLsbD_noFlag, Bool.eq_false_iff]
    exact fun h => hnone ⟨f, (hbit f).1 h⟩
  · rintro ⟨f, hf⟩ h0
    have := (hbit f).2 hf
    rw [h0, getLsbD_noFlag] at this
    exact absurd this (by decide)

/-! ## Replies and the release of a selection (R175) -/

theorem exec_hostDeselect (n : Clocking) (s : State) : exec (.hostDeselect n) s = .next { s with host := { s.host with
    clocked := s.host.clockedOut n, reply := [], taken := false, cut := none } } := rfl

/-- A reply cut off by a reset gives the bytes clocked before it, zeros from there on. -/
theorem clockedOut_eq (h : HostPort) (n : Clocking) : h.clockedOut n = match h.cut with
    | none => h.reply.take n.total ++ List.replicate (n.total - h.reply.length) 0
    | some r => r.take (min n.beforeReset n.total) ++
        List.replicate (n.total - min (min n.beforeReset n.total) r.length) 0 := by
  unfold HostPort.clockedOut
  cases h.cut with
  | none => rfl
  | some r =>
    have hzeros : (min n.beforeReset n.total - r.length) + (n.total - n.beforeReset) =
        n.total - min (min n.beforeReset n.total) r.length := by omega
    show clockedBytes (min n.beforeReset n.total) r ++ List.replicate (n.total - n.beforeReset) 0 = _
    rw [clockedBytes, List.append_assoc, List.replicate_append_replicate, hzeros]

/-- After the request was taken the host port does nothing more (R175). -/
theorem exec_hostRequest_taken {c : Instr} (hc : hostRequest c = true) (hw : c.wellFormed = true) (ht : s.host.taken = true) :
    exec c s = .next s := by
  cases c with
  | unknownRequest code =>
    have hcode : code.toNat = 0 ∨ 12 < code.toNat := by simpa [Instr.wellFormed, unknownCode] using hw
    exact (if_pos hcode).trans (onRequest_taken _ ht)
  | itemRead | itemWrite | statusRead | counterRead | rosterRead | allowanceRead | laneRead | motionDrain | framesRead | remoteStart
  | remoteResult | restart =>
    simp only [exec, execItemRead, execItemWrite, execStatusRead, execCounterRead, execRosterRead, execAllowanceRead, execLaneRead,
      execMotionDrain, execFramesRead, execRemoteStart, execRemoteResult, execRestart, onRequest_taken _ ht]
  | _ => exact absurd hc Bool.false_ne_true

/-! ## STATUS_READ and COUNTER_READ (R178, R179) -/

theorem atSource_iff (r : Role) : atSource r = true ↔ r = .source := by cases r <;> decide

section reads

variable (hp : s.powered = true) (ht : s.host.taken = false)
include hp ht

theorem exec_statusRead : exec .statusRead s = .next { s with host := { s.host with
    sticky := s.host.sticky &&& s.keptFlags, reply := 0 :: leBytes 4 s.flagWord.toNat, taken := true } } := by
  rw [show exec .statusRead s = execStatusRead s from rfl, execStatusRead, onRequest_next _ hp ht]
  rfl

theorem exec_counterRead_bad {g : Byte} (hg : 4 < g.toNat) :
    exec (.counterRead g) s = .next { s with host := { s.host with reply := [6], taken := true } } := by
  rw [show exec (.counterRead g) s = execCounterRead g s from rfl, execCounterRead, onRequest_next _ hp ht]
  exact congrArg _ (if_pos hg)

theorem exec_counterRead {g : Byte} (hg : g.toNat ≤ 4) : exec (.counterRead g) s = .next { s with
    counters := s.counters.setGroup g.toNat (List.replicate (s.counters.group g.toNat).length 0)
    host := { s.host with reply := 0 :: (s.counters.group g.toNat).flatMap (leBytes 2), taken := true } } := by
  rw [show exec (.counterRead g) s = execCounterRead g s from rfl, execCounterRead, onRequest_next _ hp ht]
  refine congrArg _ ((if_neg (Nat.not_lt.2 hg)).trans ?_)
  dsimp only
  rw [List.map_const']
  rfl

end reads

/-! ## Fields that may be absent (section 11.4) -/

/-- The bytes of an optional field of a width: zeros while it is absent. -/
def optPart {α : Type} (w : Nat) (f : α → List Byte) : Option α → List Byte
  | none => List.replicate w 0
  | some x => f x

section parts

variable {α : Type} {w k : Nat} {f : α → List Byte} {o : Option α} {b r : List Byte}

theorem optPart_length (hf : ∀ x, (f x).length = w) (o : Option α) : (optPart w f o).length = w := by
  cases o with
  | none => exact List.length_replicate
  | some x => exact hf x

/-- What follows an optional field stands its width further on. -/
theorem drop_optPart (h : b.drop k = optPart w f o ++ r) (hf : ∀ x, (f x).length = w) : b.drop (k + w) = r := by
  rw [← List.drop_drop, h]
  exact List.drop_left' (optPart_length hf o)

theorem take_absent (h : b.drop k = optPart w f o ++ r) (ho : o = none) : (b.drop k).take w = List.replicate w 0 := by
  rw [h, ho]
  exact List.take_left' List.length_replicate

theorem drop_present (h : b.drop k = optPart w f o ++ r) {x : α} (ho : o = some x) : b.drop k = f x ++ r := by rw [h, ho]; rfl

theorem fieldAt_drop (b : List Byte) (k i n : Nat) : fieldAt b (k + i) n = fieldAt (b.drop k) i n := by
  rw [fieldAt, fieldAt, List.drop_drop]

theorem byteAt_drop (b : List Byte) (k i : Nat) : byteAt b (k + i) = byteAt (b.drop k) i := by
  simp only [byteAt, List.getD_eq_getElem?_getD, List.getElem?_drop]

end parts

/-! ## ROSTER_READ (R42) -/

def ageField (now t : Nat) : List Byte := leBytes 2 ((now - t) / 1000)
def offerField (o : Offer) : List Byte := leBytes 2 o.current ++ [o.state]
def claimField (c : Claim) : List Byte := leBytes 2 c.floor ++ leBytes 2 c.want ++ [BitVec.ofNat 8 c.cls]
def modeField (m : ModeSet) : List Byte :=
  leBytes 2 m.round.toNat ++ [BitVec.ofNat 8 m.grades.length] ++ fourCodes m.grades ++ [m.ceiling]
def confirmField (c : Confirm) : List Byte := leBytes 2 c.round.toNat ++ [c.grade]
def anchorField (a : Anchor) : List Byte := leBytes 6 a.time ++ [periodCode a.period120]

/-- The optional fields of an entry in their order. -/
theorem entryBytes_parts (now : Nat) (e : Entry) : entryBytes now e =
    [BitVec.ofNat 8 e.addr.toNat, optRoleCode e.role, e.presence] ++ (optPart 2 (ageField now) e.lastHeard ++
      (optPart 1 (fun y => [y]) e.summary ++ (optPart 3 offerField e.offer ++ (optPart 5 claimField e.claim ++
        (optPart 8 modeField e.modeSet ++ (optPart 3 confirmField e.confirm ++ (optPart 7 anchorField e.anchor ++ []))))))) := by
  unfold entryBytes
  simp only [List.append_assoc, List.append_nil]
  refine congrArg _ (congrArg₂ _ ?_ (congrArg₂ _ ?_ (congrArg₂ _ ?_ (congrArg₂ _ ?_ (congrArg₂ _ ?_ (congrArg₂ _ ?_ ?_))))))
  · cases e.lastHeard <;> rfl
  · cases e.summary <;> rfl
  · cases e.offer <;> rfl
  · cases e.claim <;> rfl
  · cases e.modeSet <;> rfl
  · cases e.confirm <;> rfl
  · cases e.anchor <;> rfl

/-- The presence byte, bit by bit. -/
theorem presence_bits : ∀ a b c d e f g : Bool,
    let p := byteOfBool a ||| (byteOfBool b <<< 1) ||| (byteOfBool c <<< 2) ||| (byteOfBool d <<< 3) ||| (byteOfBool e <<< 4)
      ||| (byteOfBool f <<< 5) ||| (byteOfBool g <<< 6)
    p.toNat < 128 ∧ p.getLsbD 0 = a ∧ p.getLsbD 1 = b ∧ p.getLsbD 2 = c ∧ p.getLsbD 3 = d ∧ p.getLsbD 4 = e ∧ p.getLsbD 5 = f ∧
      p.getLsbD 6 = g := by decide

/-- Where each optional field of an entry stands. -/
theorem entryBytes_offsets (now : Nat) (e : Entry) : ∃ r3 r5 r6 r9 r14 r22,
    (entryBytes now e).drop 3 = optPart 2 (ageField now) e.lastHeard ++ r3 ∧
    (entryBytes now e).drop 5 = optPart 1 (fun y => [y]) e.summary ++ r5 ∧
    (entryBytes now e).drop 6 = optPart 3 offerField e.offer ++ r6 ∧
    (entryBytes now e).drop 9 = optPart 5 claimField e.claim ++ r9 ∧
    (entryBytes now e).drop 14 = optPart 8 modeField e.modeSet ++ r14 ∧
    (entryBytes now e).drop 22 = optPart 3 confirmField e.confirm ++ r22 ∧
    (entryBytes now e).drop 25 = optPart 7 anchorField e.anchor ++ [] ∧ (entryBytes now e).length = 32 := by
  have hage : ∀ t, (ageField now t).length = 2 := fun t => leBytes_length _ _
  have hsummary : ∀ y : Byte, [y].length = 1 := fun _ => rfl
  have hoffer : ∀ o, (offerField o).length = 3 := fun _ => rfl
  have hclaim : ∀ c, (claimField c).length = 5 := fun _ => rfl
  have hmode : ∀ m, (modeField m).length = 8 := fun _ => rfl
  have hconfirm : ∀ c, (confirmField c).length = 3 := fun _ => rfl
  have hanchor : ∀ a, (anchorField a).length = 7 := fun _ => rfl
  obtain ⟨b, hb⟩ : ∃ b, b = entryBytes now e := ⟨_, rfl⟩
  have hparts := hb.trans (entryBytes_parts now e)
  have h3 : b.drop 3 = _ := congrArg (List.drop 3) hparts
  have h5 := drop_optPart h3 hage
  have h6 := drop_optPart h5 hsummary
  have h9 := drop_optPart h6 hoffer
  have h14 := drop_optPart h9 hclaim
  have h22 := drop_optPart h14 hmode
  have h25 := drop_optPart h22 hconfirm
  have hlength : b.length = 32 := by
    have h32 := drop_optPart h25 hanchor
    have hlen : b.length ≤ 3 + 2 + 1 + 3 + 5 + 8 + 3 + 7 := List.drop_eq_nil_iff.1 h32
    have hpos := congrArg List.length h25
    rw [List.length_drop, List.length_append, optPart_length hanchor, List.length_nil] at hpos
    omega
  rw [← hb]
  exact ⟨_, _, _, _, _, _, h3, h5, h6, h9, h14, h22, h25, hlength⟩

/-- Fields of a width each, one after another: each stands at its multiple of the width. -/
theorem flatMap_chunk {α : Type} {w : Nat} {f : α → List Byte} (hf : ∀ x, (f x).length = w) {l : List α} {i : Nat} {x : α}
    (h : l[i]? = some x) (r : List Byte) : ((l.flatMap f ++ r).drop (w * i)).take w = f x := by
  induction l generalizing i with
  | nil => cases h
  | cons y rest ih =>
    rw [List.flatMap_cons, List.append_assoc]
    cases i with
    | zero =>
      obtain rfl := Option.some.inj h
      exact List.take_left' (hf y)
    | succ i =>
      rw [Nat.mul_succ, Nat.add_comm, ← List.drop_drop, List.drop_left' (hf y)]
      exact ih h

theorem flatMap_chunk_length {α : Type} {w : Nat} {f : α → List Byte} (hf : ∀ x, (f x).length = w) (l : List α) :
    (l.flatMap f).length = w * l.length := by
  rw [List.length_flatMap, List.map_congr_left (fun x _ => hf x), List.map_const', List.sum_replicate]
  simp [Nat.mul_comm]

/-- The self entry stands among the peers. -/
theorem Roster.entries_length (r : Roster) : r.entries.length = r.peers.length + 1 := by
  have hsplit := List.length_eq_length_filter_add (l := r.peers) (fun e => decide (e.addr.toNat < r.self.addr.toNat))
  have hnot : (r.peers.filter (fun e => decide (¬e.addr.toNat < r.self.addr.toNat))).length =
      (r.peers.filter (fun e => !decide (e.addr.toNat < r.self.addr.toNat))).length := by simp only [decide_not]
  rw [Roster.entries, List.length_append, List.length_cons, hnot]
  omega

end Sys2Proof.Machine
end

section
/-! SUPPORT. The host's reads field by field (R42, R71, R110, R128, section 11.4). -/

namespace Sys2Proof.Machine

variable {s : State}

/-! ## ROSTER_READ (R42) -/

theorem optRoleCode_eq (r : Option Role) : (r = none → optRoleCode r = 0) ∧ ∀ x, r = some x → optRoleCode r = x.code := by
  cases r with
  | none => exact ⟨fun _ => rfl, nofun⟩
  | some r => exact ⟨nofun, fun x hx => by obtain rfl := Option.some.inj hx; rfl⟩

theorem periodCode_eq (b : Bool) : periodCode b = if b then 2 else 1 := by cases b <;> rfl

theorem byteAt_fourCodes (l : List Byte) (m : Byte) (r : List Byte) {j : Nat} (hj : j < 4) :
    byteAt (fourCodes l ++ ([m] ++ r)) j = byteAt l j := by
  rcases j with _ | _ | _ | _ | j
  · rfl
  · rfl
  · rfl
  · rfl
  · omega

/-- What one entry's 32 bytes say of it. -/
def EntryRead (now : Nat) (e : Entry) (x : List Byte) : Prop :=
  let present := byteAt x 2
  let absent (at_ count : Nat) : Prop := (x.drop at_).take count = List.replicate count 0
  x.length = 32 ∧ byteAt x 0 = BitVec.ofNat 8 e.addr.toNat ∧
  (e.role = none → byteAt x 1 = 0) ∧ (∀ r, e.role = some r → byteAt x 1 = r.code) ∧
  present.toNat < 128 ∧ present.getLsbD 0 = e.lastHeard.isSome ∧ present.getLsbD 1 = e.summary.isSome ∧
  present.getLsbD 2 = e.offer.isSome ∧ present.getLsbD 3 = e.claim.isSome ∧ present.getLsbD 4 = e.modeSet.isSome ∧
  present.getLsbD 5 = e.confirm.isSome ∧ present.getLsbD 6 = e.anchor.isSome ∧
  (e.lastHeard = none → absent 3 2) ∧ (∀ t0, e.lastHeard = some t0 → fieldAt x 3 2 = (now - t0) / 1000 % 65536) ∧
  (e.summary = none → absent 5 1) ∧ (∀ y, e.summary = some y → byteAt x 5 = y) ∧
  (e.offer = none → absent 6 3) ∧ (∀ o, e.offer = some o → fieldAt x 6 2 = o.current % 65536 ∧ byteAt x 8 = o.state) ∧
  (e.claim = none → absent 9 5) ∧ (∀ c, e.claim = some c → fieldAt x 9 2 = c.floor % 65536 ∧ fieldAt x 11 2 = c.want % 65536 ∧
    byteAt x 13 = BitVec.ofNat 8 c.cls) ∧
  (e.modeSet = none → absent 14 8) ∧
  (∀ m, e.modeSet = some m → fieldAt x 14 2 = m.round.toNat ∧ byteAt x 16 = BitVec.ofNat 8 m.grades.length ∧
    (∀ j, j < 4 → byteAt x (17 + j) = byteAt m.grades j) ∧ byteAt x 21 = m.ceiling) ∧
  (e.confirm = none → absent 22 3) ∧ (∀ c, e.confirm = some c → fieldAt x 22 2 = c.round.toNat ∧ byteAt x 24 = c.grade) ∧
  (e.anchor = none → absent 25 7) ∧
  (∀ a, e.anchor = some a → fieldAt x 25 6 = a.time % 2 ^ 48 ∧ byteAt x 31 = (if a.period120 then 2 else 1))

theorem entryBytes_read (now : Nat) (e : Entry) : EntryRead now e (entryBytes now e) := by
  obtain ⟨r3, r5, r6, r9, r14, r22, h3, h5, h6, h9, h14, h22, h25, hlength⟩ := entryBytes_offsets now e
  obtain ⟨x, hx⟩ : ∃ x, x = entryBytes now e := ⟨_, rfl⟩
  have haddr : byteAt x 0 = BitVec.ofNat 8 e.addr.toNat := by rw [hx, entryBytes_parts]; rfl
  have hrole : byteAt x 1 = optRoleCode e.role := by rw [hx, entryBytes_parts]; rfl
  have hpresent : byteAt x 2 = e.presence := by rw [hx, entryBytes_parts]; rfl
  obtain ⟨hp, hp0, hp1, hp2, hp3, hp4, hp5, hp6⟩ := presence_bits e.lastHeard.isSome e.summary.isSome e.offer.isSome e.claim.isSome
    e.modeSet.isSome e.confirm.isSome e.anchor.isSome
  rw [← hx] at h3 h5 h6 h9 h14 h22 h25 hlength ⊢
  unfold EntryRead
  dsimp only
  rw [hpresent, hrole]
  refine ⟨hlength, haddr, (optRoleCode_eq _).1, (optRoleCode_eq _).2, hp, hp0, hp1, hp2, hp3, hp4, hp5, hp6, take_absent h3,
    fun t0 ht => ?_, take_absent h5, fun y hy => ?_, take_absent h6, fun o ho => ?_, take_absent h9, fun c hc => ?_, take_absent h14,
    fun m hm => ?_, take_absent h22, fun c hc => ?_, take_absent h25, fun a ha => ?_⟩
  · have h := drop_present h3 ht
    rw [fieldAt_drop x 3 0, h, ageField, fieldAt_leBytes]
    rfl
  · have h := drop_present h5 hy
    rw [byteAt_drop x 5 0, h]; rfl
  · have h := drop_present h6 ho
    rw [fieldAt_drop x 6 0, byteAt_drop x 6 2, h, offerField, List.append_assoc, fieldAt_leBytes]
    exact ⟨rfl, rfl⟩
  · have h := drop_present h9 hc
    rw [fieldAt_drop x 9 0, fieldAt_drop x 9 2, byteAt_drop x 9 4, h, claimField, List.append_assoc, List.append_assoc, fieldAt_leBytes,
      fieldAt_skip2 _ _ 0, fieldAt_leBytes]
    exact ⟨rfl, rfl, rfl⟩
  · have h := drop_present h14 hm
    have hcodes : ∀ j, j < 4 → byteAt x (17 + j) = byteAt m.grades j := fun j hj => by
      have h17 : x.drop 17 = fourCodes m.grades ++ ([m.ceiling] ++ r14) := by
        rw [show 17 = 14 + 3 from rfl, ← List.drop_drop, h]; rfl
      rw [byteAt_drop x 17 j, h17, byteAt_fourCodes _ _ _ hj]
    rw [fieldAt_drop x 14 0, byteAt_drop x 14 2, byteAt_drop x 14 7, h, modeField, List.append_assoc, List.append_assoc,
      List.append_assoc, fieldAt_half]
    exact ⟨rfl, rfl, hcodes, rfl⟩
  · have h := drop_present h22 hc
    rw [fieldAt_drop x 22 0, byteAt_drop x 22 2, h, confirmField, List.append_assoc, fieldAt_half]
    exact ⟨rfl, rfl⟩
  · have h := drop_present h25 ha
    rw [fieldAt_drop x 25 0, byteAt_drop x 25 6, h, anchorField, List.append_assoc, fieldAt_leBytes, ← periodCode_eq]
    exact ⟨rfl, rfl⟩

/-- The whole reply: its head, then every entry in address order (R42). -/
theorem rosterFields_read (s : State) : s.rosterFields.length = 9 + 32 * (s.roster.peers.length + 1) ∧
    s.rosterFields.take 9 = [s.roster.join.code] ++ leBytes 6 s.clock.tether ++
      [BitVec.ofNat 8 s.clock.slew, BitVec.ofNat 8 (s.roster.peers.length + 1)] ∧
    ∀ i e, s.roster.entries[i]? = some e → EntryRead s.clock.now e ((s.rosterFields.drop (9 + 32 * i)).take 32) := by
  have hchunk : ∀ e, (entryBytes s.clock.now e).length = 32 := fun e => by
    obtain ⟨-, -, -, -, -, -, -, -, -, -, -, -, -, hlength⟩ := entryBytes_offsets s.clock.now e
    exact hlength
  obtain ⟨front, hfront⟩ : ∃ front, front = [s.roster.join.code] ++ leBytes 6 s.clock.tether ++
      [BitVec.ofNat 8 s.clock.slew, BitVec.ofNat 8 (s.roster.peers.length + 1)] := ⟨_, rfl⟩
  have hfields : s.rosterFields = front ++ (s.roster.entries.flatMap (entryBytes s.clock.now) ++ []) := by
    rw [State.rosterFields, Roster.entries_length, ← hfront, List.append_nil]
  have hlen : front.length = 9 := by rw [hfront]; rfl
  rw [hfields, ← hfront]
  refine ⟨?_, List.take_left' hlen, fun i e he => ?_⟩
  · rw [List.append_nil, List.length_append, hlen, flatMap_chunk_length hchunk, Roster.entries_length]
  · rw [← List.drop_drop, List.drop_left' hlen, flatMap_chunk hchunk he]
    exact entryBytes_read _ e

/-! ## ALLOWANCE_READ (R71) -/

/-- What follows a field of a width stands that much further on. -/
theorem drop_part {b p r : List Byte} {k w : Nat} (h : b.drop k = p ++ r) (hp : p.length = w) : b.drop (k + w) = r := by
  rw [← List.drop_drop, h]
  exact List.drop_left' hp

theorem allowancePresence_bits : ∀ a b c d : Bool,
    let p := byteOfBool a ||| (byteOfBool b <<< 1) ||| (byteOfBool c <<< 2) ||| (byteOfBool c <<< 3) ||| (byteOfBool d <<< 4)
    p.toNat < 32 ∧ p.getLsbD 0 = a ∧ p.getLsbD 1 = b ∧ p.getLsbD 2 = c ∧ p.getLsbD 3 = c ∧ p.getLsbD 4 = d := by decide

/-- Bit g − 1 stands for a grade of the set, and no bit above for any. -/
theorem modeSetBits_fold (l : List Grade) (w : Byte) (hw : w.toNat < 16) :
    (l.foldl (fun b g => b ||| BitVec.ofNat 8 (2 ^ (gradeNum g - 1))) w).toNat < 16 ∧
    ∀ g, (l.foldl (fun b g => b ||| BitVec.ofNat 8 (2 ^ (gradeNum g - 1))) w).getLsbD (gradeNum g - 1) =
      (w.getLsbD (gradeNum g - 1) || l.contains g) := by
  induction l generalizing w with
  | nil => exact ⟨hw, fun g => by simp⟩
  | cons x rest ih =>
    have hbit : (BitVec.ofNat 8 (2 ^ (gradeNum x - 1))).toNat < 16 ∧
        ∀ g, (BitVec.ofNat 8 (2 ^ (gradeNum x - 1))).getLsbD (gradeNum g - 1) = (g == x) := by
      cases x <;> exact ⟨by decide, fun g => by cases g <;> decide⟩
    have hor : (w ||| BitVec.ofNat 8 (2 ^ (gradeNum x - 1))).toNat < 16 := by
      rw [BitVec.toNat_or]; exact Nat.or_lt_two_pow (n := 4) hw hbit.1
    obtain ⟨hlt, hbits⟩ := ih _ hor
    refine ⟨hlt, fun g => (hbits g).trans ?_⟩
    rw [BitVec.getLsbD_or, hbit.2, List.contains_cons, Bool.or_assoc]

theorem modeSetBits_spec (l : List Grade) : (modeSetBits l).toNat < 16 ∧
    ∀ g, (modeSetBits l).getLsbD (gradeNum g - 1) = l.contains g := by
  obtain ⟨hlt, hbits⟩ := modeSetBits_fold l 0 (by decide)
  refine ⟨hlt, fun g => (hbits g).trans ?_⟩
  cases g <;> rfl

theorem grantBytes_eq (g : Grant) : grantBytes g =
    [BitVec.ofNat 8 g.addr.toNat, BitVec.ofNat 8 g.cls] ++ leBytes 2 g.allowance ++ [if g.parked then 1 else 0] := rfl

/-- Where each part of the reply stands. -/
theorem allowanceFields_offsets (s : State) : ∃ r1 r7 r10 r12,
    let b := s.allowanceFields
    let grants := (s.power.allowances.map AllowanceList.grants).getD []
    byteAt b 0 = s.allowancePresence ∧ b.drop 1 = allowanceTotals s.power.allowances ++ r1 ∧
    b.drop 7 = (if s.tetherPowered then leBytes 2 s.effectiveCap ++ [BitVec.ofNat 8 s.power.droop] else [0, 0, 0]) ++ r7 ∧
    b.drop 10 = (if s.onPath then [modeSetBits s.power.modeSet, gradeCode s.power.modeCeiling] else [0, 0]) ++ r10 ∧
    b.drop 12 = (if s.tetherPowered then levelBytes s.loads else [0, 0, 0, 0, 0, 0, 0, 0]) ++ r12 ∧
    byteAt b 20 = BitVec.ofNat 8 grants.length ∧
    b.drop 21 = grants.flatMap grantBytes ++
      (noticeBytes s.power.lastOverdraw ++ (noticeBytes s.power.lastTrip ++ noticeBytes s.power.lastCritical)) := by
  have htotals : (allowanceTotals s.power.allowances).length = 6 := by cases s.power.allowances <;> rfl
  have hcap : (if s.tetherPowered then leBytes 2 s.effectiveCap ++ [BitVec.ofNat 8 s.power.droop] else [0, 0, 0]).length = 3 := by
    split <;> rfl
  have hmode : (if s.onPath then [modeSetBits s.power.modeSet, gradeCode s.power.modeCeiling] else [0, 0]).length = 2 := by
    split <;> rfl
  have hlevels : (if s.tetherPowered then levelBytes s.loads else [0, 0, 0, 0, 0, 0, 0, 0]).length = 8 := by
    split <;> rfl
  have hgrants : allowanceGrants s.power.allowances = BitVec.ofNat 8 ((s.power.allowances.map AllowanceList.grants).getD []).length ::
      ((s.power.allowances.map AllowanceList.grants).getD []).flatMap grantBytes := by cases s.power.allowances <;> rfl
  obtain ⟨b, hb⟩ : ∃ b, b = s.allowanceFields := ⟨_, rfl⟩
  have hparts := hb
  unfold State.allowanceFields at hparts
  simp only [List.append_assoc, List.nil_append, hgrants, List.cons_append] at hparts
  have h0 : byteAt b 0 = s.allowancePresence := by rw [hparts]; rfl
  have h1 : b.drop 1 = _ := congrArg (List.drop 1) hparts
  rw [List.drop_succ_cons, List.drop_zero] at h1
  have h7 := drop_part h1 htotals
  have h10 := drop_part h7 hcap
  have h12 := drop_part h10 hmode
  have h20 := drop_part h12 hlevels
  have h21 := drop_part (p := [_]) h20 rfl
  rw [← hb]
  exact ⟨_, _, _, _, h0, h1, h7, h10, h12, by rw [byteAt_drop b 20 0, h20]; rfl, h21⟩

/-- What the reply of an ALLOWANCE_READ says of the node (R71). -/
theorem allowanceFields_read (s : State) :
    let b := s.allowanceFields
    let grants := (s.power.allowances.map AllowanceList.grants).getD []
    let presence := byteAt b 0
    let notice (r : NoticeRecord) : List Byte := [BitVec.ofNat 8 r.sender.toNat, r.detail]
    b.length = 27 + 5 * grants.length ∧ presence.toNat < 32 ∧ presence.getLsbD 0 = s.power.allowances.isSome ∧
    presence.getLsbD 2 = s.tetherPowered ∧ presence.getLsbD 3 = s.tetherPowered ∧ presence.getLsbD 4 = s.onPath ∧
    (s.power.allowances = none → presence.getLsbD 1 = false ∧ fieldAt b 1 6 = 0) ∧
    (∀ l, s.power.allowances = some l → presence.getLsbD 1 = l.short ∧ fieldAt b 1 2 = min l.total 65535 ∧
      fieldAt b 3 2 = min l.reserve 65535 ∧ fieldAt b 5 2 = min l.budget 65535) ∧
    (s.tetherPowered = true → fieldAt b 7 2 = s.effectiveCap % 65536 ∧ fieldAt b 9 1 = s.power.droop % 256 ∧
      (b.drop 12).take 8 = [s.loads.current.lane, s.loads.target.lane, s.loads.current.panel, s.loads.target.panel,
        s.loads.current.audio, s.loads.target.audio, s.loads.current.motion, s.loads.target.motion].map (BitVec.ofNat 8)) ∧
    (s.tetherPowered = false → fieldAt b 7 3 = 0 ∧ (b.drop 12).take 8 = List.replicate 8 0) ∧
    (byteAt b 10).toNat < 16 ∧
    (∀ g, (byteAt b 10).getLsbD (gradeNum g - 1) = (s.onPath && s.power.modeSet.contains g)) ∧
    byteAt b 11 = (if s.onPath then gradeCode s.power.modeCeiling else 0) ∧
    byteAt b 20 = BitVec.ofNat 8 grants.length ∧
    (∀ i g, grants[i]? = some g → (b.drop (21 + 5 * i)).take 5 =
      [BitVec.ofNat 8 g.addr.toNat, BitVec.ofNat 8 g.cls] ++ leBytes 2 g.allowance ++ [if g.parked then 1 else 0]) ∧
    b.drop (21 + 5 * grants.length) =
      notice s.power.lastOverdraw ++ notice s.power.lastTrip ++ notice s.power.lastCritical := by
  obtain ⟨r1, r7, r10, r12, h0, h1, h7, h10, h12, h20, h21⟩ := allowanceFields_offsets s
  obtain ⟨hp, hp0, hp1, hp2, hp3, hp4⟩ := allowancePresence_bits s.power.allowances.isSome
    (match s.power.allowances with | some l => l.short | none => false) s.tetherPowered s.onPath
  have hchunk : ∀ g : Grant, (grantBytes g).length = 5 := fun _ => rfl
  obtain ⟨hmode, hgrades⟩ := modeSetBits_spec s.power.modeSet
  have htail : s.allowanceFields.drop (21 + 5 * ((s.power.allowances.map AllowanceList.grants).getD []).length) =
      noticeBytes s.power.lastOverdraw ++ (noticeBytes s.power.lastTrip ++ noticeBytes s.power.lastCritical) :=
    drop_part h21 (flatMap_chunk_length hchunk _)
  dsimp only
  obtain ⟨b, hb⟩ : ∃ b, b = s.allowanceFields := ⟨_, rfl⟩
  rw [← hb] at h0 h1 h7 h10 h12 h20 h21 htail ⊢
  rw [h0]
  refine ⟨?_, hp, hp0, hp2, hp3, hp4, fun hnone => ⟨?_, ?_⟩, fun l hl => ⟨?_, ?_⟩, fun ht => ?_, fun ht => ?_, ?_, fun g => ?_, ?_, h20,
    fun i g hg => ?_, htail⟩
  · have hlen := congrArg List.length htail
    rw [List.length_drop] at hlen
    have hsix : (noticeBytes s.power.lastOverdraw ++ (noticeBytes s.power.lastTrip ++ noticeBytes s.power.lastCritical)).length = 6 := rfl
    omega
  · exact hp1.trans (by rw [hnone])
  · rw [fieldAt_drop b 1 0, h1, hnone]; rfl
  · exact hp1.trans (by rw [hl])
  · rw [fieldAt_drop b 1 0, fieldAt_drop b 1 2, fieldAt_drop b 1 4, h1, hl]
    have hmin : ∀ v, min v 65535 % 256 ^ 2 = min v 65535 := fun v => by omega
    simp only [allowanceTotals, reportedTotal, List.append_assoc, fieldAt_leBytes, fieldAt_skip2 _ _ 0, fieldAt_skip2 _ _ 2, hmin,
      and_self]
  · rw [fieldAt_drop b 7 0, fieldAt_drop b 7 2, h7, if_pos ht, List.append_assoc, fieldAt_leBytes, fieldAt_skip2 _ _ 0]
    refine ⟨rfl, ?_, ?_⟩
    · exact fieldAt_leBytes 1 s.power.droop r7
    · rw [h12, if_pos ht]; rfl
  · rw [fieldAt_drop b 7 0, h7, h12, if_neg (by rw [ht]; decide), if_neg (by rw [ht]; decide)]
    exact ⟨rfl, rfl⟩
  · rw [byteAt_drop b 10 0, h10]
    cases s.onPath
    · exact (by decide : (0 : Byte).toNat < 16)
    · exact hmode
  · rw [byteAt_drop b 10 0, h10]
    cases s.onPath
    · exact BitVec.getLsbD_zero
    · exact (hgrades g).trans (Bool.true_and _).symm
  · rw [byteAt_drop b 10 1, h10]
    cases s.onPath <;> rfl
  · rw [← List.drop_drop, h21, flatMap_chunk hchunk hg, grantBytes_eq]

/-! ## LANE_READ (R110) -/

/-- Whole ms left, rounded up or down (log entry 5). -/
theorem baseForcedLeft_bounds (t0 now : Nat) : 1000 * baseForcedLeft (some t0) now < t0 + 10000000 - now + 1000 ∧
    t0 + 10000000 - now < 1000 * baseForcedLeft (some t0) now + 1000 := by
  unfold baseForcedLeft baseForcedTime
  dsimp only
  split <;> omega

/-! ## The conditions a read leaves set (R179) -/

/-- The conditions of section 10.4's table, as one list of the flags that have one. -/
def State.stays (s : State) (f : Flag) : Bool := match f with
  | .strapFault | .addressClash | .roleClash => decide (s.roster.join = .listenOnly)
  | .droopLow => s.power.lastLow
  | .droopCrit => s.power.critActive
  | .supplyShort => (s.power.allowances.map AllowanceList.short).getD false
  | .supplyLost => s.power.lostActive
  | .overdraw => decide (3 ≤ s.power.overrun)
  | .tripped => decide ((s.role = .source ∧ (s.power.trip ≠ .none ∨ s.power.supplier = some .railLatched)) ∨
      s.power.supplier = some .tripHold)
  | .railLatched => decide (s.power.supplier = some .railLatched) || (match s.power.trip with | .pending _ latch => latch | _ => false)
  | .baseForced => s.agree.baseForcedFrom.isSome
  | .sensorStall => s.motionHeadset.stalled
  | .motionRange => (s.motionHeadset.lastRecord.map (fun r => r.1.range)).getD false
  | .motionOverrun => decide (s.motionSource.queue.length = 64)
  | .audioUnderrun => s.audioHeadset.underrun
  | .remoteDone => decide (s.remote.state = .done ∨ s.remote.state = .timeout ∨ s.remote.state = .giveUp)
  | _ => false

theorem State.persists_eq (s : State) (f : Flag) : s.persists f = s.stays f := by
  cases f
  case supplyShort => simp only [State.persists, State.stays]; cases s.power.allowances <;> rfl
  case motionRange => simp only [State.persists, State.stays]; cases s.motionHeadset.lastRecord <;> rfl
  case tripped =>
    rw [Bool.eq_iff_iff]
    simp only [State.persists, State.stays, Power.tripInProgress, Bool.or_eq_true, Bool.and_eq_true, decide_eq_true_eq, atSource_iff]
  case remoteDone =>
    rw [Bool.eq_iff_iff]
    simp only [State.persists, State.stays, Bool.or_eq_true, decide_eq_true_eq, or_assoc]
  all_goals rfl

end Sys2Proof.Machine
end

section
/-! SUPPORT. The host's requests are read from their frames, answered in their layouts and taken once a selection (chapter 10). -/

namespace Sys2Proof.Machine

variable {s : State}

/-- The state with a host reply formed and the selection's request taken. -/
def State.replied (s : State) (b : List Byte) : State := { s with host := { s.host with reply := b, taken := true } }

section replies

variable (hp : s.powered = true) (ht : s.host.taken = false)
include hp ht

/-- A request answered with fields alone leaves the rest of the state. -/
theorem onRequest_fields (st : Status) (fields : State → List Byte) :
    onRequest s (fun s => s.withReply st (fields s)) = .next (s.replied (st.code :: fields s)) := by
  rw [onRequest_next _ hp ht]
  rfl

theorem exec_rosterRead : exec .rosterRead s = .next (s.replied (0 :: s.rosterFields)) :=
  onRequest_fields hp ht .ok State.rosterFields

theorem exec_allowanceRead : exec .allowanceRead s = .next (s.replied (0 :: s.allowanceFields)) :=
  onRequest_fields hp ht .ok State.allowanceFields

theorem exec_laneRead : exec .laneRead s = .next (s.replied (0 :: s.laneFields)) :=
  onRequest_fields hp ht .ok State.laneFields

theorem exec_framesRead_source (hr : s.role = .source) :
    exec .framesRead s = .next (s.replied (0 :: BitVec.ofNat 8 s.sliceSource.frames.length ::
      s.sliceSource.frames.flatMap (fun r => leBytes 2 r.frame.toNat ++ leBytes 6 r.time ++ [r.repeated]))) := by
  rw [show exec .framesRead s = execFramesRead s from rfl, execFramesRead, onRequest_next _ hp ht]
  simp only [hr, if_true]
  rfl

theorem exec_framesRead_other (hr : s.role ≠ .source) : exec .framesRead s = .next (s.replied [0, 0]) := by
  rw [show exec .framesRead s = execFramesRead s from rfl, execFramesRead, onRequest_next _ hp ht]
  simp only [hr, if_false]
  rfl

theorem exec_unknownRequest {code : Byte} (hcode : code.toNat = 0 ∨ 12 < code.toNat) :
    exec (.unknownRequest code) s = .next (s.replied [5]) :=
  (if_pos hcode).trans (onRequest_fields hp ht .unknown (fun _ => []))

end replies

theorem halfAt_pair (low high : Byte) (before more : List Byte) :
    halfAt (before ++ low :: high :: more) before.length = BitVec.ofNat 16 (low.toNat + 256 * high.toNat) := by
  rw [halfAt, fieldAt, List.drop_left' rfl]
  rfl

theorem requestOf_itemWrite (a b c : Byte) (more : List Byte) :
    requestOf 2 (a :: b :: c :: more) = .itemWrite a (BitVec.ofNat 16 (b.toNat + 256 * c.toNat)) :=
  congrArg (Instr.itemWrite a) (halfAt_pair b c [a] more)

theorem requestOf_remoteStart (a b c d e : Byte) (more : List Byte) :
    requestOf 10 (a :: b :: c :: d :: e :: more) = .remoteStart a b c (BitVec.ofNat 16 (d.toNat + 256 * e.toNat)) :=
  congrArg (Instr.remoteStart a b c) (halfAt_pair d e [a, b, c] more)

/-- Settles O60: frames by `readRequest_whole`, flags bit by bit, and each reply by the field lemmas of its layout. -/
theorem hostRequestsAreAnswered : Obligations.HostRequestsAreAnswered := by
  unfold Obligations.HostRequestsAreAnswered
  refine ⟨fun a b c d e more => ?_, fun s hp => ?_⟩
  · dsimp only
    refine ⟨readRequest_whole (args := [a]) more rfl rfl rfl rfl,
      readRequest_whole (args := [a, b, c]) more rfl (requestOf_itemWrite a b c more) rfl rfl,
      readRequest_whole (args := []) more rfl rfl rfl rfl, readRequest_whole (args := [a]) more rfl rfl rfl rfl,
      readRequest_whole (args := []) more rfl rfl rfl rfl, readRequest_whole (args := []) more rfl rfl rfl rfl,
      readRequest_whole (args := []) more rfl rfl rfl rfl, readRequest_whole (args := [a]) more rfl rfl rfl rfl,
      readRequest_whole (args := []) more rfl rfl rfl rfl,
      readRequest_whole (args := [a, b, c, d, e]) more rfl (requestOf_remoteStart a b c d e more) rfl rfl,
      readRequest_whole (args := []) more rfl rfl rfl rfl, readRequest_whole (args := []) more rfl rfl rfl rfl,
      fun ha => readRequest_whole (args := []) more (requestLength_unknown ha) (requestOf_unknown ha _) (decide_eq_true ha) rfl⟩
  · dsimp only
    have hrelease : ∀ n : Clocking, exec (.hostDeselect n) s = .next { s with host := { s.host with
        clocked := s.host.clockedOut n, reply := [], taken := false, cut := none } } := fun n => exec_hostDeselect n s
    refine ⟨State.attn_iff hp, fun ht c hc hw => exec_hostRequest_taken hc hw ht, fun n => ?_, fun ht =>
      ⟨⟨s.flagWord, s.host.sticky &&& s.keptFlags, fun f => State.flagWord_getLsbD f, fun f => ?_, exec_statusRead hp ht⟩,
        fun g hg => exec_counterRead_bad hp ht hg, fun g hg => exec_counterRead hp ht hg,
        ⟨s.rosterFields, exec_rosterRead hp ht, rosterFields_read s⟩, ⟨s.allowanceFields, exec_allowanceRead hp ht, allowanceFields_read s⟩,
        ⟨baseForcedLeft s.agree.baseForcedFrom s.clock.now, fun h => ?_, fun t0 h => ?_, exec_laneRead hp ht⟩,
        exec_framesRead_source hp ht, exec_framesRead_other hp ht, fun code hcode => exec_unknownRequest hp ht hcode⟩⟩
    · refine (hrelease n).trans ?_
      cases hcut : s.host.cut <;> simp only [clockedOut_eq, hcut]
    · have hkept : (s.host.sticky &&& s.keptFlags).getLsbD f.number = (s.sticky f && s.stays f) := by
        rw [BitVec.getLsbD_and, State.keptFlags_getLsbD, State.persists_eq]; rfl
      refine hkept.trans ?_
      cases f <;> rfl
    · rw [h]; rfl
    · rw [h]; exact baseForcedLeft_bounds t0 s.clock.now

end Sys2Proof.Machine
end

section
/-! SUPPORT. The allowance computation over a roster (R55, R59 to R62): its totals, the parking, the shares. Settles O31 and O32. -/

namespace Sys2Proof.Machine

/-! ## Totals (R59) -/

/-- The entries that hold no offer add nothing. -/
theorem totalOffer_eq (r : Roster) : totalOffer r = (r.entries.filterMap (fun e => e.offer.map Offer.current)).sum := by
  rw [totalOffer]
  induction r.entries with
  | nil => rfl
  | cons e l ih => cases he : e.offer <;> simp [he, ih]

/-- Values of at most 1,500 but for a few of at most 3,000. -/
theorem sum_le_of_offers {l : List Nat} (h : ∀ x ∈ l, x ≤ 3000) :
    l.sum ≤ 1500 * l.length + 1500 * (l.filter (fun x => decide (1500 < x))).length := by
  induction l with
  | nil => exact Nat.le_refl 0
  | cons x l ih =>
    obtain ⟨hx, hl⟩ := List.forall_mem_cons.1 h
    have ih := ih hl
    by_cases hbig : 1500 < x <;> simp [hbig] <;> omega

theorem computeAllowances_totals (r : Roster) : (computeAllowances r).total = totalOffer r ∧
    (computeAllowances r).reserve = reserveOf (totalOffer r) ∧
    (computeAllowances r).budget = totalOffer r - reserveOf (totalOffer r) := by
  unfold computeAllowances
  dsimp only
  split <;> exact ⟨rfl, rfl, rfl⟩

/-- Settles O31. -/
theorem totalsAreFormed : Obligations.TotalsAreFormed := by
  intro r
  obtain ⟨htotal, hreserve, hbudget⟩ := computeAllowances_totals r
  dsimp only
  rw [htotal, hreserve, hbudget, reserveOf]
  refine ⟨rfl, by omega, by omega, rfl, by omega, fun hcount hall hbig => ?_⟩
  have hsum := sum_le_of_offers hall
  rw [← totalOffer_eq] at hsum
  omega

/-! ## Parking (R61) -/

/-- The claimants named by their addresses, as the computation parks them. -/
def outOf (order : List Claimant) (n : Nat) (c : Claimant) : Bool := ((order.take n).map Claimant.addr).contains c.addr

theorem committedSum_congr {p q : List Addr} (h : ∀ a, a ∈ p ↔ a ∈ q) (cs : List Claimant) : committedSum p cs = committedSum q cs := by
  simp only [committedSum, h]

/-- The addresses parked are those of a first part of the order, the shortest with which the committed sum fits, or of all of it. -/
theorem parkUntilFits_spec (cs : List Claimant) (budget : Nat) (order : List Claimant) (parked : List Addr) :
    ∃ n, n ≤ order.length ∧
      (∀ a, a ∈ parkUntilFits cs budget order parked ↔ a ∈ parked ∨ a ∈ (order.take n).map Claimant.addr) ∧
      (∀ m, m < n → ∀ q : List Addr, (∀ a, a ∈ q ↔ a ∈ parked ∨ a ∈ (order.take m).map Claimant.addr) → budget < committedSum q cs) ∧
      (committedSum (parkUntilFits cs budget order parked) cs ≤ budget ∨ n = order.length) := by
  induction order generalizing parked with
  | nil => exact ⟨0, Nat.le_refl 0, by simp [parkUntilFits], fun m hm => absurd hm (Nat.not_lt_zero m), .inr rfl⟩
  | cons c rest ih =>
    by_cases hfits : committedSum parked cs ≤ budget
    · rw [parkUntilFits, if_pos hfits]
      exact ⟨0, Nat.zero_le _, by simp, fun m hm => absurd hm (Nat.not_lt_zero m), .inl hfits⟩
    · rw [parkUntilFits, if_neg hfits]
      obtain ⟨n, hn, hmem, hless, hends⟩ := ih (c.addr :: parked)
      refine ⟨n + 1, Nat.succ_le_succ hn, fun a => ?_, fun m hm q hq => ?_, hends.imp id (congrArg (· + 1))⟩
      · rw [hmem, List.take_succ_cons, List.map_cons, List.mem_cons, List.mem_cons]
        tauto
      · cases m with
        | zero => rw [committedSum_congr (q := parked) (fun a => by rw [hq]; simp)]; omega
        | succ m =>
          refine hless m (by omega) q (fun a => ?_)
          rw [hq, List.take_succ_cons, List.map_cons, List.mem_cons, List.mem_cons]
          tauto

/-- Every claimant of a class that is read stands in parking order. -/
theorem mem_parkingOrder {cs : List Claimant} (hcls : ∀ c ∈ cs, c.cls ≤ 2) {c : Claimant} (hc : c ∈ cs) : c ∈ parkingOrder cs := by
  have hle := hcls c hc
  simp only [parkingOrder, List.mem_append, List.mem_reverse, List.mem_filter, beq_iff_eq]
  obtain h | h | h : c.cls = 2 ∨ c.cls = 1 ∨ c.cls = 0 := by omega
  · exact .inl (.inl ⟨hc, h⟩)
  · exact .inl (.inr ⟨hc, h⟩)
  · exact .inr ⟨hc, h⟩

theorem parkingOrder_eq (cs : List Claimant) :
    [2, 1, 0].flatMap (fun k => (cs.filter (fun c => c.cls == k)).reverse) = parkingOrder cs := by
  simp [parkingOrder]

/-- With every claimant parked the committed sum is 15 mA each. -/
theorem committedSum_all {parked : List Addr} {cs : List Claimant} (h : ∀ c ∈ cs, c.addr ∈ parked) :
    committedSum parked cs = cs.length * standby := by
  rw [committedSum, List.map_congr_left (g := fun _ => standby) (fun c hc => if_pos (h c hc)), List.map_const', List.sum_replicate,
    smul_eq_mul]

/-- Not supply short: the parked are a shortest first part of the parking order, and what is committed fits (R60, R61). -/
theorem parkUntilFits_fits {cs : List Claimant} {budget : Nat} (hcls : ∀ c ∈ cs, c.cls ≤ 2) (hshort : cs.length * standby ≤ budget) :
    let order := parkingOrder cs
    let parked := parkUntilFits cs budget order []
    ∃ n, n ≤ order.length ∧ (∀ c, parked.contains c.addr = outOf order n c) ∧ committedSum parked cs ≤ budget ∧
      ∀ m, m < n → budget < (cs.map (fun c => if outOf order m c then 15 else c.floor)).sum := by
  intro order parked
  obtain ⟨n, hn, hmem, hless, hends⟩ := parkUntilFits_spec cs budget order []
  have hmem' : ∀ a, a ∈ parked ↔ a ∈ (order.take n).map Claimant.addr := fun a => by simp [parked, hmem]
  refine ⟨n, hn, fun c => ?_, ?_, fun m hm => ?_⟩
  · rw [outOf, Bool.eq_iff_iff, List.contains_iff_mem, List.contains_iff_mem, hmem']
  · rcases hends with h | h
    · exact h
    · rw [committedSum_all fun c hc => ?_]
      · exact hshort
      · rw [hmem', h, List.take_length]
        exact List.mem_map_of_mem (mem_parkingOrder hcls hc)
  · have hbig := hless m hm ((order.take m).map Claimant.addr) (by simp)
    simpa only [committedSum, outOf, List.contains_iff_mem, standby] using hbig

/-! ## Shares (R62) -/

theorem shareOf_eq {surplus demand : Nat} {c : Claimant} (hwant : c.floor ≤ c.want) (hdemand : c.want - c.floor ≤ demand) :
    shareOf surplus demand c =
      if demand ≤ surplus then c.want else c.floor + surplus * (c.want - c.floor) / demand := by
  unfold shareOf
  split
  · rw [if_pos (by omega)]; omega
  · rfl

theorem shareOf_bounds {surplus demand : Nat} {c : Claimant} (hwant : c.floor ≤ c.want) (hdemand : c.want - c.floor ≤ demand) :
    c.floor ≤ shareOf surplus demand c ∧ shareOf surplus demand c ≤ c.want := by
  rw [shareOf_eq hwant hdemand]
  split
  · exact ⟨hwant, Nat.le_refl _⟩
  · next h =>
    have hle : surplus * (c.want - c.floor) / demand ≤ c.want - c.floor :=
      Nat.div_le_of_le_mul (Nat.mul_le_mul_right _ (by omega))
    exact ⟨Nat.le_add_right _ _, (Nat.add_le_add_left hle _).trans_eq (Nat.add_sub_of_le hwant)⟩

/-- Shares rounded down add up to no more than the surplus. -/
theorem sum_shares_le (surplus demand : Nat) (l : List Claimant) (hdemand : (l.map (fun c => c.want - c.floor)).sum ≤ demand) :
    (l.map (fun c => surplus * (c.want - c.floor) / demand)).sum ≤ surplus := by
  have hadd : ∀ l : List Claimant, demand * (l.map (fun c => surplus * (c.want - c.floor) / demand)).sum ≤
      surplus * (l.map (fun c => c.want - c.floor)).sum := by
    intro l
    induction l with
    | nil => exact Nat.le_refl 0
    | cons c l ih =>
      rw [List.map_cons, List.sum_cons, List.map_cons, List.sum_cons, Nat.mul_add, Nat.mul_add]
      exact Nat.add_le_add (Nat.mul_div_le _ _) ih
  rcases Nat.eq_zero_or_pos demand with rfl | hpos
  · simp
  · refine Nat.le_of_mul_le_mul_left ((hadd l).trans ?_) hpos
    rw [Nat.mul_comm demand]
    exact Nat.mul_le_mul_left _ hdemand

/-- The unparked claimants of a class. -/
def unparked (parked : List Addr) (cs : List Claimant) (k : Nat) : List Claimant :=
  cs.filter (fun c => c.cls == k && !(parked.contains c.addr))

/-- What is left of the surplus for a class after the classes before it. -/
def surplusFor (parked : List Addr) (cs : List Claimant) (budget k : Nat) : Nat :=
  budget - committedSum parked cs - (if 0 < k then classDemand 0 parked cs else 0) - (if 1 < k then classDemand 1 parked cs else 0)

/-- The allowance of an unparked claimant. -/
def grantedTo (parked : List Addr) (cs : List Claimant) (budget : Nat) (c : Claimant) : Nat :=
  shareOf (surplusFor parked cs budget c.cls) (classDemand c.cls parked cs) c

theorem surplusAfter_eq (surplus demand : Nat) : surplusAfter surplus demand = surplus - demand := by
  unfold surplusAfter; split <;> omega

theorem grantsFor_eq {cs : List Claimant} (hcls : ∀ c ∈ cs, c.cls ≤ 2) (budget : Nat) :
    let parked := parkUntilFits cs budget (parkingOrder cs) []
    grantsFor cs budget = cs.map (fun c =>
      if parked.contains c.addr then ⟨c.addr, c.cls, standby, true⟩ else ⟨c.addr, c.cls, grantedTo parked cs budget c, false⟩) := by
  refine List.map_congr_left fun c hc => ?_
  have hclass : c.cls = 0 ∨ c.cls = 1 ∨ c.cls = 2 := by have := hcls c hc; omega
  rcases hclass with h | h | h <;> simp [grantedTo, surplusFor, h, surplusAfter_eq]

/-- A claimant's want above its floor is part of its class's demand. -/
theorem le_classDemand {parked : List Addr} {cs : List Claimant} {c : Claimant} (hc : c ∈ cs)
    (hout : parked.contains c.addr = false) : c.want - c.floor ≤ classDemand c.cls parked cs := by
  refine List.single_le_sum (fun _ _ => Nat.zero_le _) _ (List.mem_map_of_mem (List.mem_filter.2 ⟨hc, ?_⟩))
  rw [hout, beq_self_eq_true]
  rfl

/-- What is given of a surplus above the floors is what the class takes of it. -/
theorem sum_given_le (parked : List Addr) (cs : List Claimant) (k surplus : Nat) (hwant : ∀ c ∈ cs, c.floor ≤ c.want) :
    ((unparked parked cs k).map (fun c => shareOf surplus (classDemand k parked cs) c - c.floor)).sum ≤
      min surplus (classDemand k parked cs) := by
  have hshare : ∀ c ∈ unparked parked cs k, shareOf surplus (classDemand k parked cs) c - c.floor =
      if classDemand k parked cs ≤ surplus then c.want - c.floor else surplus * (c.want - c.floor) / classDemand k parked cs := by
    intro c hc
    obtain ⟨hmem, hk⟩ := List.mem_filter.1 hc
    rw [Bool.and_eq_true, beq_iff_eq, Bool.not_eq_true'] at hk
    rw [shareOf_eq (hwant c hmem) (hk.1 ▸ le_classDemand hmem hk.2)]
    split
    · rfl
    · exact Nat.add_sub_cancel_left _ _
  rw [List.map_congr_left hshare]
  by_cases h : classDemand k parked cs ≤ surplus
  · simp only [if_pos h]
    exact le_min h (Nat.le_refl _)
  · simp only [if_neg h]
    rw [min_eq_left (by omega)]
    exact sum_shares_le _ _ _ (Nat.le_refl _)

/-- The allowances are what is committed and what is given above the floors, class by class. -/
theorem sum_by_class {parked : List Addr} {f : Claimant → Nat} {cs : List Claimant} (hcls : ∀ c ∈ cs, c.cls ≤ 2)
    (hfloor : ∀ c ∈ cs, parked.contains c.addr = false → c.floor ≤ f c) :
    (cs.map (fun c => if parked.contains c.addr then standby else f c)).sum = committedSum parked cs +
      ((unparked parked cs 0).map (fun c => f c - c.floor)).sum + ((unparked parked cs 1).map (fun c => f c - c.floor)).sum +
      ((unparked parked cs 2).map (fun c => f c - c.floor)).sum := by
  induction cs with
  | nil => rfl
  | cons c cs ih =>
    obtain ⟨hc, hcs⟩ := List.forall_mem_cons.1 hcls
    obtain ⟨hf, hfs⟩ := List.forall_mem_cons.1 hfloor
    have ih := ih hcs hfs
    simp only [committedSum, unparked] at ih
    cases hout : parked.contains c.addr with
    | true =>
      have hmem : c.addr ∈ parked := List.contains_iff_mem.1 hout
      simp only [committedSum, unparked, List.map_cons, List.sum_cons, List.filter_cons, hout, if_pos hmem, ih]
      simp
      omega
    | false =>
      have hmem : c.addr ∉ parked := fun h => by rw [List.contains_iff_mem.2 h] at hout; cases hout
      have hf := hf hout
      have hclass : c.cls = 0 ∨ c.cls = 1 ∨ c.cls = 2 := by omega
      simp only [committedSum, unparked, List.map_cons, List.sum_cons, List.filter_cons, hout, if_neg hmem, ih]
      rcases hclass with h | h | h <;> simp [h] <;> omega

/-- The sum stays within the budget (R62). -/
theorem sum_granted_le {parked : List Addr} {cs : List Claimant} {budget : Nat} (hcls : ∀ c ∈ cs, c.cls ≤ 2)
    (hwant : ∀ c ∈ cs, c.floor ≤ c.want) (hfits : committedSum parked cs ≤ budget) :
    (cs.map (fun c => if parked.contains c.addr then standby else grantedTo parked cs budget c)).sum ≤ budget := by
  rw [sum_by_class (f := grantedTo parked cs budget) hcls
    fun c hc hout => (shareOf_bounds (hwant c hc) (le_classDemand hc hout)).1]
  have hgiven : ∀ k, ((unparked parked cs k).map (fun c => grantedTo parked cs budget c - c.floor)).sum ≤
      min (surplusFor parked cs budget k) (classDemand k parked cs) := fun k => by
    refine le_of_eq_of_le (congrArg List.sum (List.map_congr_left fun c hc => ?_)) (sum_given_le parked cs k _ hwant)
    have hk := (List.mem_filter.1 hc).2
    rw [Bool.and_eq_true, beq_iff_eq] at hk
    rw [grantedTo, hk.1]
  have h0 := hgiven 0
  have h1 := hgiven 1
  have h2 := hgiven 2
  simp only [surplusFor, Nat.lt_irrefl, Nat.zero_lt_one, Nat.zero_lt_two, Nat.one_lt_two, Nat.not_lt_zero, if_true, if_false,
    Nat.sub_zero] at h0 h1 h2
  omega

/-! ## The statement -/

theorem claimantsOf_read (r : Roster) : ∀ c ∈ claimantsOf r, c.cls ≤ 2 ∧ c.floor ≤ c.want := by
  intro c hc
  rw [claimantsOf_eq, List.mem_filterMap] at hc
  obtain ⟨e, -, he⟩ := hc
  obtain ⟨x, -, rfl⟩ := Option.map_eq_some_iff.1 he
  exact ⟨Nat.min_le_right _ _, Nat.le_max_right _ _⟩

theorem computeAllowances_grants (r : Roster) :
    let l := computeAllowances r
    let cs := claimantsOf r
    (l.short = true ↔ l.budget < 15 * cs.length) ∧ (l.short = true → l.grants = shortGrants cs) ∧
      (l.short = false → l.grants = grantsFor cs l.budget) := by
  unfold computeAllowances
  dsimp only
  rw [Nat.mul_comm 15, show standby = 15 from rfl]
  split
  · next h => exact ⟨iff_of_true rfl h, fun _ => rfl, nofun⟩
  · next h => exact ⟨iff_of_false nofun h, nofun, fun _ => rfl⟩

/-- A list put together entry by entry, beside the list it was made of. -/
theorem mem_zip_map {α β : Type} {f : α → β} {l : List α} {p : β × α} (h : p ∈ (l.map f).zip l) : p.2 ∈ l ∧ p.1 = f p.2 := by
  induction l with
  | nil => exact absurd h List.not_mem_nil
  | cons x l ih =>
    rcases List.mem_cons.1 h with rfl | h
    · exact ⟨List.mem_cons_self, rfl⟩
    · obtain ⟨hmem, heq⟩ := ih h
      exact ⟨List.mem_cons_of_mem _ hmem, heq⟩

/-- Settles O32. -/
theorem allowancesFitTheBudget : Obligations.AllowancesFitTheBudget := by
  intro r
  obtain ⟨hshort, hparked, hgrants⟩ := computeAllowances_grants r
  have hread := claimantsOf_read r
  dsimp only
  rw [← claimantsOf_eq, parkingOrder_eq]
  generalize claimantsOf r = cs at *
  generalize computeAllowances r = l at *
  have hcls : ∀ c ∈ cs, c.cls ≤ 2 := fun c hc => (hread c hc).1
  have hwant : ∀ c ∈ cs, c.floor ≤ c.want := fun c hc => (hread c hc).2
  refine ⟨?_, hshort, fun hs g hg => ?_, fun hs => ?_⟩
  · cases hs : l.short with
    | true => rw [hparked hs, shortGrants, List.map_map]; rfl
    | false =>
      rw [hgrants hs, grantsFor_eq hcls, List.map_map]
      refine List.map_congr_left fun c _ => ?_
      dsimp only [Function.comp]
      split <;> rfl
  · rw [hparked hs, shortGrants, List.mem_map] at hg
    obtain ⟨c, -, rfl⟩ := hg
    exact ⟨rfl, rfl⟩
  · have hbudget : cs.length * standby ≤ l.budget := by
      rw [Nat.mul_comm]
      exact Nat.not_lt.1 fun h => by rw [hshort.2 h] at hs; cases hs
    obtain ⟨n, hn, hout, hfits, hleast⟩ := parkUntilFits_fits hcls hbudget
    rw [hgrants hs, grantsFor_eq hcls]
    generalize parkUntilFits cs l.budget (parkingOrder cs) [] = parked at *
    have hcommitted : committedSum parked cs = (cs.map (fun c => if outOf (parkingOrder cs) n c then 15 else c.floor)).sum := by
      simp only [committedSum, ← hout, List.contains_iff_mem, standby]
    have hdemand : ∀ k, classDemand k parked cs =
        ((cs.filter (fun c => c.cls == k && !outOf (parkingOrder cs) n c)).map (fun c => c.want - c.floor)).sum := fun k => by
      simp only [classDemand, hout]
    refine ⟨?_, n, hn, hcommitted ▸ hfits, hleast, fun p hp => ?_⟩
    · rw [List.map_map]
      refine le_of_eq_of_le (congrArg List.sum (List.map_congr_left fun c _ => ?_)) (sum_granted_le hcls hwant hfits)
      exact apply_ite Grant.allowance _ _ _
    · obtain ⟨hmem, hgrant⟩ := mem_zip_map hp
      have hp' : parked.contains p.2.addr = outOf (parkingOrder cs) n p.2 := hout p.2
      rw [hgrant]
      cases hc : parked.contains p.2.addr with
      | true => exact ⟨hc.symm.trans hp', fun _ => rfl, nofun⟩
      | false =>
        have hle := le_classDemand hmem hc
        have hshare := shareOf_eq (surplus := surplusFor parked cs l.budget p.2.cls) (hwant p.2 hmem) hle
        refine ⟨hc.symm.trans hp', nofun, fun _ => ⟨?_, shareOf_bounds (hwant p.2 hmem) hle⟩⟩
        simp only [surplusFor, hdemand, hcommitted] at hshare
        simp only [grantedTo, surplusFor, hdemand, hcommitted]
        exact hshare

end Sys2Proof.Machine
end

section
/-! SUPPORT. The costs of R72 and R73 by level, the claim of each role (R54) and the effective cap (R65). Settles O33. -/

namespace Sys2Proof.Machine

variable {s : State}

/-! ## Costs by level (R72, R73) -/

theorem laneCost_relay (g : Grade) : laneCost .relay (gradeNum g) = [0, 60, 85, 110, 135].getD (gradeNum g) 0 := by cases g <;> rfl

theorem laneCost_headset (g : Grade) : laneCost .headset (gradeNum g) = [0, 80, 110, 140, 170].getD (gradeNum g) 0 := by cases g <;> rfl

theorem panelCost_eq {v : Nat} (h : v ≤ 4) : panelCost v = [0, 250, 400, 550, 700].getD v 0 := by
  interval_cases v <;> rfl

theorem audioCost_eq {v : Nat} (h : v ≤ 3) : audioCost v = [0, 20, 45, 90].getD v 0 := by
  interval_cases v <;> rfl

theorem motionCost_eq {v : Nat} (h : v ≤ 3) : motionCost v = [0, 4, 6, 9].getD v 0 := by
  interval_cases v <;> rfl

theorem totalCost_relay (l : Levels) : totalCost .relay l = 40 + laneCost .relay l.lane := rfl

theorem totalCost_headset (l : Levels) : totalCost .headset l =
    120 + laneCost .headset l.lane + panelCost l.panel + audioCost l.audio + motionCost l.motion := rfl

/-! ## Claims (R54) -/

theorem State.ownClaim_relay (h : s.role = .relay) : s.ownClaim =
    some ⟨100, 40 + [0, 60, 85, 110, 135].getD (gradeNum s.effectiveCeiling) 0, 0⟩ := by
  simp only [State.ownClaim, h, totalCost_relay, State.wantedLevels, reduceCtorEq, if_false, laneCost_relay]
  rfl

theorem State.ownClaim_headset (h : s.role = .headset) (hpanel : s.item itemPanelWant ≤ 4) (haudio : s.item itemAudioWant ≤ 3)
    (hmotion : s.item itemMotionWant ≤ 3) : s.ownClaim =
    some ⟨456, 120 + [0, 80, 110, 140, 170].getD (gradeNum s.effectiveCeiling) 0 + [0, 250, 400, 550, 700].getD (s.item itemPanelWant) 0 +
      [0, 20, 45, 90].getD (s.item itemAudioWant) 0 + [0, 4, 6, 9].getD (s.item itemMotionWant) 0, 1⟩ := by
  simp only [State.ownClaim, h, totalCost_headset, State.wantedLevels, if_true, laneCost_headset, panelCost_eq hpanel, audioCost_eq haudio,
    motionCost_eq hmotion]
  rfl

/-! ## The effective cap (R65) -/

theorem State.tetherPowered_iff : s.tetherPowered = true ↔ s.role = .relay ∨ s.role = .headset := by
  rw [State.tetherPowered]
  cases s.role <;> decide

theorem floorCost_eq (h : s.tetherPowered = true) : floorCost s.role = if s.role = .relay then 100 else 456 := by
  rcases State.tetherPowered_iff.1 h with h | h <;> rw [h] <;> rfl

theorem State.effectiveCap_parked (h : s.parked = true) : s.effectiveCap = 15 := if_pos h

theorem State.effectiveCap_floors (hp : s.parked = false) (h : s.floorsHold = true) : s.effectiveCap = floorCost s.role := by
  rw [State.effectiveCap, hp, h]; rfl

theorem State.effectiveCap_noList (hp : s.parked = false) (h : s.floorsHold = false) (hn : s.power.allowances = none) :
    s.effectiveCap = floorCost s.role := by
  rw [State.effectiveCap, hp, h, State.ownGrant, hn]; rfl

theorem State.effectiveCap_granted {g : Grant} (hp : s.parked = false) (h : s.floorsHold = false) (hg : s.ownGrant = some g) :
    s.effectiveCap = g.allowance - s.power.droop * (g.allowance - floorCost s.role) / 4 := by
  rw [State.effectiveCap, hp, h, hg]; rfl

/-- At most four quarters of what lies above the floor are taken off. -/
theorem droopCap_bounds {allowance floor droop : Nat} (hfloor : floor ≤ allowance) (hdroop : droop ≤ 4) :
    floor ≤ allowance - droop * (allowance - floor) / 4 ∧ allowance - droop * (allowance - floor) / 4 ≤ allowance := by
  have htaken : droop * (allowance - floor) / 4 ≤ allowance - floor :=
    Nat.div_le_of_le_mul (Nat.mul_le_mul_right _ hdroop)
  exact ⟨Nat.le_sub_of_add_le (by omega), Nat.sub_le _ _⟩

/-- Settles O33. -/
theorem effectiveCapByCases : Obligations.EffectiveCapByCases := by
  refine ⟨fun s => ⟨fun h => ?_, fun h => ?_, State.ownClaim_relay, State.ownClaim_headset⟩, fun s htether => ?_⟩
  · rw [State.ownClaim, h]
  · rw [State.ownClaim, h]; rfl
  · dsimp only
    rw [← floorCost_eq htether]
    refine ⟨State.effectiveCap_parked, State.effectiveCap_floors, State.effectiveCap_noList,
      fun g => State.effectiveCap_granted, fun g hp hg hfloor hdroop => ?_⟩
    cases hf : s.floorsHold with
    | true => rw [State.effectiveCap_floors hp hf]; exact ⟨Nat.le_refl _, hfloor⟩
    | false => rw [State.effectiveCap_granted hp hf hg]; exact droopCap_bounds hfloor hdroop

end Sys2Proof.Machine
end

section
/-! SUPPORT. Return delays and raises (R68, R69, R77): what the forming of cap and mode set makes of the agreement controller, a grade's
delay at its end, and a load one level higher. Settles O35. -/

namespace Sys2Proof.Machine

variable {s t u : State}

/-! ## The agreement controller after cap and mode set are formed (R66, R96, R107) -/

theorem Agree.afterPath_false (a : Agree) (t : State) : a.afterPath false t = a := if_pos (.inl rfl)

/-- A changed set opens a round or halts; an unchanged one leaves the controller. -/
theorem State.reform_agreeFollows (s : State) : s.AgreeFollows false s.reform := by
  have hcap : (s.formModeSet false).Handed .supplyShort s.reform := .formCap _
  have hagree : s.reform.agree = s.agree.afterSet (decide (s.reform.power.modeSet ≠ s.power.modeSet) ||
      decide (s.reform.power.modeCeiling ≠ s.power.modeCeiling)) s.reform := by
    rw [Agree.afterSet_congr hcap.alike (congrArg Power.modeSet s.reform_power) hcap.clock hcap.role, s.reform_agree, s.reform_power,
      State.formModeSet_agree]
  refine ⟨hagree.trans (Agree.afterPath_false _ _).symm, fun hchanged htakes => ?_⟩
  rw [Bool.or_false, Bool.or_eq_true, decide_eq_true_eq, decide_eq_true_eq, s.reform_power] at hchanged
  have hhanded : s.Handed .supplyShort s.reform := .reform s
  exact (State.formModeSet_rests htakes hchanged).formCap.handedOn hhanded

/-- What the controller follows is read off its own block, the mode set, the running state and what RUNNING held. -/
theorem State.AgreeFollows.of_before {path : Bool} (h : u.AgreeFollows path t) (hagree : u.agree = s.agree) (hstraps : u.straps = s.straps)
    (hset : u.power.modeSet = s.power.modeSet) (hceiling : u.power.modeCeiling = s.power.modeCeiling)
    (hslices : u.sliceSource = s.sliceSource) (hmotion : u.motionHeadset = s.motionHeadset) : s.AgreeFollows path t := by
  unfold State.AgreeFollows State.HandedOn State.running State.role at *
  rw [hagree, hstraps, hset, hceiling, hslices, hmotion] at h
  exact h

/-! ## Return delays (R67 to R69) -/

theorem Power.setDelay_delay (p : Power) {g : Grade} (hg : g ≠ .g1) (d : Delay) : (p.setDelay g d).delay g = d := by
  cases g
  · exact absurd rfl hg
  all_goals rfl

/-- The delays stand apart from all else that the power manager holds. -/
theorem Power.setDelay_frame (p : Power) (g : Grade) (d : Delay) : ∃ d2 d3 d4, p.setDelay g d =
    { p with delayG2 := d2, delayG3 := d3, delayG4 := d4 } := by
  cases g <;> exact ⟨_, _, _, rfl⟩

/-- G1 has no delay (R68). -/
theorem Power.ne_g1_of_running {p : Power} {g : Grade} {t0 : Nat} (h : p.delay g = .running t0) : g ≠ .g1 := by
  rintro rfl
  cases h

/-- No grade is a candidate while the node is parked: its base alone costs more than the standby (R67, R80). -/
theorem not_parked_of_candidate {c g : Grade} (h : candidate s.role s.effectiveCap c g = true) : s.parked = false := by
  rw [Bool.eq_false_iff]
  intro hp
  have hfits := ((candidate_iff _ _ _ _).1 h).1
  have hbase : 40 ≤ totalCost s.role (floorLevels s.role (gradeNum g)) := by
    unfold totalCost baseCost
    (repeat' split) <;> omega
  rw [State.effectiveCap, if_pos hp] at hfits
  exact absurd (hbase.trans hfits) (by decide)

theorem exec_returnDelayExpiry (hp : s.powered = true) {g : Grade} {t0 : Nat} (hd : s.power.delay g = .running t0) (cancelled : Bool) :
    exec (.returnDelayExpiry ⟨g, cancelled⟩) s = .next
      (if cancelled then { s.advanceTo (t0 + returnTime) with power := s.power.setDelay g .idle }
       else ({ s.advanceTo (t0 + returnTime) with power := s.power.setDelay g .done } : State).reform) := by
  have hstart : (s.power.delay g).start = some t0 := by rw [hd]; rfl
  rw [show exec (.returnDelayExpiry ⟨g, cancelled⟩) s = execReturnDelayExpiry ⟨g, cancelled⟩ s from rfl, execReturnDelayExpiry,
    whilePowered_on hp]
  dsimp only
  rw [runOut_running hstart, State.advanceTo_power]

/-- A completed delay of a grade that is still a candidate stands, and the grade with it unless BASE_FORCED holds; else it is lost. -/
theorem State.reform_delay (hp : s.tetherPowered = true) {g : Grade} (hg : g ≠ .g1) (hd : s.power.delay g = .done) :
    (candidate s.role s.effectiveCap s.effectiveCeiling g = true →
      s.reform.power.delay g = .done ∧ (s.agree.baseForcedFrom = none → g ∈ s.reform.power.modeSet)) ∧
    (candidate s.role s.effectiveCap s.effectiveCeiling g = false → s.reform.power.delay g = .idle) := by
  have hpower : s.reform.power = { s.delayed.power with
      modeSet := s.delayed.formedSet, modeCeiling := s.delayed.effectiveCeiling } := by
    rw [State.reform_power, State.formModeSet_powered hp, State.handIfChanged_power]
  have hdelay : s.reform.power.delay g = s.delayed.power.delay g := by rw [hpower]; cases g <;> rfl
  have hstep : s.delayed.power.delay g = stepDelay (candidate s.role s.effectiveCap s.effectiveCeiling g) s.clock.now .done := by
    rw [← hd]; exact Power.stepDelays_delay _ _ _ _ _ hg
  rw [hdelay, hstep]
  refine ⟨fun hc => ⟨by rw [hc]; rfl, fun hforced => ?_⟩, fun hc => by rw [hc]; rfl⟩
  have hparked : s.delayed.parked = false := not_parked_of_candidate hc
  have hdone : s.delayed.power.delay g = .done := by rw [hstep, hc]; rfl
  rw [hpower]
  show g ∈ s.delayed.formedSet
  rw [State.formedSet, if_neg (Bool.eq_false_iff.1 hparked), show s.delayed.agree.baseForcedFrom = none from hforced]
  refine List.mem_cons_of_mem _ (List.mem_filter.2 ⟨?_, by rw [hdone]; rfl⟩)
  cases g
  · exact absurd rfl hg
  all_goals decide

/-- The delay's end at whatever time it is taken: what was formed before it, and the controller with it. -/
theorem State.delayEnded (s : State) (c : Clock) (g : Grade) :
    let u : State := { s with power := s.power.setDelay g .done }
    let t := ({ u with clock := c } : State).reform
    t.clock = c ∧ u.SetFormed t ∧ s.AgreeFollows false t ∧ s.PathFrame t := by
  intro u t
  obtain ⟨d2, d3, d4, hset⟩ := s.power.setDelay_frame g .done
  have hhanded : ({ u with clock := c } : State).Handed .supplyShort t := .reform _
  refine ⟨hhanded.clock, State.reform_setFormed { u with clock := c }, ?_, ?_⟩
  · refine State.AgreeFollows.of_before (State.reform_agreeFollows { u with clock := c }) rfl rfl ?_ ?_ rfl rfl
    · show (s.power.setDelay g .done).modeSet = s.power.modeSet
      rw [hset]
    · show (s.power.setDelay g .done).modeCeiling = s.power.modeCeiling
      rw [hset]
  · exact State.PathFrame.trans (t := { u with clock := c }) rfl (State.reform_pathFrame _)

/-! ## Raises (R77) -/

theorem exec_raiseTimerExpiry (hp : s.powered = true) {k : Load} {t0 : Nat} (ht : s.loads.timer k = some t0) :
    exec (.raiseTimerExpiry k) s = .next ((s.advanceTo (t0 + raiseTime)).raiseLoad k) := by
  rw [show exec (.raiseTimerExpiry k) s = execRaiseTimerExpiry k s from rfl, execRaiseTimerExpiry, whilePowered_on hp]
  exact congrArg _ (runOut_running ht _ _)

@[simp] theorem Levels.get_set (l : Levels) (k : Load) (v : Nat) : (l.set k v).get k = v := by cases k <;> rfl

/-- Levels handed on reach the sensor port alone. -/
theorem State.handLevels_frame (s : State) (before : Levels) : ∃ m, s.handLevels before = { s with motionHeadset := m } := by
  rw [State.handLevels_eq]
  split
  · exact ⟨_, rfl⟩
  · exact ⟨s.motionHeadset, rfl⟩

/-- Below its target the load rises by one level, its timer afresh while it is still below; else its timer stops. -/
theorem State.raiseLoad_frame (s : State) (k : Load) : ∃ m, s.raiseLoad k = { s with
    motionHeadset := m
    loads := if s.loads.current.get k < s.loads.target.get k then
        ({ s.loads with current := s.loads.current.set k (s.loads.current.get k + 1) } : Loads).setTimer k
          (if s.loads.current.get k + 1 < s.loads.target.get k then some s.clock.now else none)
      else s.loads.setTimer k none } := by
  unfold State.raiseLoad
  split
  · dsimp only
    rw [Levels.get_set]
    obtain ⟨m, hm⟩ := State.handLevels_frame ({ s with
      loads := ({ s.loads with current := s.loads.current.set k (s.loads.current.get k + 1) } : Loads).setTimer k
        (if s.loads.current.get k + 1 < s.loads.target.get k then some s.clock.now else none) } : State) s.loads.current
    exact ⟨m, hm⟩
  · exact ⟨s.motionHeadset, rfl⟩

/-- Settles O35. -/
theorem risesArePaced : Obligations.RisesArePaced := by
  refine ⟨fun s g t0 hp htether hd => ⟨exec_returnDelayExpiry hp hd true, ?_⟩, fun s k t0 hp ht => ?_⟩
  · have hg := Power.ne_g1_of_running hd
    obtain ⟨c, hc⟩ : ∃ c, s.advanceTo (t0 + 2000000) = { s with clock := c } := ⟨_, rfl⟩
    obtain ⟨hclock, hformed, hagree, hframe⟩ := s.delayEnded c g
    obtain ⟨d2, d3, d4, hset⟩ := s.power.setDelay_frame g .done
    obtain ⟨hstays, hlost⟩ := State.reform_delay (s := { s with clock := c, power := s.power.setDelay g .done }) htether hg
      (s.power.setDelay_delay hg .done)
    have hcap : State.effectiveCap { s with clock := c, power := s.power.setDelay g .done } = s.effectiveCap := by
      rw [hset]
      exact (State.cap_congr rfl rfl rfl rfl rfl rfl).2
    rw [hcap] at hstays hlost
    refine ⟨_, (exec_returnDelayExpiry hp hd false).trans (by rw [show returnTime = 2000000 from rfl, hc]; rfl), ?_, hstays, hlost,
      hformed, hagree, hframe⟩
    rw [hc]
    exact hclock
  · obtain ⟨c, hc⟩ : ∃ c, s.advanceTo (t0 + 50000) = { s with clock := c } := ⟨_, rfl⟩
    obtain ⟨m, hraised⟩ := State.raiseLoad_frame { s with clock := c } k
    refine ⟨_, (exec_raiseTimerExpiry hp ht).trans (by rw [show raiseTime = 50000 from rfl, hc, hraised]), by rw [hc],
      fun hlt => if_pos hlt, fun hle => if_neg (Nat.not_lt.2 hle), rfl⟩

end Sys2Proof.Machine
end

section
/-! SUPPORT. A settled offer (R56 to R58, R63, R64, R66): what the change of the node's own offer announces, computes and forms, in every
role. -/

namespace Sys2Proof.Machine

variable {s t u v : State}

/-! ## An offering reads the channel, the counters, the time and the join state alone (R14 to R16) -/

/-- The two states have the same channel, counters, time and join state. -/
structure State.SameChannel (s u : State) : Prop where
  rail     : s.rail = u.rail
  counters : s.counters = u.counters
  clock    : s.clock = u.clock
  join     : s.roster.join = u.roster.join

namespace State.SameChannel

theorem syncHead (h : s.SameChannel u) : s.syncHead.SameChannel u.syncHead := by
  refine ⟨?_, h.counters, h.clock, h.join⟩
  unfold State.syncHead State.txHeld
  rw [h.rail, h.clock, h.join]

theorem addEntry (h : s.SameChannel u) (k : BurstKind) (p : List Byte) : (s.addEntry k p).SameChannel (u.addEntry k p) := by
  refine syncHead ⟨?_, h.counters, h.clock, h.join⟩
  dsimp only
  rw [h.rail]

theorem offerBurst (h : s.SameChannel u) {k : BurstKind} (hk : k ≠ .ask) (p : List Byte) :
    (s.offerBurst k p).SameChannel (u.offerBurst k p) := by
  unfold State.offerBurst
  rw [h.rail, h.join]
  (repeat' split)
  · exact h
  · exact ⟨rfl, h.counters, h.clock, h.join⟩
  · exact h.addEntry k p
  · refine addEntry ?_ k p
    exact ⟨rfl, h.counters, h.clock, h.join⟩
  · exact ⟨h.rail, congrArg (Counters.add cQueueFull 1) h.counters, h.clock, h.join⟩

end State.SameChannel

/-! ## The announcement of a changed offer and claim (R56, R57) -/

/-- The bursts of an announcement: the offer's, then the claim's, each where there is one. -/
def State.announcing (offer : Option Offer) (claim : Option Claim) (s : State) : State :=
  let v := offer.elim s (fun o => s.offerBurst .offer (offerPayload o))
  claim.elim v (fun c => v.offerBurst .claim (claimPayload c))

theorem State.SameChannel.announcing (h : s.SameChannel u) (offer : Option Offer) (claim : Option Claim) :
    (s.announcing offer claim).SameChannel (u.announcing offer claim) := by
  have hoffer : (offer.elim s (fun o => s.offerBurst .offer (offerPayload o))).SameChannel
      (offer.elim u (fun o => u.offerBurst .offer (offerPayload o))) := by
    cases offer with
    | none => exact h
    | some o => exact h.offerBurst (by decide) _
  cases claim with
  | none => exact hoffer
  | some c => exact hoffer.offerBurst (by decide) _

/-- An offering changes the channel and the counters alone. -/
theorem State.offerBurst_frame (s : State) {k : BurstKind} (hk : k ≠ .ask) (p : List Byte) :
    s.offerBurst k p = { s with rail := (s.offerBurst k p).rail, counters := (s.offerBurst k p).counters } := by
  have hframe := State.Announces.offerBurst s hk p
  obtain ⟨hoffer, hclaim⟩ := (State.Handed.offerBurst (free := .supplyShort) s hk p).period
  unfold State.Announces at hframe
  rw [hoffer, hclaim] at hframe
  exact hframe

/-- Announcing the offer changes the channel, the counters and the offer's period alone. -/
theorem State.announceOffer_frame (s : State) : s.announceOffer = { s with
    rail := s.announceOffer.rail, counters := s.announceOffer.counters
    power := { s.power with offerFrom :=
      if s.roster.join = .active ∧ s.roster.self.offer.isSome then some s.clock.now else s.power.offerFrom } } := by
  cases ho : s.roster.self.offer with
  | none => simp [State.announceOffer, ho]
  | some o =>
    rw [State.announceOffer_eq ho]
    by_cases hj : s.roster.join = .active
    · rw [if_pos hj, if_pos ⟨hj, rfl⟩]
      refine State.offerBurst_frame ({ s with power := { s.power with offerFrom := some s.clock.now } } : State) ?_ _
      decide
    · rw [if_neg hj, if_neg (fun h => hj h.1)]

theorem State.announceOffer_channel (s : State) : s.announceOffer.SameChannel
    (s.announcing (if s.roster.join = .active then s.roster.self.offer else none) none) := by
  cases ho : s.roster.self.offer with
  | none =>
    have hsame : s.announceOffer = s := by simp [State.announceOffer, ho]
    rw [ite_self, hsame]
    exact ⟨rfl, rfl, rfl, rfl⟩
  | some o =>
    rw [State.announceOffer_eq ho]
    by_cases hj : s.roster.join = .active
    · rw [if_pos hj, if_pos hj]
      refine State.SameChannel.offerBurst ?_ (by decide) _
      exact ⟨rfl, rfl, rfl, rfl⟩
    · rw [if_neg hj, if_neg hj]
      exact ⟨rfl, rfl, rfl, rfl⟩

/-- What is announced between two states: the changed offer and the changed claim, while ACTIVE (R56). -/
theorem State.announced_iff : s.Announced t ↔
    let offer := if s.roster.join = .active ∧ t.roster.self.offer ≠ s.roster.self.offer then t.roster.self.offer else none
    let claim := if s.roster.join = .active ∧ t.roster.self.claim ≠ s.roster.self.claim then t.roster.self.claim else none
    let w := ({ s with clock := t.clock } : State).announcing offer claim
    t.rail = w.rail ∧ t.counters = w.counters ∧
    t.power.offerFrom = (if offer.isSome then some t.clock.now else s.power.offerFrom) ∧
    t.power.claimFrom = (if claim.isSome then some t.clock.now else s.power.claimFrom) := by
  unfold State.Announced State.announcing
  dsimp only
  generalize (if s.roster.join = .active ∧ t.roster.self.offer ≠ s.roster.self.offer then t.roster.self.offer else none) = offer
  generalize (if s.roster.join = .active ∧ t.roster.self.claim ≠ s.roster.self.claim then t.roster.self.claim else none) = claim
  cases offer <;> cases claim <;> rfl

/-- Of an offer that changed alone, its own burst and period. -/
theorem State.announced_of_offer (hoffer : t.roster.self.offer ≠ s.roster.self.offer) (hclaim : t.roster.self.claim = s.roster.self.claim) :
    s.Announced t ↔
    let offer := if s.roster.join = .active then t.roster.self.offer else none
    let w := ({ s with clock := t.clock } : State).announcing offer none
    t.rail = w.rail ∧ t.counters = w.counters ∧
    t.power.offerFrom = (if offer.isSome then some t.clock.now else s.power.offerFrom) ∧ t.power.claimFrom = s.power.claimFrom := by
  rw [State.announced_iff]
  simp only [hclaim, hoffer, ne_eq, not_true_eq_false, not_false_eq_true, and_true, and_false, if_false, Option.isSome_none,
    Bool.false_eq_true]

/-! ## What comes before the telling -/

/-- What the supply follows is read off the role, the list, the grace, the faults, the delays and SUPPLY_SHORT. -/
theorem State.SupplyFollows.of_before {changed : Bool} (h : u.SupplyFollows changed t) (hrole : u.role = s.role)
    (hlist : u.power.allowances = s.power.allowances) (hlost : u.power.lostActive = s.power.lostActive)
    (hgrace : u.power.graceFrom = s.power.graceFrom) (hdelay : ∀ g, u.power.delay g = s.power.delay g)
    (hshort : u.sticky .supplyShort = s.sticky .supplyShort) : s.SupplyFollows changed t := by
  unfold State.SupplyFollows State.SetFormed State.tetherPowered at *
  simp only [hdelay] at h
  rw [hshort, hlist, hlost, hgrace, hrole] at h
  exact h

/-- `v` is `s` but for the time, the supplier's own part of the power block and a flag other than SUPPLY_SHORT: nothing of it has been
announced, computed or formed. -/
structure State.Untold (s v : State) : Prop where
  frame : v = { s with clock := v.clock, power := v.power, host := { s.host with sticky := v.host.sticky } }
  power : v.power = { s.power with
    supplier := v.power.supplier, supplyReady := v.power.supplyReady, railPresent := v.power.railPresent
    holdFrom := v.power.holdFrom, fallSeen := v.power.fallSeen, lastTrip := v.power.lastTrip }
  short : v.sticky .supplyShort = s.sticky .supplyShort

namespace State.Untold

theorem straps (h : s.Untold v) : v.straps = s.straps := by rw [h.frame]
theorem roster (h : s.Untold v) : v.roster = s.roster := by rw [h.frame]
theorem role (h : s.Untold v) : v.role = s.role := congrArg Straps.role h.straps

theorem pathRailFrame (h : s.Untold v) (ht : v.PathRailFrame t) : s.PathRailFrame t := by
  refine State.PathRailFrame.trans (t := v) ?_ ht
  rw [h.frame]
  rfl

theorem supplyFollows (h : s.Untold v) {changed : Bool} (ht : v.SupplyFollows changed t) : s.SupplyFollows changed t :=
  ht.of_before h.role (by rw [h.power]) (by rw [h.power]) (by rw [h.power]) (fun g => by rw [h.power]; cases g <;> rfl) h.short

theorem announced (h : s.Untold v) (ht : v.Announced t) : s.Announced t := by
  have hoffer : v.power.offerFrom = s.power.offerFrom := by rw [h.power]
  have hclaim : v.power.claimFrom = s.power.claimFrom := by rw [h.power]
  rw [State.announced_iff] at *
  rw [h.roster, hoffer, hclaim] at ht
  have hsame : ({ v with clock := t.clock, roster := s.roster } : State).SameChannel { s with clock := t.clock } :=
    ⟨by rw [h.frame], by rw [h.frame], rfl, rfl⟩
  obtain ⟨hrail, hcounters, hperiods⟩ := ht
  exact ⟨hrail.trans (hsame.announcing _ _).rail, hcounters.trans (hsame.announcing _ _).counters, hperiods⟩

theorem agreeFollows (h : s.Untold v) {path : Bool} (ht : v.AgreeFollows path t) : s.AgreeFollows path t :=
  ht.of_before (by rw [h.frame]) h.straps (by rw [h.power]) (by rw [h.power]) (by rw [h.frame]) (by rw [h.frame])

end State.Untold

/-! ## Where nothing is told -/

theorem State.SupplyFollows.refl (s : State) : s.SupplyFollows false s :=
  ⟨rfl, (Bool.or_false _).symm, (Bool.and_true _).symm, rfl, nofun⟩

theorem State.Announced.refl (s : State) : s.Announced s := by simp [State.Announced]

theorem State.AgreeFollows.refl (s : State) : s.AgreeFollows false s := by
  simp [State.AgreeFollows, Agree.afterSet, Agree.afterPath]

/-! ## A changed offer or claim told to the power manager (R58, R63, R64, R66, R86) -/

/-- Of the power block, what a supplier's own inputs, holds and trips have written. -/
def Power.SameSupplier (p q : Power) : Prop :=
  q.supplier = p.supplier ∧ q.supplyReady = p.supplyReady ∧ q.railPresent = p.railPresent ∧ q.holdFrom = p.holdFrom ∧
  q.fallSeen = p.fallSeen ∧ q.lastTrip = p.lastTrip

theorem State.formModeSet_supplier (s : State) : s.power.SameSupplier (s.formModeSet false).power := by
  rcases s.role_cases with hr | hr | hr
  · rw [State.formModeSet_source hr, State.handIfChanged_power]
    exact ⟨rfl, rfl, rfl, rfl, rfl, rfl⟩
  · rw [State.formModeSet_battery hr]
    exact ⟨rfl, rfl, rfl, rfl, rfl, rfl⟩
  · rw [State.formModeSet_powered hr, State.handIfChanged_power]
    exact ⟨rfl, rfl, rfl, rfl, rfl, rfl⟩

theorem State.powerTold_handed {free : Flag} (s : State) : s.supplied.Handed free s.powerTold := .reform _

theorem State.powerTold_supplier (s : State) : s.power.SameSupplier s.powerTold.power := by
  have hsupplier := s.supplied.formModeSet_supplier
  rw [← State.reform_power] at hsupplier
  rw [State.powerTold_eq]
  rw [State.supplied_eq] at hsupplier ⊢
  exact hsupplier

/-- Channel, counters, time and periods stand, and in the self entry offer and claim. -/
theorem State.powerTold_kept (s : State) : s.powerTold.rail = s.rail ∧ s.powerTold.counters = s.counters ∧ s.powerTold.clock = s.clock ∧
    s.powerTold.power.offerFrom = s.power.offerFrom ∧ s.powerTold.power.claimFrom = s.power.claimFrom ∧
    s.powerTold.roster.self.offer = s.roster.self.offer ∧ s.powerTold.roster.self.claim = s.roster.self.claim := by
  have hhanded := s.powerTold_handed (free := .supplyShort)
  obtain ⟨-, -, -, hoffer, hclaim⟩ := hhanded.self
  rw [State.powerTold_rail, State.powerTold_counters, hhanded.clock, hhanded.period.1, hhanded.period.2, hoffer, hclaim, State.supplied_eq]
  exact ⟨rfl, rfl, rfl, rfl, rfl, rfl, rfl⟩

theorem State.powerTold_pathRailFrame (s : State) : s.PathRailFrame s.powerTold := by
  refine State.PathRailFrame.trans (t := s.supplied) ?_ (s.powerTold_handed (free := .supplyShort)).frame
  rw [State.supplied_eq]
  rfl

theorem State.powerTold_sticky (s : State) {f : Flag} (hf : f ≠ .supplyShort) : s.powerTold.sticky f = s.sticky f := by
  rw [s.powerTold_handed.flags f hf, State.supplied_sticky, decide_eq_false hf, Bool.false_and, Bool.or_false]

theorem State.powerTold_supplyFollows (s : State) : s.SupplyFollows true s.powerTold := by
  have hhanded := s.powerTold_handed (free := .baseForced)
  have hroster : s.supplied.roster = s.roster := by rw [State.supplied_eq]
  refine State.supplyFollows_of ?_ s.powerTold_kept.2.2.1 (hhanded.flags _ (by decide)) hhanded.supply (fun _ => s.pathStep_setFormed false)
  rw [← hroster]
  exact hhanded.alike

theorem State.powerTold_agreeFollows (s : State) : s.AgreeFollows false s.powerTold := by
  refine s.supplied.reform_agreeFollows.of_before ?_ ?_ ?_ ?_ ?_ ?_ <;> rw [State.supplied_eq]

/-! ## The settled offer (R56) -/

/-- The self entry holds the offer as it stands. -/
def State.offerWritten (s : State) : State := { s with roster := { s.roster with self := { s.roster.self with offer := s.ownOffer } } }

theorem State.settleOffer_same (h : s.roster.self.offer = s.ownOffer) : s.settleOffer = s := if_pos h

theorem State.settleOffer_new (h : s.roster.self.offer ≠ s.ownOffer) : s.settleOffer = s.offerWritten.announceOffer.powerTold :=
  if_neg h

/-- What the settling of an offer does: it is announced where it changed, the computation runs, and cap and mode set are formed. -/
structure State.OfferSettled (s t : State) : Prop where
  offer     : t.roster.self.offer = s.ownOffer
  supply    : s.SupplyFollows (decide (s.roster.self.offer ≠ t.roster.self.offer)) t
  announced : s.Announced t
  agree     : s.AgreeFollows false t
  frame     : s.PathRailFrame t
  clock     : t.clock = s.clock
  supplier  : s.power.SameSupplier t.power
  flags     : ∀ f, f ≠ .supplyShort → t.sticky f = s.sticky f

/-- A changed offer is announced before it is told: the bursts are those of the state before the event. -/
theorem State.settleOffer_announced (h : s.roster.self.offer ≠ s.ownOffer) : s.Announced s.offerWritten.announceOffer.powerTold := by
  obtain ⟨hrail, hcounters, hclock, hofferFrom, hclaimFrom, hoffer, hclaim⟩ := s.offerWritten.announceOffer.powerTold_kept
  have htold := s.offerWritten.announceOffer_frame
  have hchannel := s.offerWritten.announceOffer_channel
  have hbefore : ({ s with clock := s.clock } : State).SameChannel s.offerWritten := ⟨rfl, rfl, rfl, rfl⟩
  have hannounced := hbefore.announcing (if s.roster.join = .active then s.ownOffer else none) none
  have hclock' : s.offerWritten.announceOffer.clock = s.clock := by rw [htold]; rfl
  have hoffer' : s.offerWritten.announceOffer.roster.self.offer = s.ownOffer := by rw [htold]; rfl
  have hclaim' : s.offerWritten.announceOffer.roster.self.claim = s.roster.self.claim := by rw [htold]; rfl
  rw [State.announced_of_offer (by rw [hoffer, hoffer']; exact Ne.symm h) (hclaim.trans hclaim'), hrail, hcounters, hclock, hclock',
    hofferFrom, hclaimFrom, hoffer, hoffer']
  refine ⟨hchannel.rail.trans hannounced.rail.symm, hchannel.counters.trans hannounced.counters.symm, ?_, by rw [htold]; rfl⟩
  rw [htold]
  show (if s.roster.join = .active ∧ s.ownOffer.isSome then some s.clock.now else s.power.offerFrom) = _
  by_cases hj : s.roster.join = .active <;> simp [hj]

theorem State.settleOffer_settled (s : State) : s.OfferSettled s.settleOffer := by
  by_cases h : s.roster.self.offer = s.ownOffer
  · rw [State.settleOffer_same h]
    refine ⟨h, ?_, .refl s, .refl s, rfl, rfl, ⟨rfl, rfl, rfl, rfl, rfl, rfl⟩, fun _ _ => rfl⟩
    rw [decide_eq_false (not_not.2 rfl)]
    exact .refl s
  · have hannounced := State.settleOffer_announced h
    have htold := s.offerWritten.announceOffer_frame
    rw [State.settleOffer_new h]
    generalize s.offerWritten.announceOffer = u at hannounced htold ⊢
    obtain ⟨-, -, hclock, -, -, hoffer, -⟩ := u.powerTold_kept
    have hsupplier := u.powerTold_supplier
    have hoffer' : u.powerTold.roster.self.offer = s.ownOffer := by rw [hoffer, htold]; rfl
    refine ⟨hoffer', ?_, hannounced, ?_, ?_, ?_, ?_, fun f hf => ?_⟩
    · rw [hoffer', decide_eq_true h]
      refine u.powerTold_supplyFollows.of_before ?_ ?_ ?_ ?_ (fun g => ?_) ?_
      case refine_5 => rw [htold]; cases g <;> rfl
      all_goals rw [htold]; rfl
    · refine u.powerTold_agreeFollows.of_before ?_ ?_ ?_ ?_ ?_ ?_
      all_goals rw [htold]; rfl
    · refine State.PathRailFrame.trans (t := u) ?_ u.powerTold_pathRailFrame
      rw [htold]
      rfl
    · rw [hclock, htold]
      rfl
    · rw [htold] at hsupplier ⊢
      exact hsupplier
    · rw [u.powerTold_sticky hf, htold]
      rfl

end Sys2Proof.Machine
end

section
/-! SUPPORT. The supplier state of a BATTERY (R51, R83): its inputs, the trip hold and an accepted NOTICE TRIP. Settles O30. -/

namespace Sys2Proof.Machine

variable {s t v : State}

/-- The state the two inputs give, as R51 lists it. -/
theorem supplierFromInputs_eq (ready present : Bool) : supplierFromInputs ready present =
    if ready = false then .notReady else if present then .injecting else .noRail := by
  cases ready <;> cases present <;> rfl

/-- The offer of a supplier that is no SOURCE in RAIL_ON: its level while it injects (R51). -/
theorem State.ownOffer_of_supplier {st : SupplierState} (h : s.power.supplier = some st) (hst : st ≠ .railOn) :
    s.ownOffer = some ⟨if st = .injecting then s.offerLevel else 0, st.code⟩ := by
  rw [State.ownOffer, h]
  dsimp only
  rw [State.offeredCurrent, h]
  cases st
  case railOn => exact absurd rfl hst
  all_goals rfl

/-- A BATTERY's controller takes no trigger (R27). -/
theorem State.AgreeFollows.battery (hr : t.role = .battery) (h : s.AgreeFollows false t) : t.agree = s.agree := by
  refine h.1.trans ((Agree.afterPath_false _ _).trans (if_pos (.inr ?_)))
  rw [hr]
  rfl

/-- A BATTERY's state `st` settled, between `s` and the end of the event `t`. -/
theorem State.battery_settled (hr : s.role = .battery) (hu : s.Untold v) {st : SupplierState} (hst : v.power.supplier = some st)
    (hon : st ≠ .railOn) : let t := v.settleOffer
    v.power.SameSupplier t.power ∧ t.roster.self.offer = some ⟨if st = .injecting then s.offerLevel else 0, st.code⟩ ∧
      s.SupplyFollows (decide (s.roster.self.offer ≠ t.roster.self.offer)) t ∧ s.Announced t ∧ t.agree = s.agree ∧ s.PathRailFrame t := by
  intro t
  have hsettled := v.settleOffer_settled
  have hlevel : v.offerLevel = s.offerLevel := by rw [hu.frame]; rfl
  have hoffer := hsettled.offer.trans (State.ownOffer_of_supplier hst hon)
  have hsupply := hu.supplyFollows hsettled.supply
  have hframe := hu.pathRailFrame hsettled.frame
  rw [hlevel] at hoffer
  rw [hu.roster] at hsupply
  exact ⟨hsettled.supplier, hoffer, hsupply, hu.announced hsettled.announced,
    (hu.agreeFollows hsettled.agree).battery (hframe.role.trans hr), hframe⟩

/-! ## The commands (R51) -/

theorem exec_tripHoldExpiry_other (hp : s.powered = true) (h : s.power.supplier ≠ some .tripHold) : exec .tripHoldExpiry s = .next s := by
  rw [show exec .tripHoldExpiry s = execTripHoldExpiry s from rfl, execTripHoldExpiry, whilePowered_on hp, if_neg h]

theorem exec_tripHoldExpiry (hp : s.powered = true) (h : s.power.supplier = some .tripHold) {t0 : Nat} (hf : s.power.holdFrom = some t0) :
    exec .tripHoldExpiry s = .next (s.advanceTo (t0 + tripHoldTime)).endTripHold := by
  rw [show exec .tripHoldExpiry s = execTripHoldExpiry s from rfl, execTripHoldExpiry, whilePowered_on hp, if_pos h,
    runOut_running hf]

/-- The inputs as the commands leave them. -/
def State.readyAt (ready : Bool) (s : State) : State := { s with power := { s.power with supplyReady := ready } }
def State.presentAt (present : Bool) (s : State) : State := { s with power := { s.power with railPresent := present } }

/-- The supplier state the inputs give, before its offer is settled. -/
def State.inputsTaken (s : State) : State := s.setSupplier (supplierFromInputs s.power.supplyReady s.power.railPresent)

theorem State.endTripHold_eq (s : State) :
    s.endTripHold = ({ s with power := { s.power with holdFrom := none } } : State).inputsTaken.settleOffer := rfl

section battery

variable (hp : s.powered = true) (hr : s.role = .battery)
include hp hr

theorem exec_supplyReadyChange_follows (h : s.power.supplier ≠ some .tripHold) (ready : Bool) :
    exec (.supplyReadyChange ready) s = .next (s.readyAt ready).inputsTaken.settleOffer :=
  (whilePowered_on (s := s.readyAt ready) hp State.readyChanged).trans (congrArg _ ((if_pos hr).trans (if_neg h)))

theorem exec_supplyReadyChange_held (h : s.power.supplier = some .tripHold) (ready : Bool) :
    exec (.supplyReadyChange ready) s = .next (s.readyAt ready) :=
  (whilePowered_on (s := s.readyAt ready) hp State.readyChanged).trans (congrArg _ ((if_pos hr).trans (if_pos h)))

theorem exec_railPresentChange_follows (h : s.power.supplier ≠ some .tripHold) (mv : Nat) :
    exec (.railPresentChange mv) s = .next (s.presentAt (decide (2000 ≤ mv))).inputsTaken.settleOffer :=
  (whilePowered_on (s := s.presentAt (decide (2000 ≤ mv))) hp (State.presentChanged s.power.railPresent)).trans
    (congrArg _ ((if_pos hr).trans (if_neg h)))

/-- In TRIP_HOLD the fall is noted, the rise after it ends the hold, and nothing else moves. -/
theorem exec_railPresentChange_held (h : s.power.supplier = some .tripHold) (mv : Nat) : exec (.railPresentChange mv) s = .next
    (if s.power.railPresent = true ∧ mv < 2000 then { s with power := { s.power with railPresent := false, fallSeen := true } }
     else if s.power.railPresent = false ∧ 2000 ≤ mv ∧ s.power.fallSeen = true then (s.presentAt true).endTripHold
     else s.presentAt (decide (2000 ≤ mv))) := by
  refine (whilePowered_on (s := s.presentAt (decide (2000 ≤ mv))) hp (State.presentChanged s.power.railPresent)).trans
    (congrArg _ (((if_pos hr).trans (if_pos h)).trans ?_))
  by_cases hmv : 2000 ≤ mv
  · simp [State.presentAt, hmv]
  · simp [State.presentAt, hmv, Nat.lt_of_not_le hmv]

end battery

theorem State.noticeTrip_battery (hr : s.role = .battery) (a : Addr) (detail : Byte) : s.noticeArrives a noticeTrip detail =
    (({ s with power := { s.power with lastTrip := ⟨a, detail⟩ } } : State).raise .tripped).enterTripHold := by
  unfold State.noticeArrives
  rw [if_neg (by decide), if_pos rfl]
  exact if_pos hr

theorem State.Untold.inputsTaken (h : s.Untold v) : s.Untold v.inputsTaken where
  frame := by rw [h.frame]; rfl
  power := by
    show { v.power with supplier := some (supplierFromInputs v.power.supplyReady v.power.railPresent) } = _
    rw [h.power]
    rfl
  short := h.short

/-- What the settling leaves where the supplier state follows the inputs as they stand in `v`. -/
theorem State.Untold.followed (hr : s.role = .battery) (hu : s.Untold v) :
    let ready := v.power.supplyReady
    let present := v.power.railPresent
    let given : SupplierState := if ready = false then .notReady else if present then .injecting else .noRail
    let t := v.inputsTaken.settleOffer
    t.power.supplier = some given ∧ t.power.supplyReady = ready ∧ t.power.railPresent = present ∧
      t.roster.self.offer = some ⟨if given = .injecting then s.offerLevel else 0, given.code⟩ ∧
      s.SupplyFollows (decide (s.roster.self.offer ≠ t.roster.self.offer)) t ∧ s.Announced t ∧ t.agree = s.agree ∧
      s.PathRailFrame t := by
  intro ready present given t
  have hst : v.inputsTaken.power.supplier = some given := congrArg some (supplierFromInputs_eq ready present)
  have hon : given ≠ .railOn := by
    simp only [given]
    (repeat' split) <;> decide
  obtain ⟨⟨hsupplier, hready, hpresent, -⟩, hrest⟩ := State.battery_settled hr hu.inputsTaken hst hon
  exact ⟨hsupplier.trans hst, hready, hpresent, hrest⟩

/-- Settles O30: the NOTICE TRIP; then outside TRIP_HOLD, and in it. -/
theorem batteryStateFollowsInputs : Obligations.BatteryStateFollowsInputs := by
  refine ⟨fun s sender p lt ll hr hkind => ?_, fun s hp hr => ?_⟩
  · dsimp only
    rw [State.contentArrives_notice rfl, hkind, show (2 : Byte) = noticeTrip from rfl, State.noticeTrip_battery hr]
    obtain ⟨v, hv⟩ : ∃ v : State, v = (({ s with power := { s.power with
      lastTrip := ⟨sender, byteAt p 1⟩, holdFrom := some s.clock.now, fallSeen := false } } : State).raise .tripped).setSupplier .tripHold :=
        ⟨_, rfl⟩
    have hu : s.Untold v := by
      rw [hv]
      exact ⟨rfl, rfl, State.raise_sticky_ne (by decide)⟩
    have hsettled := v.settleOffer_settled
    obtain ⟨hsupplier, hoffer, hsupply, hannounced, hagree, hframe⟩ :=
      State.battery_settled hr hu (st := .tripHold) (by rw [hv]; rfl) (by decide)
    obtain ⟨hstate, -, -, hhold, hseen, hlast⟩ := hsupplier
    rw [show State.enterTripHold _ = v.settleOffer by rw [hv]; rfl]
    refine ⟨by rw [hstate, hv]; rfl, by rw [hhold, hv]; rfl, by rw [hseen, hv]; rfl, by rw [hlast, hv]; rfl, ?_, hoffer, ?_, hsupply,
      hannounced, hagree, hframe⟩
    · rw [hsettled.flags .tripped (by decide), hv]
      exact State.raise_sticky .tripped
    · rw [hsettled.clock, hv]
      rfl
  · intro given follows
    have hfollows : ∀ {c : Instr} {v : State}, exec c s = .next v.inputsTaken.settleOffer → s.Untold v →
        follows c v.power.supplyReady v.power.railPresent := fun hexec hu => ⟨_, hexec, hu.followed hr⟩
    refine ⟨fun h => ⟨fun ready => ?_, fun mv => ?_, exec_tripHoldExpiry_other hp h⟩,
      fun h => ⟨fun ready => ?_, fun mv hpresent hmv => ?_, fun mv hpresent hmv hseen => ?_, fun mv hpresent hmv hseen => ?_,
        fun t0 hf => ?_⟩⟩
    · exact hfollows (exec_supplyReadyChange_follows hp hr h ready) ⟨rfl, rfl, rfl⟩
    · exact hfollows (exec_railPresentChange_follows hp hr h mv) ⟨rfl, rfl, rfl⟩
    · exact exec_supplyReadyChange_held hp hr h ready
    · rw [exec_railPresentChange_held hp hr h, if_pos ⟨hpresent, hmv⟩]
    · rw [exec_railPresentChange_held hp hr h, if_neg (fun hfall => by omega),
        if_neg (fun hends => Bool.eq_false_iff.1 hseen hends.2.2), decide_eq_true hmv]
      rfl
    · have hexec := exec_railPresentChange_held hp hr h mv
      rw [if_neg (fun hfall => by omega), if_pos ⟨hpresent, hmv, hseen⟩, State.endTripHold_eq] at hexec
      exact hfollows hexec ⟨rfl, rfl, rfl⟩
    · obtain ⟨c, hc⟩ : ∃ c, s.advanceTo (t0 + 2000000) = { s with clock := c } := ⟨_, rfl⟩
      have hexec := exec_tripHoldExpiry hp h hf
      rw [show tripHoldTime = 2000000 from rfl, hc, State.endTripHold_eq] at hexec
      have hends := hfollows hexec ⟨rfl, rfl, rfl⟩
      refine ⟨hends, fun t ht => ?_⟩
      rw [hexec] at ht
      obtain rfl := Host.Outcome.next.inj ht
      have hsettled := State.settleOffer_settled
        (State.inputsTaken { s with clock := c, power := { s.power with holdFrom := none } })
      obtain ⟨-, -, -, hhold, -⟩ := hsettled.supplier
      exact ⟨hhold, hsettled.clock.trans (congrArg State.clock hc).symm⟩

end Sys2Proof.Machine
end

section
/-! SUPPORT. Full reset and restart (section 5.7): the blocks both restore, what each keeps, and the requests that restart the node (R168,
R177). Settles O58. -/

namespace Sys2Proof.Machine

variable {s u : State}

/-! ## The blocks after either reset -/

section boot

variable (k : Kept) (u : State)

/-- R28, R32: a join timer unless the node is listen-only. -/
theorem State.boot_joinFrom : (u.boot k).roster.joinFrom =
    if (u.boot k).roster.join = .listenOnly then none else some (u.boot k).clock.now := by
  show (if k.listenOnly then none else some u.clock.now) =
    if (if k.listenOnly then JoinState.listenOnly else .joining) = .listenOnly then none else some u.clock.now
  cases k.listenOnly <;> rfl

/-- R108: why the controller is HALTED. -/
theorem State.boot_reason : (u.boot k).agree.reason =
    if (u.boot k).roster.join = .listenOnly ∧ (u.boot k).role ≠ .battery then .listenOnly else .notJoined := by
  show (if k.listenOnly && atPicturePath k.straps.role then Reason.listenOnly else .notJoined) =
    if (if k.listenOnly then JoinState.listenOnly else .joining) = .listenOnly ∧ k.straps.role ≠ .battery then .listenOnly else .notJoined
  cases k.listenOnly <;> cases k.straps.role <;> rfl

/-- R43, R108: a BATTERY has no lane summary. -/
theorem State.boot_summary : (u.boot k).roster.self.summary =
    if (u.boot k).role = .battery then none else some (laneSummary AgreeState.halted.code 0) := by
  show (if atPicturePath k.straps.role then some (laneSummary AgreeState.halted.code 0) else none) =
    if k.straps.role = .battery then none else some (laneSummary AgreeState.halted.code 0)
  cases k.straps.role <;> rfl

/-- R116: every transmitter and receiver is off. -/
theorem State.boot_lanes (l : Lane) : ((u.boot k).lanes.tx l).state = .off ∧ ((u.boot k).lanes.tx l).sending = none ∧
    ((u.boot k).lanes.tx l).waiting = [] ∧ (u.boot k).lanes.rx l = .off := by
  cases l <;> exact ⟨rfl, rfl, rfl, rfl⟩

/-- R50, R51, R69, R70, R86, R87, R91: the supplier state, the timers and the mode set by role; all else at its first value. -/
theorem State.boot_power : (u.boot k).power = {
    supplier := (match (u.boot k).role with
      | .source => some .railOn
      | .battery => some (if u.power.supplyReady = false then .notReady else if u.power.railPresent then .injecting else .noRail)
      | _ => none)
    offerFrom := none, claimFrom := none, supplyReady := u.power.supplyReady, railPresent := u.power.railPresent
    holdFrom := none, fallSeen := false, allowances := none, droop := 0, goodRun := 0, lastLow := false
    measureFrom := if (u.boot k).role = .battery then none else some (u.boot k).clock.now
    critActive := false, clearFrom := none, lostActive := false
    graceFrom := if (u.boot k).tetherPowered then some (u.boot k).clock.now else none
    lastOverdraw := ⟨0, 0⟩, lastTrip := ⟨0, 0⟩, lastCritical := ⟨0, 0⟩
    modeSet := (match (u.boot k).role with | .source => gradesUpTo (u.boot k).effectiveCeiling | .battery => [] | _ => [.g1])
    modeCeiling := (u.boot k).effectiveCeiling, delayG2 := .idle, delayG3 := .idle, delayG4 := .idle
    trip := .none, tripHistory := [], overrun := 0, overdrawAt := none } := by
  rw [show (u.boot k).power = bootPower k u.clock.now u.power.supplyReady u.power.railPresent from rfl,
    show (u.boot k).role = k.straps.role from rfl, show (u.boot k).effectiveCeiling = k.ceiling from rfl, State.tetherPowered,
    show (u.boot k).role = k.straps.role from rfl, show (u.boot k).clock.now = u.clock.now from rfl]
  unfold bootPower bootSupplier bootModeSet
  cases k.straps.role
  case battery => cases u.power.supplyReady <;> cases u.power.railPresent <;> rfl
  all_goals rfl

/-- R79: every load at its floor level. -/
theorem State.boot_loads :
    ((u.boot k).role = .relay → (u.boot k).loads = { cap := 100, current := ⟨1, 0, 0, 0⟩, target := ⟨1, 0, 0, 0⟩, panelFrom := none
                                                     audioFrom := none, motionFrom := none }) ∧
    ((u.boot k).role = .headset → (u.boot k).loads = { cap := 456, current := ⟨1, 1, 0, 2⟩, target := ⟨1, 1, 0, 2⟩, panelFrom := none
                                                       audioFrom := none, motionFrom := none }) := by
  have hloads : (u.boot k).loads = bootLoads (u.boot k).role := rfl
  refine ⟨fun h => ?_, fun h => ?_⟩ <;> rw [hloads, h] <;> rfl

/-- R50, R51, R56: the offer settled by the supplier state the reset gives. -/
theorem State.boot_offer :
    ((u.boot k).role = .source → (u.boot k).roster.self.offer = some ⟨(u.boot k).offerLevel, 0⟩) ∧
    ((u.boot k).role = .battery → (u.boot k).roster.self.offer =
      some (if u.power.supplyReady = false then ⟨0, 4⟩ else if u.power.railPresent then ⟨(u.boot k).offerLevel, 3⟩ else ⟨0, 5⟩)) := by
  have hoffer : (u.boot k).roster.self.offer = (u.boot k).ownOffer := rfl
  have hsupplier : (u.boot k).power.supplier = bootSupplier (u.boot k).role u.power.supplyReady u.power.railPresent := rfl
  refine ⟨fun h => ?_, fun h => ?_⟩ <;> rw [hoffer, State.ownOffer, State.offeredCurrent, hsupplier, h]
  · rfl
  · cases u.power.supplyReady <;> cases u.power.railPresent <;> rfl

/-- R108: the own mode set carries the current round. -/
theorem State.boot_round (m : ModeSet) (h : (u.boot k).roster.self.modeSet = some m) : m.round = (u.boot k).agree.round := by
  change (if atPicturePath k.straps.role then some (⟨k.round, (bootModeSet k).map gradeCode, gradeCode k.ceiling⟩ : ModeSet) else none) =
    some m at h
  split at h
  · exact (congrArg ModeSet.round (Option.some.inj h)).symm
  · cases h

end boot

/-! ## What lies outside the die -/

/-- The two states have the same queue of commands, carrier, inputs of a BATTERY and host port. -/
structure State.SameOutside (s u : State) : Prop where
  pending : u.pending = s.pending
  carrier : u.rail.carrierIn = s.rail.carrierIn
  ready   : u.power.supplyReady = s.power.supplyReady
  present : u.power.railPresent = s.power.railPresent
  host    : u.host = s.host

/-- A full reset reads nothing else, but for the local time and the free values drawn (R26). -/
theorem State.fullReset_congr (h : s.SameOutside u) (hnow : u.clock.now = s.clock.now) (hfree : u.freeCount = s.freeCount)
    (pins : BitVec 11) : u.fullReset pins = s.fullReset pins := by
  have hblocks : bootBlocks (freshKept (decodeStraps pins)) u = bootBlocks (freshKept (decodeStraps pins)) s := by
    unfold bootBlocks
    rw [hnow, hfree, h.pending, h.carrier, h.ready, h.present, h.host]
  rw [State.fullReset, State.fullReset, State.boot, State.boot, hblocks]

/-! ## What a restart keeps -/

/-- R173: an outstanding request ends. -/
theorem Remote.afterRestart_eq (r : Remote) : r.afterRestart = { r with
    state := if r.state = .queued ∨ r.state = .awaiting then .restarted else r.state
    deadlineFrom := none, restartFrom := none, restartAnswer := none } := by
  unfold Remote.afterRestart
  cases r.state <;> rfl

/-- R182: the flags of listen-only. -/
theorem restartFlags_eq : restartFlags = 7#28 := by decide

/-- `u` is `s` but for the clock, the counters and the channel, whose carrier stands. -/
structure State.BeforeRestart (s u : State) : Prop where
  frame   : u = { s with clock := u.clock, counters := u.counters, rail := u.rail }
  carrier : u.rail.carrierIn = s.rail.carrierIn

theorem State.BeforeRestart.outside (h : s.BeforeRestart u) : s.SameOutside u := by
  have hcarrier := h.carrier
  rw [h.frame] at hcarrier ⊢
  exact ⟨rfl, hcarrier, rfl, rfl, rfl⟩

/-! ## The commands -/

theorem exec_restartTimerExpiry (hp : s.powered = true) {t0 : Nat} (h : s.host.restartFrom = some t0) :
    exec .restartTimerExpiry s = .next (s.advanceTo (t0 + hostRestartTime)).restart := by
  rw [show exec .restartTimerExpiry s = execRestartTimerExpiry s from rfl, execRestartTimerExpiry, whilePowered_on hp, runOut_running h]

theorem exec_remoteRestartTimerExpiry (hp : s.powered = true) {t0 : Nat} (h : s.remote.restartFrom = some t0) :
    exec .remoteRestartTimerExpiry s = .next (s.advanceTo (t0 + remoteRestartTime)).restart := by
  rw [show exec .remoteRestartTimerExpiry s = execRemoteRestartTimerExpiry s from rfl, execRemoteRestartTimerExpiry, whilePowered_on hp,
    runOut_running h]

/-- The channel after a sending, before the sender's block is told (R19). -/
def State.sendingEnded (s : State) : State :=
  let s1 := s.stopSending.bump cSent
  ({ s1 with rail := { s1.rail with courtesy := true } } : State).syncHead

theorem State.sendingEnded_before (s : State) (c : Clock) : s.BeforeRestart (State.sendingEnded { s with clock := c }) := ⟨rfl, rfl⟩

/-- The ANSWER of a served RESTART has been sent (R168). -/
theorem State.completeSending_restarts {e : QEntry} {t0 : Nat} (hk : e.kind = .answer) (hr : s.remote.restartFrom = some t0)
    (ha : s.remote.restartAnswer = some e.id) : s.completeSending e = s.sendingEnded.restart := by
  have hremote : s.sendingEnded.remote = s.remote := rfl
  rw [show s.completeSending e = s.sendingEnded.entrySent e from rfl, State.entrySent, if_neg (by rw [hk]; decide),
    if_pos ⟨by rw [hremote, hr]; rfl, by rw [hremote, ha]⟩]

theorem exec_sendComplete_sending (hp : s.powered = true) {x : Sending} (hx : s.rail.sending = some x) :
    exec .sendComplete s = .next ((s.advanceTo (x.startedAt + charTime * x.frame.length)).completeSending x.entry) := by
  rw [show exec .sendComplete s = execSendComplete s from rfl, execSendComplete, whilePowered_on hp, hx]

/-- The first RESTART offers the notice and starts the timer (R177). -/
theorem exec_restart_first (hp : s.powered = true) (ht : s.host.taken = false) (h : s.host.restartFrom = none) :
    exec .restart s = .next ((({ s with host := { s.host with restartFrom := some s.clock.now } } : State).offerBurst .notice
      [4, 0]).withReply .ok []) := by
  rw [show exec .restart s = execRestart s from rfl, execRestart, onRequest_next _ hp ht, State.requestRestart, h]
  rfl

/-- A further one only answers. -/
theorem exec_restart_again (hp : s.powered = true) (ht : s.host.taken = false) {t0 : Nat} (h : s.host.restartFrom = some t0) :
    exec .restart s = .next (s.withReply .ok []) := by
  rw [show exec .restart s = execRestart s from rfl, execRestart, onRequest_next _ hp ht, State.requestRestart, h]

/-- Settles O58: both resets restore the blocks; then what each keeps, and the commands that restart. -/
theorem resetsRestoreTheirValues : Obligations.ResetsRestoreTheirValues := by
  intro s renewed
  have hrenewed : ∀ (u : State) (k : Kept), s.SameOutside u → k.remote.restartFrom = none → renewed (u.boot k) := by
    intro u k h hk
    have hpower := u.boot_power k
    have hoffer := (u.boot_offer k).2
    rw [h.ready, h.present] at hpower hoffer
    refine ⟨rfl, h.pending, ?rail, rfl, rfl, u.boot_joinFrom k, rfl, rfl, rfl, rfl, rfl, rfl, rfl, u.boot_reason k, u.boot_summary k,
      u.boot_lanes k, rfl, hpower, (u.boot_loads k).1, (u.boot_loads k).2, (u.boot_offer k).1, hoffer, rfl, rfl, rfl, rfl, rfl, rfl, rfl,
      hk, rfl, rfl, ?taken, ?cut, rfl, u.boot_round k⟩
    case rail =>
      show bootRail u.clock.now u.rail.carrierIn = _
      rw [h.carrier]
      rfl
    case taken =>
      show u.host.taken = _
      rw [h.host]
    case cut =>
      show u.host.cutReply = _
      rw [h.host]
      rfl
  refine ⟨fun pins => ⟨_, rfl, hrenewed s _ ⟨rfl, rfl, rfl, rfl, rfl⟩ rfl, rfl, rfl, rfl, rfl, rfl, rfl, rfl, rfl, rfl, ?_, rfl⟩,
    fun pins u hnow hcarrier hready hpresent hhost hfree hpending =>
      congrArg Host.Outcome.next (State.fullReset_congr ⟨hpending, hcarrier, hready, hpresent, hhost⟩ hnow hfree pins),
    fun hp => ?_⟩
  · show (if decide ((decodeStraps pins).addr = 0) = true then JoinState.listenOnly else .joining) = _
    simp only [decide_eq_true_eq]
    rfl
  · intro restarted
    have hrestarted : ∀ {c : Instr} {due : Nat} {u : State} {k : Counters}, exec c s = .next u.restart → s.BeforeRestart u →
        u.clock = (s.advanceTo due).clock → u.counters = k → restarted c due k := by
      intro c due u k hexec h hclock hcounters
      refine ⟨_, hexec, hrenewed u _ h.outside rfl, hclock, hcounters, ?straps, ?items, ?round, ?motion, ?play, ?mic, ?remote, ?join,
        ?sticky⟩
      case remote =>
        show u.remote.afterRestart = _
        rw [Remote.afterRestart_eq, h.frame]
      case join =>
        show (if decide (u.roster.join = .listenOnly) = true then JoinState.listenOnly else .joining) = _
        rw [h.frame]
        simp only [decide_eq_true_eq]
      case sticky =>
        show u.host.sticky &&& restartFlags = _
        rw [restartFlags_eq, h.frame]
      all_goals rw [h.frame]; rfl
    refine ⟨fun t0 ht => ?_, fun t0 ht => ?_, fun x t0 ht hx hk ha => ?_, exec_restart_first hp,
      fun t0 ht => exec_restart_again hp ht⟩
    · obtain ⟨c, hc⟩ : ∃ c, s.advanceTo (t0 + 50000) = { s with clock := c } := ⟨_, rfl⟩
      have hexec := exec_restartTimerExpiry hp ht
      rw [show hostRestartTime = 50000 from rfl, hc] at hexec
      exact hrestarted hexec ⟨rfl, rfl⟩ (congrArg State.clock hc).symm rfl
    · obtain ⟨c, hc⟩ : ∃ c, s.advanceTo (t0 + 200000) = { s with clock := c } := ⟨_, rfl⟩
      have hexec := exec_remoteRestartTimerExpiry hp ht
      rw [show remoteRestartTime = 200000 from rfl, hc] at hexec
      exact hrestarted hexec ⟨rfl, rfl⟩ (congrArg State.clock hc).symm rfl
    · obtain ⟨c, hc⟩ : ∃ c, s.advanceTo (x.startedAt + 176 * x.frame.length) = { s with clock := c } := ⟨_, rfl⟩
      have hexec := exec_sendComplete_sending hp hx
      rw [show charTime = 176 from rfl, hc, State.completeSending_restarts (s := { s with clock := c }) hk ht ha] at hexec
      exact hrestarted hexec (s.sendingEnded_before c) (congrArg State.clock hc).symm rfl

end Sys2Proof.Machine
end

section
/-! SUPPORT. The loads (R75 to R79): only the load planner, a raise and a reset write them. Every other operation leaves them as they
are; one equation for each says so. -/

namespace Sys2Proof.Machine

section
variable (s : State)

/-! ## Single updates -/

@[simp] theorem State.drawFrame_loads : s.drawFrame.2.loads = s.loads := rfl
@[simp] theorem State.endRemote_loads (r : RemoteState) : (s.endRemote r).loads = s.loads := rfl
@[simp] theorem State.raiseSlew_loads (n : Nat) : (s.raiseSlew n).loads = s.loads := rfl

/-! ## The transmit queue and the ends of requests -/

@[simp] theorem State.askGivenUp_loads : s.askGivenUp.loads = s.loads := by
  unfold State.askGivenUp; split <;> simp
@[simp] theorem State.tellDiscarded_loads (e : QEntry) : (s.tellDiscarded e).loads = s.loads := by
  unfold State.tellDiscarded; split <;> simp
@[simp] theorem State.addEntry_loads (k : BurstKind) (p : List Byte) : (s.addEntry k p).loads = s.loads := by
  simp [State.addEntry]
@[simp] theorem State.offerBurst_loads (k : BurstKind) (p : List Byte) : (s.offerBurst k p).loads = s.loads := by
  unfold State.offerBurst; (repeat' split) <;> simp
@[simp] theorem State.offerNotice_loads (k : Byte) (d : Nat) : (s.offerNotice k d).loads = s.loads := by
  simp [State.offerNotice]
@[simp] theorem State.askSent_loads : s.askSent.loads = s.loads := by
  unfold State.askSent; split <;> simp
@[simp] theorem State.answerArrives_loads (a : Addr) (p : List Byte) : (s.answerArrives a p).loads = s.loads := by
  unfold State.answerArrives; (repeat' split) <;> simp
@[simp] theorem State.noteRestartAnswer_loads (n : Nat) : (s.noteRestartAnswer n).loads = s.loads := by
  unfold State.noteRestartAnswer; split <;> simp
@[simp] theorem State.readCounter_loads (g i : Nat) : (s.readCounter g i).state.loads = s.loads := by
  unfold State.readCounter; split <;> simp
@[simp] theorem State.startRemote_loads (a b c : Byte) (v : Half) : (s.startRemote a b c v).loads = s.loads := by
  simp [State.startRemote]
@[simp] theorem State.silence_loads : s.silence.loads = s.loads := by
  unfold State.silence; dsimp only; split <;> simp
@[simp] theorem State.requestRestart_loads : s.requestRestart.loads = s.loads := by
  unfold State.requestRestart; split <;> simp

/-! ## The rail channel -/

@[simp] theorem State.abandon_loads (c : Counter) : (s.abandon c).loads = s.loads := by simp [State.abandon]
@[simp] theorem State.gapIfDue_loads : s.gapIfDue.loads = s.loads := by
  unfold State.gapIfDue; (repeat' split) <;> simp
@[simp] theorem State.takeStartMark_loads (a b : Nat) : (s.takeStartMark a b).loads = s.loads := by simp [State.takeStartMark]
@[simp] theorem State.giveUpEntry_loads (e : QEntry) : (s.giveUpEntry e).loads = s.loads := by simp [State.giveUpEntry]
@[simp] theorem State.clash_loads (x : Sending) : (s.clash x).loads = s.loads := by
  unfold State.clash; dsimp only; split <;> simp
@[simp] theorem State.compareSent_loads (x : Sending) (d : Byte) (b : Bool) : (s.compareSent x d b).loads = s.loads := by
  unfold State.compareSent; (repeat' split) <;> simp
@[simp] theorem State.beginSending_loads (e : QEntry) (l : List QEntry) : (s.beginSending e l).loads = s.loads := by
  simp [State.beginSending]
@[simp] theorem State.dropHead_loads : s.dropHead.loads = s.loads := by
  unfold State.dropHead; split <;> simp

/-! ## Supply and loads -/

@[simp] theorem State.announceOffer_loads : s.announceOffer.loads = s.loads := by
  unfold State.announceOffer; split <;> simp
@[simp] theorem State.announceClaim_loads : s.announceClaim.loads = s.loads := by
  unfold State.announceClaim; split <;> simp
@[simp] theorem State.runAllowances_loads : s.runAllowances.loads = s.loads := by
  rw [State.runAllowances_eq]; split <;> simp
@[simp] theorem State.checkSupply_loads : s.checkSupply.loads = s.loads := by rw [State.checkSupply_eq]
@[simp] theorem State.handLevels_loads (l : Levels) : (s.handLevels l).loads = s.loads := by
  rw [State.handLevels_eq]; split <;> simp
@[simp] theorem State.syncAudioPower_loads : s.syncAudioPower.loads = s.loads := by
  rw [State.syncAudioPower_eq]; (repeat' split) <;> simp
@[simp] theorem State.beginTrip_loads (d : Nat) (b : Bool) : (s.beginTrip d b).loads = s.loads := by simp [State.beginTrip]
@[simp] theorem State.judgeDroop_loads (b : Bool) : (s.judgeDroop b).loads = s.loads := by
  unfold State.judgeDroop; dsimp only; split <;> simp
@[simp] theorem State.judgeCritical_loads (n : Nat) : (s.judgeCritical n).loads = s.loads := by
  unfold State.judgeCritical; split <;> simp
@[simp] theorem State.noteOverdraw_loads (n : Nat) : (s.noteOverdraw n).loads = s.loads := by
  unfold State.noteOverdraw; (repeat' split) <;> simp
@[simp] theorem State.trip_loads (d : Nat) : (s.trip d).loads = s.loads := by
  unfold State.trip; dsimp only; split <;> simp
@[simp] theorem State.measureCurrent_loads (n : Nat) : (s.measureCurrent n).loads = s.loads := by
  unfold State.measureCurrent; dsimp only; (repeat' split) <;> simp

@[simp] theorem State.settleClaimList_loads : s.settleClaimList.loads = s.loads := by
  unfold State.settleClaimList; split <;> simp
@[simp] theorem State.lowerCeiling_loads : s.lowerCeiling.loads = s.loads := by
  unfold State.lowerCeiling; (repeat' split) <;> simp

/-! ## Lanes and slices -/

@[simp] theorem State.feedSlice_loads : s.feedSlice.loads = s.loads := by
  unfold State.feedSlice; (repeat' split) <;> simp
@[simp] theorem State.feedSlices_loads : s.feedSlices.loads = s.loads := by simp [State.feedSlices]
@[simp] theorem State.syncSchedule_loads : s.syncSchedule.loads = s.loads := by
  rw [State.syncSchedule_eq]; split <;> simp
@[simp] theorem State.refuseSlice_loads (b : Byte) (c : Counter) : (s.refuseSlice b c).loads = s.loads := by
  simp [State.refuseSlice]
@[simp] theorem State.acceptSlice_loads (a : Anchor) (n k : Nat) (b : List Byte) : (s.acceptSlice a n k b).loads = s.loads := by
  unfold State.acceptSlice; dsimp only; split <;> simp
@[simp] theorem State.judgeSlice_loads (a : Anchor) (g : Grade) (k : Nat) (b : List Byte) :
    (s.judgeSlice a g k b).loads = s.loads := by unfold State.judgeSlice; (repeat' split) <;> simp
@[simp] theorem State.submitSlice_loads (st : Bool) (k : Nat) (b : List Byte) : (s.submitSlice st k b).loads = s.loads := by
  unfold State.submitSlice; dsimp only; (repeat' split) <;> simp
@[simp] theorem State.sliceArrives_loads (f : Half) (k pt : Nat) (b : List Byte) :
    (s.sliceArrives f k pt b).loads = s.loads := by unfold State.sliceArrives; dsimp only; (repeat' split) <;> simp
@[simp] theorem State.freePassedOver_loads (n : Half) (k : Nat) : (s.freePassedOver n k).loads = s.loads := by
  unfold State.freePassedOver; dsimp only; (repeat' split) <;> simp
@[simp] theorem State.showAgain_loads (n : Half) (k t : Nat) : (s.showAgain n k t).loads = s.loads := by
  unfold State.showAgain; dsimp only; (repeat' split) <;> simp
@[simp] theorem State.showIndex_loads (n : Half) (k t : Nat) : (s.showIndex n k t).loads = s.loads := by
  unfold State.showIndex; dsimp only; (repeat' split) <;> simp
@[simp] theorem State.makeFrameShown_loads (n t r : Nat) : (s.makeFrameShown n t r).loads = s.loads := by
  unfold State.makeFrameShown; split <;> simp
@[simp] theorem State.nextScan_loads (a n k : Nat) : (s.nextScan a n k).loads = s.loads := by
  unfold State.nextScan; dsimp only; split <;> simp
@[simp] theorem State.scanIndex_loads (a : Nat) : (s.scanIndex a).loads = s.loads := by simp [State.scanIndex]
@[simp] theorem State.scanStep_loads (n : Nat) : (s.scanStep n).loads = s.loads := by
  unfold State.scanStep; dsimp only; (repeat' split) <;> simp
@[simp] theorem State.frameShownArrives_loads (r : FrameShown) : (s.frameShownArrives r).loads = s.loads := rfl
@[simp] theorem State.forwardPacket_loads (l : Lane) (p : Packet) : (s.forwardPacket l p).loads = s.loads := by
  unfold State.forwardPacket; split <;> simp

/-! ## Motion -/

@[simp] theorem State.noteRange_loads (r : MotionRecord) : (s.noteRange r).loads = s.loads := by
  unfold State.noteRange; split <;> simp
@[simp] theorem State.countReplaced_loads (l : Lane) (k : PacketKind) (c : Counter) :
    (s.countReplaced l k c).loads = s.loads := by unfold State.countReplaced; split <;> simp
@[simp] theorem State.carryRecord_loads (r : MotionRecord) : (s.carryRecord r).loads = s.loads := by
  unfold State.carryRecord; dsimp only; split <;> simp
@[simp] theorem State.endRead_loads : s.endRead.loads = s.loads := by
  unfold State.endRead; dsimp only; split <;> simp
@[simp] theorem State.completeRead_loads (r : SensorRead) (a : Axes) : (s.completeRead r a).loads = s.loads := by
  simp [State.completeRead]
@[simp] theorem State.queueRecord_loads (r : MotionRecord) : (s.queueRecord r).loads = s.loads := by
  unfold State.queueRecord; dsimp only; split <;> simp
@[simp] theorem State.emptyMotionQueue_loads : s.emptyMotionQueue.loads = s.loads := by
  unfold State.emptyMotionQueue; dsimp only; split <;> simp
@[simp] theorem State.recordArrives_loads (r : MotionRecord) : (s.recordArrives r).loads = s.loads := by
  unfold State.recordArrives; (repeat' split) <;> simp
@[simp] theorem State.offerFallback_loads : s.offerFallback.loads = s.loads := by
  unfold State.offerFallback; (repeat' split) <;> simp

/-! ## Audio -/

@[simp] theorem State.closePlayBlock_loads (l : List (Half × Half)) : (s.closePlayBlock l).loads = s.loads := by
  unfold State.closePlayBlock; dsimp only; split <;> simp
@[simp] theorem State.enterPlaying_loads : s.enterPlaying.loads = s.loads := rfl
@[simp] theorem State.startIfDue_loads : s.startIfDue.loads = s.loads := by
  unfold State.startIfDue; (repeat' split) <;> simp
@[simp] theorem State.judgeHead_loads : s.judgeHead.loads = s.loads := by
  unfold State.judgeHead; dsimp only; split <;> simp
@[simp] theorem State.audioArrives_loads (q : Half) (t : Nat) (l : List (Half × Half)) :
    (s.audioArrives q t l).loads = s.loads := by unfold State.audioArrives; dsimp only; (repeat' split) <;> simp
@[simp] theorem State.keepLastFrame_loads : s.keepLastFrame.loads = s.loads := by
  unfold State.keepLastFrame; split <;> simp
@[simp] theorem State.enterRamping_loads : s.enterRamping.loads = s.loads := by simp [State.enterRamping]
@[simp] theorem State.removeHeadFrame_loads : s.removeHeadFrame.loads = s.loads := by
  unfold State.removeHeadFrame; (repeat' split) <;> simp
@[simp] theorem State.playFrame_loads (f : Half × Half) : (s.playFrame f).loads = s.loads := by
  unfold State.playFrame; dsimp only; split <;> simp
@[simp] theorem State.rampPeriod_loads (n : Nat) : (s.rampPeriod n).loads = s.loads := by
  unfold State.rampPeriod; dsimp only; split <;> simp
@[simp] theorem State.outputPeriod_loads : s.outputPeriod.loads = s.loads := by
  unfold State.outputPeriod; (repeat' split) <;> simp
@[simp] theorem State.slip_loads : s.slip.loads = s.loads := by
  unfold State.slip; (repeat' split) <;> simp
@[simp] theorem State.audioStep_loads : s.audioStep.loads = s.loads := by
  unfold State.audioStep; (repeat' split) <;> simp
@[simp] theorem State.closeMicBlock_loads (t : Nat) (l : List Half) : (s.closeMicBlock t l).loads = s.loads := by
  unfold State.closeMicBlock; dsimp only; split <;> simp
@[simp] theorem State.captureSample_loads (v : Half) : (s.captureSample v).loads = s.loads := by
  unfold State.captureSample; dsimp only; (repeat' split) <;> simp
@[simp] theorem State.micArrives_loads (t : Nat) (l : List Half) : (s.micArrives t l).loads = s.loads := by
  unfold State.micArrives; dsimp only; split <;> simp

/-! ## Packets and the clock -/

@[simp] theorem State.packetArrives_loads (k : PacketKind) (b : List Byte) : (s.packetArrives k b).loads = s.loads := by
  unfold State.packetArrives; dsimp only; split <;> simp
@[simp] theorem State.takePacket_loads (l : Lane) (b : List Byte) : (s.takePacket l b).loads = s.loads := by
  unfold State.takePacket; (repeat' split) <;> simp
@[simp] theorem State.restartDoze_loads (l : Lane) : (s.restartDoze l).loads = s.loads := by
  unfold State.restartDoze; split <;> simp
@[simp] theorem State.countSent_loads (l : Lane) (k : PacketKind) : (s.countSent l k).loads = s.loads := by
  unfold State.countSent; dsimp only; (repeat' split) <;> simp
@[simp] theorem State.freeTransmitter_loads (l : Lane) : (s.freeTransmitter l).loads = s.loads := by
  unfold State.freeTransmitter; dsimp only; split <;> simp
@[simp] theorem State.stepClock_loads (n : Nat) : (s.stepClock n).loads = s.loads := by
  unfold State.stepClock; dsimp only; split
  · rw [State.audioStep_loads, State.scanStep_loads]
  · rfl
@[simp] theorem State.clockHears_loads (a b : Nat) : (s.clockHears a b).loads = s.loads := by
  obtain ⟨n, h⟩ | ⟨n, h⟩ | h := s.clockHears_cases a b <;> simp [h]

end

end Sys2Proof.Machine
end

section
/-! SUPPORT. The loads' form (R76, R77): what the planner, a raise and a reset leave has it, and every operation put together from them
keeps it. -/

namespace Sys2Proof.Machine

/-! ## The form after each writing of the loads -/

/-- A planned load stands at or below its target, its timer running exactly while it is below (R77). -/
theorem load_settled_of_plan (current target now : Nat) (timer : Option Nat) :
    dropTo current target ≤ target ∧
      ((raiseTimer (dropTo current target) target now timer).isSome ↔ dropTo current target < target) := by
  refine ⟨Nat.min_le_right _ _, ?_⟩
  unfold raiseTimer
  split
  · next h => simp [Nat.not_lt.2 h]
  · next h => cases timer <;> simp [Nat.lt_of_not_le h]

/-- Whatever the levels before, the planner leaves the form. -/
theorem Loads.settled_moveTo (t : Levels) (now : Nat) (l : Loads) : (l.moveTo t now).Settled :=
  ⟨rfl, load_settled_of_plan _ _ _ _, load_settled_of_plan _ _ _ _, load_settled_of_plan _ _ _ _⟩

/-- The levels of a reset are the targets (R79). -/
theorem bootLoads_settled (r : Role) : (bootLoads r).Settled := by
  have hstill : ∀ v : Nat, v ≤ v ∧ ((none : Option Nat).isSome ↔ v < v) := fun v => ⟨le_rfl, by simp⟩
  unfold bootLoads
  split <;> exact ⟨rfl, hstill _, hstill _, hstill _⟩

/-- A load one level higher, its timer afresh while it is still below its target (R77). -/
theorem Loads.Settled.raised {l : Loads} (h : l.Settled) {k : Load} (hk : l.current.get k < l.target.get k) (now : Nat) :
    (({ l with current := l.current.set k (l.current.get k + 1) } : Loads).setTimer k
      (if l.current.get k + 1 < l.target.get k then some now else none)).Settled := by
  obtain ⟨hlane, hpanel, haudio, hmotion⟩ := h
  have hnew : ∀ v t : Nat, v < t → v + 1 ≤ t ∧ ((if v + 1 < t then some now else none).isSome ↔ v + 1 < t) :=
    fun v t hv => ⟨hv, by split <;> simp [*]⟩
  cases k with
  | panel => exact ⟨hlane, hnew _ _ hk, haudio, hmotion⟩
  | audio => exact ⟨hlane, hpanel, hnew _ _ hk, hmotion⟩
  | motion => exact ⟨hlane, hpanel, haudio, hnew _ _ hk⟩

/-- A load that is not below its target has no timer to run. -/
theorem Loads.Settled.stopped {l : Loads} (h : l.Settled) {k : Load} (hk : ¬ l.current.get k < l.target.get k) :
    (l.setTimer k none).Settled := by
  obtain ⟨hlane, hpanel, haudio, hmotion⟩ := h
  have hstill : (none : Option Nat).isSome ↔ l.current.get k < l.target.get k := iff_of_false (by simp) hk
  cases k with
  | panel => exact ⟨hlane, ⟨hpanel.1, hstill⟩, haudio, hmotion⟩
  | audio => exact ⟨hlane, hpanel, ⟨haudio.1, hstill⟩, hmotion⟩
  | motion => exact ⟨hlane, hpanel, haudio, hmotion.1, hstill⟩

/-- The node's loads have their form. -/
def State.LoadsSettled (s : State) : Prop := s.loads.Settled

namespace State.LoadsSettled

variable {s t : State}

/-- An operation that leaves the loads. -/
theorem same (h : s.LoadsSettled) (ht : t.loads = s.loads) : t.LoadsSettled := by
  unfold State.LoadsSettled
  rw [ht]
  exact h

theorem withCap (h : s.LoadsSettled) (cap : Nat) : State.LoadsSettled { s with loads := { s.loads with cap := cap } } :=
  ⟨h.lane, h.panel, h.audio, h.motion⟩

theorem plan (h : s.LoadsSettled) : s.plan.LoadsSettled := by
  obtain ⟨l, m, hplan, -, hl⟩ := s.plan_frame
  rw [hplan]
  show l.Settled
  rw [hl]
  split
  · exact Loads.settled_moveTo _ _ _
  · exact h

theorem raiseLoad (h : s.LoadsSettled) (k : Load) : (s.raiseLoad k).LoadsSettled := by
  obtain ⟨m, hraised⟩ := s.raiseLoad_frame k
  rw [hraised]
  show Loads.Settled (if _ then _ else _)
  split
  · next hk => exact Loads.Settled.raised h hk _
  · next hk => exact Loads.Settled.stopped h hk

theorem boot (k : Kept) (s : State) : (s.boot k).LoadsSettled := bootLoads_settled _

/-! ## Agreement -/

theorem changeAgree (h : s.LoadsSettled) (st : AgreeState) (g : Option Grade) (r : Reason) :
    (s.changeAgree st g r).LoadsSettled := by
  obtain ⟨l, m, -, hl, hchanged⟩ := s.changeAgree_frame st g r
  rw [hchanged]
  show l.Settled
  rw [hl]
  split
  · exact Loads.settled_moveTo _ _ _
  · exact h

theorem halt (h : s.LoadsSettled) (r : Reason) : (s.halt r).LoadsSettled := h.changeAgree _ _ _

theorem enterTraining (h : s.LoadsSettled) : s.enterTraining.LoadsSettled := h.changeAgree _ _ _

theorem enterSettle (h : s.LoadsSettled) (round : Half) (r : Reason) : ((s.setRound round).enterSettle r).LoadsSettled :=
  changeAgree (s := s.setRound round) (h.same rfl) _ _ _

theorem openRound (h : s.LoadsSettled) (r : Reason) : (s.openRound r).LoadsSettled := by
  unfold State.openRound
  (repeat' split)
  · exact h.halt _
  · exact h.halt _
  · exact h.enterSettle _ _

theorem pathChanged (h : s.LoadsSettled) : s.pathChanged.LoadsSettled := by
  unfold State.pathChanged
  split
  · exact h.openRound _
  · exact h

theorem ownSetChanged (h : s.LoadsSettled) : s.ownSetChanged.LoadsSettled := by
  unfold State.ownSetChanged
  (repeat' split)
  · exact h.halt _
  · exact h.openRound _
  · exact h

theorem enterRunning (h : s.LoadsSettled) : s.enterRunning.LoadsSettled := by
  have hrun : ∀ u : State, u.LoadsSettled → (({ u with agree := { u.agree with
      failures := 0, laneFaults := 0, lastRun := u.agree.chosen } } : State).changeAgree .running u.agree.chosen
        u.agree.reason).setAnchor.LoadsSettled := fun u hu => by
    have hchanged := changeAgree (s := { u with agree := { u.agree with
      failures := 0, laneFaults := 0, lastRun := u.agree.chosen } }) (hu.same rfl) .running u.agree.chosen u.agree.reason
    unfold State.setAnchor
    split
    · exact hchanged.same rfl
    · exact hchanged
  unfold State.enterRunning
  dsimp only
  split
  · exact hrun s h
  · exact hrun (s.raise .modeChanged) (h.same rfl)

theorem receiverReported (h : s.LoadsSettled) : s.receiverReported.LoadsSettled := by
  unfold State.receiverReported
  (repeat' split)
  · exact h.enterRunning
  · exact h
  · exact h
  · exact h.openRound _
  · exact h

/-! ## Cap and mode set -/

theorem handIfChanged (h : s.LoadsSettled) (quiet : Bool) (l : List Grade) (c : Grade) :
    (s.handIfChanged quiet l c).LoadsSettled := by
  have hwritten : (s.writeModeSet l c).LoadsSettled := h.same rfl
  unfold State.handIfChanged State.handModeSet
  (repeat' split)
  · exact h
  · exact hwritten
  · exact hwritten.ownSetChanged

theorem formModeSet (h : s.LoadsSettled) (quiet : Bool) : (s.formModeSet quiet).LoadsSettled := by
  unfold State.formModeSet
  split
  · exact h.handIfChanged _ _ _
  · exact h
  · exact handIfChanged (h.same (by rfl)) _ _ _

theorem formCap (h : s.LoadsSettled) : s.formCap.LoadsSettled := by
  unfold State.formCap State.handCap
  (repeat' split)
  · exact h.same (by simp)
  · exact ((h.withCap s.effectiveCap).plan).same (by simp)
  · exact h

theorem reform (h : s.LoadsSettled) : s.reform.LoadsSettled := (h.formModeSet false).formCap

theorem powerTold (h : s.LoadsSettled) : s.powerTold.LoadsSettled := reform (h.same (by simp))

theorem settleOffer (h : s.LoadsSettled) : s.settleOffer.LoadsSettled := by
  unfold State.settleOffer
  split
  · exact h
  · exact powerTold (h.same (by simp))

theorem settleClaim (h : s.LoadsSettled) : s.settleClaim.LoadsSettled := reform (h.same (by simp))

/-! ## Rounds -/

theorem failRound (h : s.LoadsSettled) (r : Reason) : (s.failRound r).LoadsSettled := ((h.formModeSet true).openRound r).formCap

theorem confirmFailure (h : s.LoadsSettled) : s.confirmFailure.LoadsSettled := by
  unfold State.confirmFailure
  split
  · exact failRound (h.same (by rfl)) _
  · exact openRound (h.same (by rfl)) _

theorem trainingFailure (h : s.LoadsSettled) : s.trainingFailure.LoadsSettled := by
  unfold State.trainingFailure
  dsimp only
  split
  · exact failRound (h.same (by exact State.lowerCeiling_loads _)) _
  · exact failRound (h.same (by rfl)) _

theorem judgeConfirms (h : s.LoadsSettled) : s.judgeConfirms.LoadsSettled := by
  unfold State.judgeConfirms
  dsimp only
  (repeat' split)
  · exact h.confirmFailure
  · exact h.enterTraining
  · exact h

theorem enterConfirming (h : s.LoadsSettled) (g : Grade) : (s.enterConfirming g).LoadsSettled :=
  judgeConfirms ((h.changeAgree .confirming (some g) s.agree.reason).same (by simp))

theorem choose (h : s.LoadsSettled) : s.choose.LoadsSettled := by
  unfold State.choose
  (repeat' split)
  · exact h.halt _
  · exact h.halt _
  · exact h.enterConfirming _

theorem startListen (h : s.LoadsSettled) : s.startListen.LoadsSettled :=
  (changeAgree (s := s.noteListened) (h.same rfl) .listen none s.agree.reason).same (by simp [State.startListen, State.writeRound])

theorem enterListen (h : s.LoadsSettled) : s.enterListen.LoadsSettled := by
  unfold State.enterListen
  split
  · exact h.startListen.choose
  · exact h.startListen

theorem takeStepDue (h : s.LoadsSettled) : s.takeStepDue.LoadsSettled := by
  unfold State.takeStepDue
  (repeat' split)
  · exact h.enterListen
  · exact h
  · exact h.choose
  · exact h
  · exact h.confirmFailure
  · exact h
  · exact h

theorem endBaseForced (h : s.LoadsSettled) : s.endBaseForced.LoadsSettled := by
  unfold State.endBaseForced
  dsimp only
  split
  · exact reform (h.same rfl)
  · exact h.takeStepDue

theorem adopt (h : s.LoadsSettled) (r : Half) : (s.adopt r).LoadsSettled := by
  have hround : (s.setRound r).LoadsSettled := h.same rfl
  unfold State.adopt
  dsimp only
  (repeat' split)
  · exact hround
  · exact hround.halt _
  · exact h.enterSettle _ _

theorem roundHeard (h : s.LoadsSettled) (confirm : Bool) (r : Half) : (s.roundHeard confirm r).LoadsSettled := by
  unfold State.roundHeard
  (repeat' split)
  · exact h
  · exact h.adopt _
  · exact h
  · exact h.choose
  · exact h
  · exact h.judgeConfirms
  · exact h

/-! ## Supply -/

theorem endTripHold (h : s.LoadsSettled) : s.endTripHold.LoadsSettled := settleOffer (h.same rfl)

theorem enterTripHold (h : s.LoadsSettled) : s.enterTripHold.LoadsSettled := settleOffer (h.same rfl)

theorem closeSwitch (h : s.LoadsSettled) : s.closeSwitch.LoadsSettled := settleOffer (h.same rfl)

theorem openSwitch (h : s.LoadsSettled) (latch : Bool) : (s.openSwitch latch).LoadsSettled := settleOffer (h.same rfl)

theorem followInputs (h : s.LoadsSettled) : s.followInputs.LoadsSettled := settleOffer (h.same rfl)

theorem readyChanged (h : s.LoadsSettled) : s.readyChanged.LoadsSettled := by
  unfold State.readyChanged
  (repeat' split)
  · exact h
  · exact h.followInputs
  · exact h

theorem presentChanged (h : s.LoadsSettled) (was : Bool) : (s.presentChanged was).LoadsSettled := by
  unfold State.presentChanged
  (repeat' split)
  · exact h.same rfl
  · exact h.endTripHold
  · exact h
  · exact h.followInputs
  · exact h

theorem measureRail (h : s.LoadsSettled) (mv : Nat) : (s.measureRail mv).LoadsSettled := reform (h.same (by simp))

/-! ## Items and remote requests -/

theorem enableRail (h : s.LoadsSettled) : s.enableRail.LoadsSettled := by
  unfold State.enableRail
  dsimp only
  (repeat' split)
  · exact closeSwitch (h.same rfl)
  · exact h.same rfl
  · exact h.same rfl

theorem disableRail (h : s.LoadsSettled) : s.disableRail.LoadsSettled := by
  unfold State.disableRail
  (repeat' split)
  · exact h
  · exact h.same (by simp)
  · exact h.same rfl
  · exact (h.openSwitch true).same rfl

theorem itemWritten (h : s.LoadsSettled) (n : Nat) : (s.itemWritten n).LoadsSettled := by
  unfold State.itemWritten
  (repeat' split)
  · exact h.settleOffer
  · exact settleClaim (h.same rfl)
  · exact h.settleClaim.plan
  · exact h.plan
  · exact h.reform
  · exact h

theorem writeItem (h : s.LoadsSettled) (n : Nat) (v : Half) : (s.writeItem n v).state.LoadsSettled := by
  have happlied : ∀ v, (s.applyItem n v).LoadsSettled := fun v => by
    unfold State.applyItem
    (repeat' split)
    · exact h.disableRail
    · exact h.enableRail
    · exact itemWritten (h.same (by rfl)) n
  unfold State.writeItem
  (repeat' split)
  · exact h
  · exact h
  · exact happlied _
  · exact h

theorem serveOperation (h : s.LoadsSettled) (op item : Byte) (v : Half) : (s.serveOperation op item v).state.LoadsSettled := by
  unfold State.serveOperation
  (repeat' split)
  · exact h
  · exact h.writeItem _ _
  · exact h.same (by simp)
  · exact h.same rfl
  · exact h

theorem askArrives (h : s.LoadsSettled) (a : Addr) (p : List Byte) : (s.askArrives a p).LoadsSettled := by
  have hserved := h.serveOperation (byteAt p 2) (byteAt p 3) (halfAt p 4)
  unfold State.askArrives State.serveAsk
  dsimp only
  (repeat' split)
  · exact hserved.same (by simp)
  · exact hserved.same (by simp)
  · exact h

/-! ## Roster -/

theorem clashFound (h : s.LoadsSettled) (f : Flag) : (s.clashFound f).LoadsSettled := by
  unfold State.clashFound State.enterListenOnly
  dsimp only
  (repeat' split)
  · exact h.same rfl
  · exact halt (h.same (by simp)) _
  · exact h.same (by simp)

theorem tellChange (h : s.LoadsSettled) (old new : Option Entry) : (s.tellChange old new).LoadsSettled := by
  have hpower : ∀ b, (s.tellPower b).LoadsSettled := fun b => by
    unfold State.tellPower
    split
    · exact h.powerTold
    · exact h
  have hpath : ∀ u : State, u.LoadsSettled → ∀ b, (u.tellPath b).LoadsSettled := fun u hu b => by
    unfold State.tellPath
    split
    · exact hu.pathChanged
    · exact hu
  exact (hpath _ (hpower _) _).same (State.syncSchedule_loads _)

theorem removeEntry (h : s.LoadsSettled) (e : Entry) : (s.removeEntry e).LoadsSettled := tellChange (h.same (by rfl)) _ _

theorem tellRound (h : s.LoadsSettled) (b : Heard) (e : Entry) : (s.tellRound b e).LoadsSettled := by
  unfold State.tellRound
  (repeat' split)
  · exact h.roundHeard _ _
  · exact h
  · exact h.roundHeard _ _
  · exact h
  · exact h

theorem updateEntry (h : s.LoadsSettled) (b : Heard) (old : Option Entry) : (s.updateEntry b old).LoadsSettled :=
  (tellChange (h.same (by rfl)) _ _).tellRound _ _

theorem rosterTakes (h : s.LoadsSettled) (b : Heard) : (s.rosterTakes b).LoadsSettled := by
  unfold State.rosterTakes
  dsimp only
  (repeat' split)
  · exact h.removeEntry _
  · exact h
  · exact h.updateEntry _ _
  · exact h
  · exact updateEntry (h.same (by rfl)) _ _

theorem rosterHears (h : s.LoadsSettled) (b : Heard) : (s.rosterHears b).LoadsSettled := by
  have hjudged : (if s.roleClash b then s.clashFound .roleClash else s).LoadsSettled := by
    split
    · exact h.clashFound _
    · exact h
  unfold State.rosterHears
  dsimp only
  generalize (if s.roleClash b then s.clashFound .roleClash else s) = u at hjudged ⊢
  (repeat' split)
  · exact h.clashFound _
  · exact hjudged
  · exact (hjudged.rosterTakes b).same (State.clockHears_loads _ _ _)
  · exact hjudged.rosterTakes b

theorem noticeArrives (h : s.LoadsSettled) (a : Addr) (kind detail : Byte) : (s.noticeArrives a kind detail).LoadsSettled := by
  unfold State.noticeArrives
  dsimp only
  (repeat' split)
  · exact reform (h.same rfl)
  · exact h.same rfl
  · exact enterTripHold (h.same rfl)
  · exact h.same rfl
  · exact h.same rfl
  · exact h

theorem burstAccepted (h : s.LoadsSettled) (b : Heard) : (s.burstAccepted b).LoadsSettled := by
  have hheard : ((s.bump cReceived).rosterHears b).LoadsSettled := rosterHears (h.same (by rfl)) b
  unfold State.burstAccepted State.contentArrives
  (repeat' split)
  · exact hheard.noticeArrives _ _ _
  · exact hheard.askArrives _ _
  · exact hheard.same (by simp)
  · exact hheard.same (by simp)
  · exact hheard
  · exact hheard

theorem becomeActive (h : s.LoadsSettled) : s.becomeActive.LoadsSettled := by
  have hoffered : s.firstOffered.LoadsSettled := h.same (by simp [State.firstOffered, State.joined, State.offerBeacon])
  rw [State.becomeActive_eq]
  split
  · exact (hoffered.openRound .joinDone).same (by simp)
  · exact hoffered.same (by simp)

/-! ## Rail -/

theorem judgeBurst (h : s.LoadsSettled) (a : Assembly) : (s.judgeBurst a).LoadsSettled := by
  unfold State.judgeBurst
  (repeat' split)
  · exact h.same (by simp)
  · exact burstAccepted (h.same (by rfl)) _
  · exact h.same (by simp)
  · exact h.same (by simp)

theorem hear (h : s.LoadsSettled) (d : Byte) (bad : Bool) (tether start : Nat) : (s.hear d bad tether start).LoadsSettled := by
  unfold State.hear State.assemble
  dsimp only
  (repeat' split)
  · exact h.same (by simp)
  · exact h
  · exact h.same (by simp)
  · exact h.same (by simp)
  · exact h.judgeBurst _
  · exact h.same rfl

theorem completeSending (h : s.LoadsSettled) (e : QEntry) : (s.completeSending e).LoadsSettled := by
  unfold State.completeSending State.entrySent
  dsimp only
  (repeat' split)
  · exact h.same (by simp)
  · exact boot _ _
  · exact h.same (by simp)

end State.LoadsSettled

end Sys2Proof.Machine
end

section
/-! SUPPORT. The loads command by command: a reset gives them their form, and every other command keeps it, and so every step. Settles
O11. -/

namespace Sys2Proof.Machine

open Host (Outcome)

/-- If the outcome is a next state, its loads have their form. -/
def SettledNext (o : Outcome State Fault Refusal) : Prop := ∀ t, o = .next t → t.LoadsSettled

variable {s : State}

/-! ## The shared forms of a command -/

theorem settledNext_next (h : s.LoadsSettled) : SettledNext (.next s) := by
  rintro t ⟨⟩
  exact h

theorem whilePowered_settled (h : s.LoadsSettled) {act : State → State} (ha : (act s).LoadsSettled) :
    SettledNext (whilePowered s act) := by
  refine settledNext_next ?_
  split
  · exact ha
  · exact h

theorem onRequest_settled (h : s.LoadsSettled) {act : State → State} (ha : (act s).LoadsSettled) :
    SettledNext (onRequest s act) := by
  refine whilePowered_settled h ?_
  split
  · exact h
  · exact ha

/-- A command that leaves the loads. -/
theorem whilePowered_loads (h : s.LoadsSettled) {act : State → State} (ha : (act s).loads = s.loads) :
    SettledNext (whilePowered s act) := whilePowered_settled h (h.same ha)

/-- A request that leaves the loads. -/
theorem onRequest_loads (h : s.LoadsSettled) {act : State → State} (ha : (act s).loads = s.loads) :
    SettledNext (onRequest s act) := onRequest_settled h (h.same ha)

/-- A timer's expiry keeps the form if what it does keeps it, whenever it was due. -/
theorem runOut_settled (h : s.LoadsSettled) {start : Option Nat} {span : Nat} {act : Nat → State → State}
    (ha : ∀ due u, u.LoadsSettled → (act due u).LoadsSettled) : (runOut start span s act).LoadsSettled := by
  unfold runOut
  split
  · exact h
  · exact ha _ _ (h.same rfl)

/-- A timer's expiry that leaves the loads. -/
theorem runOut_loads {start : Option Nat} {span : Nat} {act : Nat → State → State} (ha : ∀ due u, (act due u).loads = u.loads) :
    (runOut start span s act).loads = s.loads := by
  unfold runOut
  split
  · rfl
  · exact ha _ _

theorem stepOver_settled (h : s.LoadsSettled) {st : AgreeState} {span : Nat} {act : State → State}
    (ha : ∀ u, u.LoadsSettled → (act u).LoadsSettled) : SettledNext (whilePowered s (State.stepOver st span act)) := by
  refine whilePowered_settled h ?_
  unfold State.stepOver
  split
  · exact runOut_settled h fun _ u hu => ha u hu
  · exact h

/-! ## The commands that reach the loads -/

section commands

variable (h : s.LoadsSettled)
include h

theorem execCharacterReceived_settled (data : Byte) (parity stopOk : Bool) :
    SettledNext (execCharacterReceived data parity stopOk s) := by
  refine whilePowered_settled h ?_
  split
  · exact h.same (by simp)
  · exact State.LoadsSettled.hear (h.same (by simp)) _ _ _ _

theorem execSendComplete_settled : SettledNext (execSendComplete s) := by
  refine whilePowered_settled h ?_
  split
  · exact h
  · exact State.LoadsSettled.completeSending (h.same (by rfl)) _

theorem execPeerLeft_settled (peer : Addr) : SettledNext (execPeerLeft peer s) := by
  refine whilePowered_settled h ?_
  split
  · exact h
  · exact runOut_settled h fun _ _ hu => hu.removeEntry _

theorem execSupplyReadyChange_settled (high : Bool) : SettledNext (execSupplyReadyChange high s) :=
  have hlevel : State.LoadsSettled { s with power := { s.power with supplyReady := high } } := h.same rfl
  whilePowered_settled hlevel hlevel.readyChanged

theorem execRailPresentChange_settled (milliVolts : Nat) : SettledNext (execRailPresentChange milliVolts s) :=
  have hlevel : State.LoadsSettled { s with power := { s.power with railPresent := railIsPresent milliVolts } } := h.same rfl
  whilePowered_settled hlevel (hlevel.presentChanged _)

theorem execTripHoldExpiry_settled : SettledNext (execTripHoldExpiry s) := by
  refine whilePowered_settled h ?_
  split
  · exact runOut_settled h fun _ _ hu => hu.endTripHold
  · exact h

theorem execReturnDelayExpiry_settled (delay : DelayEnd) : SettledNext (execReturnDelayExpiry delay s) := by
  refine whilePowered_settled h (runOut_settled h fun _ u hu => ?_)
  split
  · exact hu.same rfl
  · exact State.LoadsSettled.reform (hu.same (by rfl))

theorem execRailMeasurement_settled (milliVolts : Nat) : SettledNext (execRailMeasurement milliVolts s) := by
  refine whilePowered_settled h ?_
  split
  · exact runOut_settled h fun _ _ hu => State.LoadsSettled.measureRail (hu.same (by rfl)) _
  · exact h

theorem execTripTimerExpiry_settled : SettledNext (execTripTimerExpiry s) := by
  refine whilePowered_settled h ?_
  split
  · exact runOut_settled h fun _ _ hu => hu.openSwitch _
  · exact h

theorem execOffTimeExpiry_settled : SettledNext (execOffTimeExpiry s) := by
  refine whilePowered_settled h ?_
  split
  · exact runOut_settled h fun _ _ hu => hu.closeSwitch
  · exact h

theorem execReceiverStateChange_settled (lane : Lane) (locks : Bool) :
    SettledNext (execReceiverStateChange lane locks s) := by
  have hreported : ∀ r, (s.setReceiver lane r).receiverReported.LoadsSettled := fun r =>
    State.LoadsSettled.receiverReported (h.same rfl)
  refine whilePowered_settled h ?_
  (repeat' split)
  · exact hreported _
  · exact h
  · exact hreported _
  · exact h
  · exact h

theorem execRailPowerLoss_settled : SettledNext (execRailPowerLoss s) := by
  refine whilePowered_settled h ?_
  split
  · exact h.same rfl
  · exact h

/-! ## The other commands -/

theorem execGap_settled : SettledNext (execGap s) := whilePowered_loads h (by split <;> simp [State.advanceTo])

theorem execCarrierDetect_settled (present : Bool) : SettledNext (execCarrierDetect present s) :=
  settledNext_next (h.same rfl)

theorem execQuietWaitExpiry_settled : SettledNext (execQuietWaitExpiry s) :=
  whilePowered_loads h (by (repeat' split) <;> simp [State.advanceTo])

theorem execStuckDrop_settled : SettledNext (execStuckDrop s) :=
  whilePowered_loads h (runOut_loads fun _ _ => State.dropHead_loads _)

theorem execJoinTimerExpiry_settled : SettledNext (execJoinTimerExpiry s) :=
  whilePowered_settled h (runOut_settled h fun _ _ hu => hu.becomeActive)

theorem execBeaconPeriod_settled : SettledNext (execBeaconPeriod s) :=
  whilePowered_loads h (runOut_loads fun _ _ => State.offerBurst_loads _ _ _)

theorem execSlewTick_settled : SettledNext (execSlewTick s) := by
  refine whilePowered_loads h ?_
  split
  · rfl
  · exact runOut_loads fun _ _ => rfl

theorem execOfferClaimPeriod_settled (which : Announcement) : SettledNext (execOfferClaimPeriod which s) :=
  whilePowered_loads h (by split <;> exact runOut_loads fun _ _ => by simp)

theorem execRaiseTimerExpiry_settled (load : Load) : SettledNext (execRaiseTimerExpiry load s) :=
  whilePowered_settled h (runOut_settled h fun _ _ hu => hu.raiseLoad load)

theorem execClearTimerExpiry_settled : SettledNext (execClearTimerExpiry s) :=
  whilePowered_settled h (runOut_settled h fun _ _ hu => .reform (hu.same (by rfl)))

theorem execSupplyGraceExpiry_settled : SettledNext (execSupplyGraceExpiry s) :=
  whilePowered_settled h (runOut_settled h fun _ _ hu => .reform (hu.same (by rfl)))

theorem execDeliveredCurrentMeasurement_settled (milliAmps : Nat) :
    SettledNext (execDeliveredCurrentMeasurement milliAmps s) := by
  refine whilePowered_loads h ?_
  split
  · exact runOut_loads fun _ _ => by simp
  · rfl

theorem execSettleTimerExpiry_settled : SettledNext (execSettleTimerExpiry s) :=
  stepOver_settled h fun _ hu => hu.enterListen

theorem execListenTimerExpiry_settled : SettledNext (execListenTimerExpiry s) :=
  stepOver_settled h fun _ hu => hu.choose

theorem execConfirmTimerExpiry_settled : SettledNext (execConfirmTimerExpiry s) :=
  stepOver_settled h fun _ hu => hu.confirmFailure

theorem execBaseForcedExpiry_settled : SettledNext (execBaseForcedExpiry s) :=
  whilePowered_settled h (runOut_settled h fun _ _ hu => hu.endBaseForced)

theorem execTrainingTimerExpiry_settled : SettledNext (execTrainingTimerExpiry s) :=
  stepOver_settled h fun _ hu => hu.trainingFailure

theorem execLanePacketReceived_settled (lane : Lane) (bytes : List Byte) : SettledNext (execLanePacketReceived lane bytes s) :=
  whilePowered_loads h (by (repeat' split) <;> simp)

theorem execLanePacketSent_settled (lane : Lane) : SettledNext (execLanePacketSent lane s) :=
  whilePowered_loads h (by split <;> simp [State.advanceTo])

theorem execDozeTimerExpiry_settled : SettledNext (execDozeTimerExpiry s) := by
  refine whilePowered_loads h ?_
  split
  · rfl
  · exact runOut_loads fun _ _ => rfl

theorem execLostOnWake_settled (length : Nat) : SettledNext (execLostOnWake length s) :=
  whilePowered_loads h (by split <;> simp)

theorem execSliceSubmit_settled (start : Bool) (index : Byte) (bytes : List Byte) : SettledNext (execSliceSubmit start index bytes s) :=
  whilePowered_loads h (by split <;> simp)

theorem execSliceScan_settled : SettledNext (execSliceScan s) :=
  whilePowered_loads h (by dsimp only; (repeat' split) <;> simp [State.advanceToTether])

theorem execSensorWriteComplete_settled : SettledNext (execSensorWriteComplete s) :=
  whilePowered_loads h (by dsimp only; (repeat' split) <;> simp)

theorem execDataReadyEdge_settled : SettledNext (execDataReadyEdge s) := whilePowered_loads h (by split <;> rfl)

theorem execSensorReadComplete_settled (raw : Axes) : SettledNext (execSensorReadComplete raw s) :=
  whilePowered_loads h (by split <;> simp)

theorem execSensorStall_settled : SettledNext (execSensorStall s) := whilePowered_loads h (runOut_loads fun _ _ => rfl)

theorem execMotionFallbackExpiry_settled : SettledNext (execMotionFallbackExpiry s) :=
  whilePowered_loads h (runOut_loads fun _ _ => State.offerFallback_loads _)

theorem execMotionDrain_settled (count : Byte) : SettledNext (execMotionDrain count s) :=
  onRequest_loads h (by dsimp only; (repeat' split) <;> rfl)

theorem execAudioFrameInput_settled (left right : Half) : SettledNext (execAudioFrameInput left right s) :=
  whilePowered_loads h (by dsimp only; (repeat' split) <;> simp)

theorem execPresentationTimeReached_settled : SettledNext (execPresentationTimeReached s) :=
  whilePowered_loads h (by dsimp only; (repeat' split) <;> simp [State.advanceToTether])

theorem execOutputFramePeriod_settled : SettledNext (execOutputFramePeriod s) :=
  whilePowered_loads h (by split <;> simp [State.advanceTo])

theorem execSlipTimerExpiry_settled : SettledNext (execSlipTimerExpiry s) :=
  whilePowered_loads h (runOut_loads fun _ _ => State.slip_loads _)

theorem execMicCapture_settled (sample : Half) : SettledNext (execMicCapture sample s) :=
  whilePowered_loads h (by split <;> simp [State.advanceTo])

theorem execMicOutputSample_settled : SettledNext (execMicOutputSample s) := whilePowered_loads h (by split <;> rfl)

theorem execRemoteRestartTimerExpiry_settled : SettledNext (execRemoteRestartTimerExpiry s) :=
  whilePowered_settled h (runOut_settled h fun _ _ _ => .boot _ _)

theorem execRemoteStart_settled (target operation item : Byte) (value : Half) :
    SettledNext (execRemoteStart target operation item value s) :=
  onRequest_loads h (by (repeat' split) <;> simp)

theorem execDeadlineExpiry_settled : SettledNext (execDeadlineExpiry s) :=
  whilePowered_loads h (runOut_loads fun _ _ => rfl)

theorem execRemoteResult_settled : SettledNext (execRemoteResult s) := onRequest_loads h rfl

theorem execItemRead_settled (item : Byte) : SettledNext (execItemRead item s) := onRequest_loads h (by rfl)

theorem execItemWrite_settled (item : Byte) (value : Half) : SettledNext (execItemWrite item value s) :=
  onRequest_settled h ((h.writeItem _ _).same (by rfl))

theorem execStatusRead_settled : SettledNext (execStatusRead s) := onRequest_loads h rfl

theorem execCounterRead_settled (group : Byte) : SettledNext (execCounterRead group s) :=
  onRequest_loads h (by dsimp only; split <;> rfl)

theorem execRosterRead_settled : SettledNext (execRosterRead s) := onRequest_loads h (by rfl)

theorem execAllowanceRead_settled : SettledNext (execAllowanceRead s) := onRequest_loads h (by rfl)

theorem execLaneRead_settled : SettledNext (execLaneRead s) := onRequest_loads h (by rfl)

theorem execFramesRead_settled : SettledNext (execFramesRead s) := onRequest_loads h (by rfl)

theorem execRestart_settled : SettledNext (execRestart s) := onRequest_loads h (by simp)

theorem execRestartTimerExpiry_settled : SettledNext (execRestartTimerExpiry s) :=
  whilePowered_settled h (runOut_settled h fun _ _ _ => .boot _ _)

theorem execUnknownRequest_settled (code : Byte) : SettledNext (execUnknownRequest code s) := by
  unfold execUnknownRequest
  split
  · exact onRequest_loads h (by rfl)
  · rintro t ⟨⟩

theorem execHostDeselect_settled (clocked : Clocking) : SettledNext (execHostDeselect clocked s) :=
  settledNext_next (h.same rfl)

theorem execCharacterMissing_settled : SettledNext (execCharacterMissing s) := whilePowered_loads h (by split <;> simp)

end commands

/-! ## Every command and every step -/

theorem exec_settled (h : s.LoadsSettled) (c : Instr) : SettledNext (exec c s) := by
  cases c with
  | fullReset straps => exact settledNext_next (.boot _ _)
  | characterReceived data parity stopOk => exact execCharacterReceived_settled h data parity stopOk
  | gap => exact execGap_settled h
  | carrierDetect present => exact execCarrierDetect_settled h present
  | quietWaitExpiry => exact execQuietWaitExpiry_settled h
  | sendComplete => exact execSendComplete_settled h
  | stuckDrop => exact execStuckDrop_settled h
  | joinTimerExpiry => exact execJoinTimerExpiry_settled h
  | peerLeft peer => exact execPeerLeft_settled h peer
  | beaconPeriod => exact execBeaconPeriod_settled h
  | slewTick => exact execSlewTick_settled h
  | offerClaimPeriod which => exact execOfferClaimPeriod_settled h which
  | supplyReadyChange high => exact execSupplyReadyChange_settled h high
  | railPresentChange milliVolts => exact execRailPresentChange_settled h milliVolts
  | tripHoldExpiry => exact execTripHoldExpiry_settled h
  | returnDelayExpiry delay => exact execReturnDelayExpiry_settled h delay
  | raiseTimerExpiry load => exact execRaiseTimerExpiry_settled h load
  | railMeasurement milliVolts => exact execRailMeasurement_settled h milliVolts
  | clearTimerExpiry => exact execClearTimerExpiry_settled h
  | supplyGraceExpiry => exact execSupplyGraceExpiry_settled h
  | deliveredCurrentMeasurement milliAmps => exact execDeliveredCurrentMeasurement_settled h milliAmps
  | tripTimerExpiry => exact execTripTimerExpiry_settled h
  | offTimeExpiry => exact execOffTimeExpiry_settled h
  | settleTimerExpiry => exact execSettleTimerExpiry_settled h
  | listenTimerExpiry => exact execListenTimerExpiry_settled h
  | confirmTimerExpiry => exact execConfirmTimerExpiry_settled h
  | baseForcedExpiry => exact execBaseForcedExpiry_settled h
  | receiverStateChange lane locks => exact execReceiverStateChange_settled h lane locks
  | trainingTimerExpiry => exact execTrainingTimerExpiry_settled h
  | lanePacketReceived lane bytes => exact execLanePacketReceived_settled h lane bytes
  | lanePacketSent lane => exact execLanePacketSent_settled h lane
  | dozeTimerExpiry => exact execDozeTimerExpiry_settled h
  | lostOnWake length => exact execLostOnWake_settled h length
  | sliceSubmit start index bytes => exact execSliceSubmit_settled h start index bytes
  | sliceScan => exact execSliceScan_settled h
  | sensorWriteComplete => exact execSensorWriteComplete_settled h
  | dataReadyEdge => exact execDataReadyEdge_settled h
  | sensorReadComplete raw => exact execSensorReadComplete_settled h raw
  | sensorStall => exact execSensorStall_settled h
  | motionFallbackExpiry => exact execMotionFallbackExpiry_settled h
  | motionDrain count => exact execMotionDrain_settled h count
  | audioFrameInput left right => exact execAudioFrameInput_settled h left right
  | presentationTimeReached => exact execPresentationTimeReached_settled h
  | outputFramePeriod => exact execOutputFramePeriod_settled h
  | slipTimerExpiry => exact execSlipTimerExpiry_settled h
  | micCapture sample => exact execMicCapture_settled h sample
  | micOutputSample => exact execMicOutputSample_settled h
  | remoteRestartTimerExpiry => exact execRemoteRestartTimerExpiry_settled h
  | remoteStart target operation item value => exact execRemoteStart_settled h target operation item value
  | deadlineExpiry => exact execDeadlineExpiry_settled h
  | remoteResult => exact execRemoteResult_settled h
  | itemRead item => exact execItemRead_settled h item
  | itemWrite item value => exact execItemWrite_settled h item value
  | statusRead => exact execStatusRead_settled h
  | counterRead group => exact execCounterRead_settled h group
  | rosterRead => exact execRosterRead_settled h
  | allowanceRead => exact execAllowanceRead_settled h
  | laneRead => exact execLaneRead_settled h
  | framesRead => exact execFramesRead_settled h
  | restart => exact execRestart_settled h
  | restartTimerExpiry => exact execRestartTimerExpiry_settled h
  | unknownRequest code => exact execUnknownRequest_settled h code
  | hostDeselect clocked => exact execHostDeselect_settled h clocked
  | railPowerLoss => exact execRailPowerLoss_settled h
  | characterMissing => exact execCharacterMissing_settled h

/-- Settles O11: every command keeps the loads' form, and the idle microsecond leaves them. -/
theorem loadLevelsAreKept : Obligations.LoadLevelsAreKept := by
  intro s t h hstep
  cases hp : s.pending with
  | nil =>
    rw [step, hp] at hstep
    refine settledNext_next ?_ t hstep
    split
    · exact h
    · exact h
  | cons c rest =>
    rw [step, hp] at hstep
    exact exec_settled (s := { s with pending := rest }) h c t hstep

end Sys2Proof.Machine
end

section
/-! SUPPORT. A node without power (R92, assumption 8): its commands leave it as it stands, but for the levels of its inputs and the release
of the host's selection. Settles O3. -/

namespace Sys2Proof.Machine

variable {s : State}

theorem whilePowered_off (hp : s.powered = false) (act : State → State) : whilePowered s act = .next s := by
  rw [whilePowered, hp]
  rfl

/-- The commands that reach what lies outside the die: the inputs' levels, the host's selection, the pins. -/
def outsideDie : Instr → Bool
  | .fullReset _ => true
  | .carrierDetect _ => true
  | .supplyReadyChange _ => true
  | .railPresentChange _ => true
  | .hostDeselect _ => true
  | _ => false

/-- Every other command stops at a node without power. -/
theorem exec_unpowered (hp : s.powered = false) {c : Instr} (hc : outsideDie c = false) (hw : c.wellFormed = true) :
    exec c s = .next s := by
  cases c with
  | fullReset | carrierDetect | supplyReadyChange | railPresentChange | hostDeselect => cases hc
  | unknownRequest code => exact (if_pos (of_decide_eq_true hw)).trans (whilePowered_off hp _)
  | _ => exact congrArg Host.Outcome.next (if_neg (Bool.eq_false_iff.1 hp))

/-- The loss of rail power is that of a RELAY or HEADSET alone. -/
theorem exec_railPowerLoss (hp : s.powered = true) : exec .railPowerLoss s = .next (if s.tetherPowered then s.powerOff else s) :=
  whilePowered_on hp _

/-- Settles O3: the loss of rail power, and then each command at the node without power. -/
theorem unpoweredNodeStops : Obligations.UnpoweredNodeStops := by
  refine ⟨fun s hp ht => ?_, fun s hp ht => ?_, fun c s hp hreset hw => ?_⟩
  · rw [exec_railPowerLoss hp, ht]
    rfl
  · refine ⟨s.powerOff, ?_, rfl, rfl, rfl, rfl, rfl, rfl, rfl⟩
    rw [exec_railPowerLoss hp, ht]
    rfl
  · cases hc : outsideDie c with
    | false => exact ⟨s, exec_unpowered hp hc hw, fun _ => rfl, rfl⟩
    | true =>
      cases c with
      | fullReset pins => exact absurd rfl (hreset pins)
      | carrierDetect present => exact ⟨s.carrierChange present, rfl, fun _ => rfl, rfl⟩
      | supplyReadyChange high =>
        exact ⟨s.readyAt high, whilePowered_off (s := s.readyAt high) hp _, fun _ => rfl, rfl⟩
      | railPresentChange mv =>
        exact ⟨s.presentAt (railIsPresent mv), whilePowered_off (s := s.presentAt (railIsPresent mv)) hp _, fun _ => rfl, rfl⟩
      | hostDeselect clocked => exact ⟨_, rfl, fun hother => absurd rfl (hother clocked), rfl⟩
      | _ => cases hc

end Sys2Proof.Machine
end

section
/-! SUPPORT. The planner's targets (R75, R76): what shedding leaves, one level at a time and in its order, and the targets of a node that
is parked. Settles O34. -/

namespace Sys2Proof.Machine

variable {s : State} {order : List Load} {w l l' : Levels}

/-! ## The cost of a lane level (R72, R73) -/

theorem laneCost_relay_level {v : Nat} (h : v ≤ 4) : laneCost .relay v = [0, 60, 85, 110, 135].getD v 0 := by
  interval_cases v <;> rfl

theorem laneCost_headset_level {v : Nat} (h : v ≤ 4) : laneCost .headset v = [0, 80, 110, 140, 170].getD v 0 := by
  interval_cases v <;> rfl

/-! ## Shedding (R74, R75) -/

theorem mem_shedOrder (code : Nat) (k : Load) : k ∈ shedOrder code := by
  unfold shedOrder
  (repeat' split) <;> cases k <;> decide

theorem shedOrder_nodup (code : Nat) : (shedOrder code).Nodup := by
  unfold shedOrder
  (repeat' split) <;> decide

theorem Levels.get_set_ne (l : Levels) {k j : Load} (h : j ≠ k) (v : Nat) : (l.set k v).get j = l.get j := by
  cases k <;> cases j <;> first | rfl | exact absurd rfl h

/-- One level less at the first load in the order that stands above its floor. -/
theorem shedOne_eq_some : shedOne order l = some l' ↔ ∃ pre k post, order = pre ++ k :: post ∧ loadFloor k < l.get k ∧
    (∀ j ∈ pre, l.get j ≤ loadFloor j) ∧ l' = l.set k (l.get k - 1) := by
  unfold shedOne
  constructor
  · intro h
    split at h
    · cases h
    · next k hk =>
      obtain ⟨habove, pre, post, horder, hpre⟩ := List.find?_eq_some_iff_append.1 hk
      exact ⟨pre, k, post, horder, of_decide_eq_true habove, by simpa using hpre, (Option.some.inj h).symm⟩
  · rintro ⟨pre, k, post, horder, habove, hpre, rfl⟩
    rw [List.find?_eq_some_iff_append.2 ⟨by simpa using habove, pre, post, horder, by simpa using hpre⟩]

/-- Nothing is left to shed once every load stands at or below its floor. -/
theorem shedOne_eq_none : shedOne order l = none ↔ ∀ k ∈ order, l.get k ≤ loadFloor k := by
  unfold shedOne
  split
  · next h => simpa using h
  · next k h =>
    have hmem := List.mem_of_find?_eq_some h
    have habove : loadFloor k < l.get k := by simpa using List.find?_some h
    simp only [reduceCtorEq, false_iff, not_forall, not_le]
    exact ⟨k, hmem, habove⟩

/-- The levels `l` come of the levels `w` by shedding in the order. -/
structure ShedFrom (order : List Load) (w l : Levels) : Prop where
  lane    : l.lane = w.lane
  below   : ∀ k, l.get k ≤ w.get k
  inOrder : ∀ pre post k, order = pre ++ k :: post → l.get k < w.get k →
    loadFloor k ≤ l.get k ∧ ∀ j ∈ pre, l.get j ≤ loadFloor j

theorem ShedFrom.refl (order : List Load) (w : Levels) : ShedFrom order w w :=
  ⟨rfl, fun _ => le_rfl, fun _ _ _ _ h => absurd h (lt_irrefl _)⟩

/-- The next level shed is one of a load whose forerunners in the order stand at their floors. -/
theorem ShedFrom.shedOne (hnodup : order.Nodup) (h : ShedFrom order w l) (hone : shedOne order l = some l') :
    ShedFrom order w l' := by
  obtain ⟨pre, k, post, rfl, habove, hpre, rfl⟩ := shedOne_eq_some.1 hone
  have hle : ∀ j, (l.set k (l.get k - 1)).get j ≤ l.get j := fun j => by
    by_cases hj : j = k
    · rw [hj, Levels.get_set]
      exact Nat.sub_le _ _
    · rw [Levels.get_set_ne l hj]
  refine ⟨by rw [← h.lane]; cases k <;> rfl, fun j => (hle j).trans (h.below j), fun pre' post' j horder hlow => ?_⟩
  by_cases hj : j = k
  · subst hj
    obtain ⟨hleft, hright⟩ := not_or.1 (mt List.mem_append.2 (List.nodup_cons.1 (List.nodup_middle.1 hnodup)).1)
    obtain ⟨rfl, -, -⟩ := (List.append_cons_inj_of_notMem hleft hright).1 horder
    rw [Levels.get_set]
    exact ⟨Nat.le_sub_one_of_lt habove, fun i hi => (hle i).trans (hpre i hi)⟩
  · rw [Levels.get_set_ne l hj] at hlow ⊢
    obtain ⟨hfloor, hbefore⟩ := h.inOrder pre' post' j horder hlow
    exact ⟨hfloor, fun i hi => (hle i).trans (hbefore i hi)⟩

theorem ShedFrom.shed (hnodup : order.Nodup) (r : Role) (cap n : Nat) (h : ShedFrom order w l) :
    ShedFrom order w (shed r cap order n l) := by
  induction n generalizing l with
  | zero => exact h
  | succ n ih =>
    unfold Machine.shed
    split
    · exact h
    · split
      · exact h
      · next l' hone => exact ih (h.shedOne hnodup hone)

/-- The levels above the floors of R72. -/
def Levels.aboveFloors (l : Levels) : Nat := (l.panel - 1) + l.audio + (l.motion - 2)

theorem aboveFloors_shedOne (hone : shedOne order l = some l') : l'.aboveFloors < l.aboveFloors := by
  obtain ⟨pre, k, post, -, habove, -, rfl⟩ := shedOne_eq_some.1 hone
  cases k <;> simp only [Levels.aboveFloors, Levels.set, Levels.get, loadFloor] at * <;> omega

/-- With fuel for every level above the floors, shedding ends in a fit or with nothing left to shed. -/
theorem shed_fits_or_floors (r : Role) (cap : Nat) {n : Nat} (hn : l.aboveFloors < n) :
    totalCost r (shed r cap order n l) ≤ cap ∨ ∀ k ∈ order, (shed r cap order n l).get k ≤ loadFloor k := by
  induction n generalizing l with
  | zero => exact absurd hn (Nat.not_lt_zero _)
  | succ n ih =>
    unfold shed
    split
    · next hfits => exact .inl hfits
    · split
      · next hnone => exact .inr (shedOne_eq_none.1 hnone)
      · next l' hone => exact ih (Nat.lt_of_lt_of_le (aboveFloors_shedOne hone) (Nat.le_of_lt_succ hn))

/-! ## The targets (R75, R76, R80) -/

theorem State.targets_parked (h : s.parked = true) : s.targets = ⟨0, 0, 0, 0⟩ := if_pos h

theorem State.targets_relay (hr : s.role = .relay) (h : s.parked = false) : s.targets = ⟨s.pinnedLane, 0, 0, 0⟩ := by
  rw [State.targets, h, hr]
  rfl

theorem State.targets_headset (hr : s.role = .headset) (h : s.parked = false) : s.targets =
    shed .headset s.loads.cap (shedOrder (s.item itemShedOrder)) 8
      ⟨s.pinnedLane, s.item itemPanelWant, s.item itemAudioWant, s.item itemMotionWant⟩ := by
  rw [State.targets, h, State.wantedLevels, hr]
  rfl

theorem State.plan_loads (h : s.tetherPowered = true) : s.plan.loads = s.loads.moveTo s.targets s.clock.now := by
  obtain ⟨l, m, hplan, -, hl⟩ := s.plan_frame
  rw [hplan]
  exact hl.trans (if_pos h)

/-- Parked, every level falls to 0 at once, and with the panel drive's level the whole panel is dark. -/
theorem State.plan_parked (ht : s.tetherPowered = true) (hp : s.parked = true) :
    s.plan.loads.current = ⟨0, 0, 0, 0⟩ ∧ ∀ place ∈ s.plan.panelPort, place = none := by
  have hcurrent : s.plan.loads.current = ⟨0, 0, 0, 0⟩ := by
    rw [State.plan_loads ht, State.targets_parked hp]
    simp [Loads.moveTo, dropTo]
  refine ⟨hcurrent, fun place hplace => ?_⟩
  rw [State.panelPort_dark s.plan (by rw [hcurrent])] at hplace
  exact List.eq_of_mem_replicate hplace

/-- Settles O34. -/
theorem targetsFitTheCap : Obligations.TargetsFitTheCap := by
  refine ⟨fun l hlane hpanel haudio hmotion => ⟨?_, ?_⟩, fun s => State.targets_relay,
    fun s ht hp => ⟨State.targets_parked hp, State.plan_parked ht hp⟩, fun s hr hp hpanel haudio hmotion => ?_⟩
  · rw [totalCost_relay, laneCost_relay_level hlane]
  · rw [totalCost_headset, laneCost_headset_level hlane, panelCost_eq hpanel, audioCost_eq haudio, motionCost_eq hmotion]
  · intro w l
    have hl : l = shed .headset s.loads.cap (shedOrder (s.item itemShedOrder)) 8 w := State.targets_headset hr hp
    have hshed : ShedFrom (shedOrder (s.item itemShedOrder)) w l :=
      hl ▸ (ShedFrom.refl _ w).shed (shedOrder_nodup _) .headset s.loads.cap 8
    have habove : w.aboveFloors < 8 := by
      simp only [w, Levels.aboveFloors]
      omega
    have hend := shed_fits_or_floors (order := shedOrder (s.item itemShedOrder)) .headset s.loads.cap habove
    rw [← hl] at hend
    refine ⟨hshed.lane, hshed.below .panel, hshed.below .audio, hshed.below .motion, fun hfits => ?_, hend.imp_right fun hfloor => ?_,
      hshed.inOrder⟩
    · rw [hl, shed, if_pos hfits]
    · exact ⟨hfloor .panel (mem_shedOrder _ _), Nat.le_zero.1 (hfloor .audio (mem_shedOrder _ _)),
        hfloor .motion (mem_shedOrder _ _)⟩

end Sys2Proof.Machine
end

section
/-! SUPPORT. The delivered current at a SOURCE (R88 to R90): what the noting of an overdraw and a trip write, send and raise, and the
judgement of one measurement put together from them. -/

namespace Sys2Proof.Machine

variable {s t u : State}

/-- A notice changes the channel and the counters alone. -/
theorem State.offerNotice_frame (s : State) (k : Byte) (d : Nat) : s.offerNotice k d =
    { s with rail := (s.offerNotice k d).rail, counters := (s.offerNotice k d).counters } :=
  s.offerBurst_frame (by decide) _

theorem State.SameChannel.offerNotice (h : s.SameChannel u) (k : Byte) (d : Nat) :
    (s.offerNotice k d).SameChannel (u.offerBurst .notice [k, BitVec.ofNat 8 d]) := h.offerBurst (by decide) _

theorem State.SameChannel.ofPower (s : State) (p : Power) : ({ s with power := p } : State).SameChannel s := ⟨rfl, rfl, rfl, rfl⟩

theorem State.SameChannel.raise (h : s.SameChannel u) (f : Flag) : (s.raise f).SameChannel u :=
  ⟨h.rail, h.counters, h.clock, h.join⟩

/-- Of the whole state, the channel, the power block, the counters and the sticky flags may differ, and no flag is cleared. -/
structure State.Reported (s t : State) : Prop where
  frame : t = { s with rail := t.rail, power := t.power, counters := t.counters, host := { s.host with sticky := t.host.sticky } }
  flags : ∀ f, s.sticky f = true → t.sticky f = true

namespace State.Reported

theorem refl (s : State) : s.Reported s := ⟨rfl, fun _ h => h⟩

theorem trans (h : s.Reported t) (h' : t.Reported u) : s.Reported u := by
  refine ⟨?_, fun f hf => h'.flags f (h.flags f hf)⟩
  rw [h'.frame, h.frame]

theorem withPower (h : s.Reported t) (p : Power) : s.Reported { t with power := p } := by
  refine ⟨?_, h.flags⟩
  rw [h.frame]

theorem raise (h : s.Reported t) (f : Flag) : s.Reported (t.raise f) := by
  refine ⟨?_, fun g hg => State.sticky_raise f (h.flags g hg)⟩
  rw [h.frame]
  rfl

theorem offerNotice (h : s.Reported t) (k : Byte) (d : Nat) : s.Reported (t.offerNotice k d) := by
  have hnotice : t.Reported (t.offerNotice k d) := by
    refine ⟨?_, fun f hf => ?_⟩ <;> rw [t.offerNotice_frame k d]
    exact hf
  exact h.trans hnotice

theorem clock (h : s.Reported t) : t.clock = s.clock := by rw [h.frame]

end State.Reported

/-! ## The noting of an overdraw (R88) -/

/-- The NOTICE of an overdraw is due: the over-run count stands at 3 or more and none was sent in the last 100 ms. -/
def State.overdrawDue (s : State) : Bool := decide (3 ≤ s.power.overrun) && s.overdrawAllowed

theorem State.overdrawAllowed_iff (s : State) :
    s.overdrawAllowed = true ↔ ∀ t1, s.power.overdrawAt = some t1 → t1 + 100000 ≤ s.clock.now := by
  unfold State.overdrawAllowed
  cases s.power.overdrawAt with
  | none => simp
  | some t => exact ⟨fun h t1 ht => Option.some.inj ht ▸ of_decide_eq_true h, fun h => decide_eq_true (h t rfl)⟩

theorem State.overdrawDue_iff (s : State) : s.overdrawDue = true ↔
    3 ≤ s.power.overrun ∧ ∀ t1, s.power.overdrawAt = some t1 → t1 + 100000 ≤ s.clock.now := by
  rw [State.overdrawDue, Bool.and_eq_true, decide_eq_true_iff, s.overdrawAllowed_iff]

/-- What the noting of an overdraw of `mA` does from `s` to `t`. -/
structure State.OverdrawNoted (mA : Nat) (s t : State) : Prop where
  reported : s.Reported t
  power    : t.power = { s.power with overdrawAt := if s.overdrawDue then some s.clock.now else s.power.overdrawAt }
  channel  : t.SameChannel
    (if s.overdrawDue then s.offerBurst .notice [1, BitVec.ofNat 8 (min (mA / 16) 255)] else s)
  flag     : 3 ≤ s.power.overrun → t.sticky .overdraw = true

theorem State.noteOverdraw_noted (mA : Nat) (s : State) : s.OverdrawNoted mA (s.noteOverdraw mA) := by
  unfold State.noteOverdraw
  by_cases hcount : s.power.overrun < 3
  · have hdue : s.overdrawDue = false := by simp [State.overdrawDue, hcount]
    rw [if_pos hcount]
    refine ⟨.refl s, ?_, ?_, fun h => absurd hcount (Nat.not_lt.2 h)⟩ <;> rw [hdue]
    · rfl
    · exact ⟨rfl, rfl, rfl, rfl⟩
  · rw [if_neg hcount]
    have hdue : s.overdrawDue = s.overdrawAllowed := by simp [State.overdrawDue, Nat.not_lt.1 hcount]
    by_cases hallowed : s.overdrawAllowed = true
    · rw [if_pos hallowed]
      refine ⟨(((State.Reported.refl s).withPower _).offerNotice _ _).raise _, ?_, ?_, fun _ => State.raise_sticky _⟩ <;>
        rw [hdue, if_pos hallowed]
      · rw [State.raise_power, State.offerNotice_frame]
      · exact ((State.SameChannel.ofPower s _).offerNotice _ _).raise _
    · rw [if_neg hallowed]
      refine ⟨(State.Reported.refl s).raise _, ?_, ?_, fun _ => State.raise_sticky _⟩ <;> rw [hdue, if_neg hallowed]
      · rfl
      · exact ⟨rfl, rfl, rfl, rfl⟩

/-! ## A trip (R89, R90) -/

/-- What a trip whose NOTICE carries the detail `d` does from `s` to `t`. -/
structure State.TripBegun (d : Nat) (s t : State) : Prop where
  reported : s.Reported t
  power    : t.power = { s.power with
    tripHistory := tripsWith s.clock.now s.power.tripHistory
    trip := .pending s.clock.now (decide (3 ≤ (tripsWith s.clock.now s.power.tripHistory).length))
    overrun := 0, measureFrom := none }
  channel  : t.SameChannel (s.offerBurst .notice [2, BitVec.ofNat 8 d])
  tripped  : t.sticky .tripped = true
  latched  : 3 ≤ (tripsWith s.clock.now s.power.tripHistory).length → t.sticky .railLatched = true

theorem State.beginTrip_power (d : Nat) (latch : Bool) (s : State) : (s.beginTrip d latch).power =
    { s.power with trip := .pending s.clock.now latch, overrun := 0, measureFrom := none } := by
  rw [State.beginTrip, State.raise_power, State.offerNotice_frame]

theorem State.trip_begun (d : Nat) (s : State) : s.TripBegun d (s.trip d) := by
  have hbegin (p : Power) (latch : Bool) :
      s.Reported (({ s with power := p } : State).beginTrip d latch) ∧
      (({ s with power := p } : State).beginTrip d latch).SameChannel (s.offerBurst .notice [2, BitVec.ofNat 8 d]) :=
    ⟨((((State.Reported.refl s).withPower _).withPower _).offerNotice _ _).raise _,
      ((State.SameChannel.ofPower s _).offerNotice _ _).raise _⟩
  unfold State.trip
  dsimp only
  by_cases hthird : 3 ≤ (tripsWith s.clock.now s.power.tripHistory).length
  · rw [if_pos hthird]
    exact ⟨(hbegin _ _).1.raise _, (State.raise_power ..).trans (State.beginTrip_power ..), (hbegin _ _).2.raise _,
      State.sticky_raise _ (State.raise_sticky _), fun _ => State.raise_sticky _⟩
  · rw [if_neg hthird]
    exact ⟨(hbegin _ _).1, State.beginTrip_power .., (hbegin _ _).2, State.raise_sticky _, fun h => absurd h hthird⟩

/-- The detail byte of a trip's NOTICE: 1 where it is sharp alone, 2 where it is sustained alone, one of them where it is both. -/
theorem tripDetail_byte (sharp long : Prop) [Decidable sharp] [Decidable long] :
    let detail : Byte := BitVec.ofNat 8 (tripDetail (decide sharp) (decide long))
    (sharp → ¬ long → detail = 1) ∧ (¬ sharp → long → detail = 2) ∧ (detail = 1 ∨ detail = 2) := by
  refine ⟨fun hs hl => by simp [tripDetail, hs, hl], fun hs hl => by simp [tripDetail, hs, hl], ?_⟩
  have heither : tripDetail (decide sharp) (decide long) = 1 ∨ tripDetail (decide sharp) (decide long) = 2 := by
    unfold tripDetail
    (repeat' split) <;> simp
  exact heither.imp (congrArg _) (congrArg _)

/-! ## One measurement of the delivered current (R88, R89) -/

/-- The overdraw is noted on the new count `n`, and then comes the trip, where there is one. -/
theorem State.measureCurrent_eq (mA n : Nat) (hn : n = if s.offeredCurrent < mA then s.power.overrun + 1 else 0) :
    s.measureCurrent mA =
      if 5 * s.offeredCurrent < 4 * mA ∨ 10 ≤ n then (({ s with power := { s.power with overrun := n } } : State).noteOverdraw mA).trip
        (tripDetail (decide (5 * s.offeredCurrent < 4 * mA)) (decide (10 ≤ n)))
      else ({ s with power := { s.power with overrun := n } } : State).noteOverdraw mA := by
  subst hn
  unfold State.measureCurrent sharpTrip
  simp only [Bool.or_eq_true, decide_eq_true_eq]

/-- The state at the measurement: the time, the next measurement's base and the new over-run count are written. -/
def State.counting (c : Clock) (due n : Nat) (s : State) : State :=
  { s with clock := c, power := { s.power with measureFrom := some due, overrun := n } }

/-- A measurement that falls due, in the words of the noting and the trip. -/
theorem exec_deliveredCurrentMeasurement {t0 : Nat} {c : Clock} (mA n : Nat) (hp : s.powered = true)
    (hsupplier : s.power.supplier = some .railOn) (htrip : s.power.trip = .none) (hdue : s.power.measureFrom = some t0)
    (hc : s.advanceTo (t0 + 10000) = { s with clock := c }) (hn : n = if s.offeredCurrent < mA then s.power.overrun + 1 else 0) :
    exec (.deliveredCurrentMeasurement mA) s = .next
      (if 5 * s.offeredCurrent < 4 * mA ∨ 10 ≤ n then ((s.counting c (t0 + 10000) n).noteOverdraw mA).trip
        (tripDetail (decide (5 * s.offeredCurrent < 4 * mA)) (decide (10 ≤ n)))
      else (s.counting c (t0 + 10000) n).noteOverdraw mA) := by
  rw [show exec (.deliveredCurrentMeasurement mA) s = execDeliveredCurrentMeasurement mA s from rfl, execDeliveredCurrentMeasurement,
    whilePowered_on hp, if_pos ⟨hsupplier, htrip⟩, runOut_running hdue, show measureTime = 10000 from rfl, hc]
  exact congrArg _ (State.measureCurrent_eq mA n hn)

theorem State.SameChannel.trans (h : s.SameChannel t) (h' : t.SameChannel u) : s.SameChannel u :=
  ⟨h.rail.trans h'.rail, h.counters.trans h'.counters, h.clock.trans h'.clock, h.join.trans h'.join⟩

/-- An offering made or left out alike on two states with one channel leaves them with one channel. -/
theorem State.SameChannel.offered {b : Bool} {p : Prop} [Decidable p] {k : BurstKind} (h : s.SameChannel u) (hb : b = true ↔ p)
    (hk : k ≠ .ask) (l : List Byte) :
    (if b then s.offerBurst k l else s).SameChannel (if p then u.offerBurst k l else u) := by
  by_cases hp : p
  · rw [if_pos (hb.2 hp), if_pos hp]
    exact h.offerBurst hk l
  · rw [if_neg (fun hb' => hp (hb.1 hb')), if_neg hp]
    exact h

/-- Settles O37: the overdraw is noted on the new count, and the trip, where there is one, begins from the state so reported. -/
theorem deliveredCurrentIsJudged : Obligations.DeliveredCurrentIsJudged := by
  intro s t0 mA hp hsupplier htrip hdue n sharp trips
  obtain ⟨c, hc⟩ : ∃ c, s.advanceTo (t0 + 10000) = { s with clock := c } := ⟨_, rfl⟩
  have hmeasured := exec_deliveredCurrentMeasurement mA n hp hsupplier htrip hdue hc rfl
  obtain ⟨hreported, hpower, hnoticed, hflag⟩ := State.noteOverdraw_noted mA (s.counting c (t0 + 10000) n)
  have hnoted := (s.counting c (t0 + 10000) n).overdrawDue_iff
  have hcounting : (s.counting c (t0 + 10000) n).SameChannel { s with clock := c } := ⟨rfl, rfl, rfl, rfl⟩
  replace hnoticed := hnoticed.trans (hcounting.offered hnoted (by decide) _)
  rw [hc]
  generalize State.noteOverdraw mA _ = v at hmeasured hreported hpower hnoticed hflag
  have hclock : v.clock = c := hreported.clock
  have hframe := hreported.frame
  obtain ⟨hsharp, hlong, heither⟩ := tripDetail_byte sharp (10 ≤ n)
  by_cases htrips : trips
  · replace hmeasured := hmeasured.trans (congrArg Host.Outcome.next (if_pos htrips))
    obtain ⟨hreported', hpower', hchannel', htripped, hlatched⟩ := v.trip_begun (tripDetail (decide sharp) (decide (10 ≤ n)))
    rw [hclock, hpower] at hpower' hlatched
    have hclock' : (v.trip (tripDetail (decide sharp) (decide (10 ≤ n)))).clock = c := hreported'.clock.trans hclock
    refine ⟨_, hmeasured, hclock', ?_, fun h => hreported'.flags _ (hflag h), ?_,
      ⟨?_, _, fun h h' => hsharp h (Nat.not_le.2 h'), hlong, heither, ?_⟩, fun h => absurd htrips h,
      fun _ => ⟨?_, ?_, ?_, ?_, htripped, ?_⟩⟩
    · rw [hpower']
      exact hsupplier
    · rw [hreported'.frame, hframe]
      rfl
    · rw [hclock', hpower']
      exact if_congr hnoted rfl rfl
    · dsimp only
      rw [hclock', if_pos htrips]
      have hall := hchannel'.trans (hnoticed.offerBurst (by decide) _)
      exact ⟨hall.rail, hall.counters⟩
    · rw [hclock', hpower']
      rfl
    · rw [hclock', hpower']
      rfl
    · rw [hpower']
    · rw [hpower']
    · rw [hclock']
      exact hlatched
  · replace hmeasured := hmeasured.trans (congrArg Host.Outcome.next (if_neg htrips))
    refine ⟨v, hmeasured, hclock, ?_, hflag, ?_,
      ⟨?_, _, fun h h' => hsharp h (Nat.not_le.2 h'), hlong, heither, ?_⟩, fun _ => ⟨?_, ?_, ?_, ?_⟩, fun h => absurd h htrips⟩
    · rw [hpower]; exact hsupplier
    · rw [hreported.frame]; rfl
    · rw [hclock, hpower]; exact if_congr hnoted rfl rfl
    · dsimp only
      rw [hclock, if_neg htrips]
      exact ⟨hnoticed.rail, hnoticed.counters⟩
    · rw [hpower]; rfl
    · rw [hpower]; rfl
    · rw [hpower]; exact htrip
    · rw [hpower]; rfl

end Sys2Proof.Machine
end

section
/-! SUPPORT. The rail switch (R89 to R91): what the telling of an offer and the forming of the set leave of the power block, and the
opening and closing of the switch. -/

namespace Sys2Proof.Machine

variable {s t u v : State}

/-! ## What the telling of an offer leaves of the power block -/

/-- Of the power block, only what an announcement, the computation and the forming of the mode set write may differ (R57, R58, R66, R86). -/
def Power.Told (p q : Power) : Prop :=
  q = { p with
    offerFrom := q.offerFrom, allowances := q.allowances, lostActive := q.lostActive, graceFrom := q.graceFrom
    modeSet := q.modeSet, modeCeiling := q.modeCeiling, delayG2 := q.delayG2, delayG3 := q.delayG3, delayG4 := q.delayG4 }

theorem Power.Told.trans {p q r : Power} (h : p.Told q) (h' : q.Told r) : p.Told r := by
  unfold Power.Told at *
  rw [h', h]

theorem Power.stepDelays_told (p : Power) (r : Role) (cap : Nat) (ceiling : Grade) (now : Nat) :
    p.Told (p.stepDelays r cap ceiling now) := by
  rw [Power.stepDelays]
  rfl

theorem State.formModeSet_told (s : State) : s.power.Told (s.formModeSet false).power := by
  rcases s.role_cases with hr | hr | hr
  · rw [State.formModeSet_source hr, State.handIfChanged_power]
    rfl
  · rw [State.formModeSet_battery hr]
    rfl
  · rw [State.formModeSet_powered hr, State.handIfChanged_power]
    exact Power.Told.trans (s.power.stepDelays_told _ _ _ _) rfl

theorem State.reform_told (s : State) : s.power.Told s.reform.power := by
  rw [State.reform_power]
  exact s.formModeSet_told

theorem State.powerTold_told (s : State) : s.power.Told s.powerTold.power := by
  rw [State.powerTold_eq]
  refine Power.Told.trans ?_ s.supplied.reform_told
  rw [State.supplied_eq]
  rfl

theorem State.settleOffer_told (s : State) : s.power.Told s.settleOffer.power := by
  by_cases h : s.roster.self.offer = s.ownOffer
  · rw [State.settleOffer_same h]
    rfl
  · rw [State.settleOffer_new h]
    refine Power.Told.trans ?_ (State.powerTold_told _)
    rw [s.offerWritten.announceOffer_frame]
    rfl

/-! ## The switch -/

/-- The switch has moved, into the supplier state `st`, and nothing of it has been announced, computed or formed. -/
def State.switching (c : Clock) (st : SupplierState) (trip : Trip) (overrun : Nat) (measureFrom : Option Nat) (s : State) : State :=
  { s with
    clock := c
    power := { s.power with supplier := some st, trip := trip, overrun := overrun, measureFrom := measureFrom } }

/-- What follows of the settled offer holds as seen from the state before the switch. -/
theorem State.switching_follows (c : Clock) (st : SupplierState) (trip : Trip) (overrun : Nat) (measureFrom : Option Nat)
    (ht : (s.switching c st trip overrun measureFrom).OfferSettled t) :
    s.SupplyFollows (decide (s.roster.self.offer ≠ t.roster.self.offer)) t ∧ s.Announced t ∧ s.AgreeFollows false t ∧
    s.PathRailFrame t := by
  refine ⟨?_, ?_, ?_, ?_⟩
  · exact ht.supply.of_before rfl rfl rfl rfl (fun g => by cases g <;> rfl) rfl
  · have hannounced := ht.announced
    have hchannel : ({ s.switching c st trip overrun measureFrom with clock := t.clock } : State).SameChannel { s with clock := t.clock } :=
      ⟨rfl, rfl, rfl, rfl⟩
    rw [State.announced_iff] at hannounced ⊢
    obtain ⟨hrail, hcounters, hperiods⟩ := hannounced
    exact ⟨hrail.trans (hchannel.announcing _ _).rail, hcounters.trans (hchannel.announcing _ _).counters, hperiods⟩
  · exact ht.agree.of_before rfl rfl rfl rfl rfl rfl
  · refine State.PathRailFrame.trans (t := s.switching c st trip overrun measureFrom) ?_ ht.frame
    rfl

/-- The settling of the offer leaves what the switch has written, and what follows of it holds since before the switch. -/
theorem State.switching_settled (s : State) (c : Clock) (st : SupplierState) (trip : Trip) (overrun : Nat) (measureFrom : Option Nat) :
    let v := s.switching c st trip overrun measureFrom
    let t := v.settleOffer
    t.clock = c ∧ t.power.supplier = some st ∧ t.power.trip = trip ∧ t.power.overrun = overrun ∧ t.power.measureFrom = measureFrom ∧
    t.roster.self.offer = v.ownOffer ∧ s.SupplyFollows (decide (s.roster.self.offer ≠ t.roster.self.offer)) t ∧ s.Announced t ∧
    s.AgreeFollows false t ∧ s.PathRailFrame t := by
  intro v t
  have hsettled : v.OfferSettled t := v.settleOffer_settled
  have htold : v.power.Told t.power := v.settleOffer_told
  have hfollows := State.switching_follows c st trip overrun measureFrom hsettled
  have hoffer := hsettled.offer
  have hclock := hsettled.clock
  generalize t.power = q at htold ⊢
  rw [htold]
  exact ⟨hclock, rfl, rfl, rfl, rfl, hoffer, hfollows⟩

theorem exec_tripTimerExpiry {t0 : Nat} {latch : Bool} {c : Clock} (hp : s.powered = true) (ht : s.power.trip = .pending t0 latch)
    (hc : s.advanceTo (t0 + 20000) = { s with clock := c }) : exec .tripTimerExpiry s =
    .next (s.switching c (if latch then .railLatched else .railOff) (if latch then .none else .offTime c.now) s.power.overrun
      s.power.measureFrom).settleOffer := by
  rw [show exec .tripTimerExpiry s = execTripTimerExpiry s from rfl, execTripTimerExpiry, whilePowered_on hp, ht]
  dsimp only
  rw [runOut_running rfl, show tripTime = 20000 from rfl, hc]
  rfl

theorem exec_offTimeExpiry {t0 : Nat} {c : Clock} (hp : s.powered = true) (ht : s.power.trip = .offTime t0)
    (hc : s.advanceTo (t0 + 1000000) = { s with clock := c }) : exec .offTimeExpiry s =
    .next (s.switching c .railOn .none 0 (some c.now)).settleOffer := by
  rw [show exec .offTimeExpiry s = execOffTimeExpiry s from rfl, execOffTimeExpiry, whilePowered_on hp, ht]
  dsimp only
  rw [runOut_running rfl, show offTime = 1000000 from rfl, hc]
  rfl

/-- Settles O38: each movement of the switch ends with its offer settled. -/
theorem switchOpensAndCloses : Obligations.SwitchOpensAndCloses := by
  refine ⟨fun s t0 latch hp ht => ?_, fun s t0 hp ht => ?_⟩
  · obtain ⟨c, hc⟩ : ∃ c, s.advanceTo (t0 + 20000) = { s with clock := c } := ⟨_, rfl⟩
    obtain ⟨hclock, hsupplier, htrip, -, -, hoffer, hfollows⟩ := s.switching_settled c (if latch then .railLatched else .railOff)
      (if latch then .none else .offTime c.now) s.power.overrun s.power.measureFrom
    refine ⟨_, exec_tripTimerExpiry hp ht hc, hclock.trans (by rw [hc]), hsupplier, ?_, ?_, hfollows⟩
    · rw [htrip, hclock]
    · rw [hoffer]
      cases latch <;> rfl
  · obtain ⟨c, hc⟩ : ∃ c, s.advanceTo (t0 + 1000000) = { s with clock := c } := ⟨_, rfl⟩
    obtain ⟨hclock, hsupplier, htrip, hoverrun, hmeasure, hoffer, hfollows⟩ := s.switching_settled c .railOn .none 0 (some c.now)
    refine ⟨_, exec_offTimeExpiry hp ht hc, hclock.trans (by rw [hc]), hsupplier, htrip, hoverrun, ?_, hoffer, hfollows⟩
    rw [hmeasure, hclock]

end Sys2Proof.Machine
end

section
/-! SUPPORT. The rail monitor and the NOTICEs (R81 to R86): what a measurement judges, and what the forming of cap and mode set makes of
it. -/

namespace Sys2Proof.Machine

variable {s t u v : State}

/-! ## Cap and mode set formed after a change of the monitor's own -/

theorem State.reform_sticky (s : State) (f : Flag) : s.reform.sticky f = s.sticky f := by
  by_cases hf : f = .supplyShort
  · subst hf
    exact (State.Handed.reform (free := .baseForced) s).flags _ (by decide)
  · exact (State.Handed.reform (free := .supplyShort) s).flags _ hf

theorem State.SetFormed.of_before (h : u.SetFormed t) (hdelay : ∀ g, u.power.delay g = s.power.delay g) : s.SetFormed t := by
  unfold State.SetFormed at *
  simp only [hdelay] at h
  exact h

/-- Nothing that the forming of the set compares with has changed from `s` to `v`. -/
structure State.Unformed (s v : State) : Prop where
  frame   : s.PathRailFrame v
  delay   : ∀ g, v.power.delay g = s.power.delay g
  modeSet : v.power.modeSet = s.power.modeSet ∧ v.power.modeCeiling = s.power.modeCeiling
  agree   : v.agree = s.agree ∧ v.sliceSource = s.sliceSource ∧ v.motionHeadset = s.motionHeadset

/-- The set formed from `v` is one formed since `s`. -/
theorem State.Unformed.reform (h : s.Unformed v) : s.SetFormed v.reform ∧ s.AgreeFollows false v.reform ∧ s.PathRailFrame v.reform := by
  obtain ⟨hset, hceiling⟩ := h.modeSet
  obtain ⟨hagree, hslices, hmotion⟩ := h.agree
  exact ⟨v.reform_setFormed.of_before h.delay,
    v.reform_agreeFollows.of_before hagree h.frame.straps hset hceiling hslices hmotion,
    h.frame.trans (State.Handed.reform (free := .baseForced) v).frame⟩

/-- With no burst offered and nothing counted the frame is the path's. -/
theorem State.Unformed.reform_pathFrame (h : s.Unformed v) (hrail : v.rail = s.rail) (hcounters : v.counters = s.counters) :
    s.PathFrame v.reform :=
  h.reform.2.2.pathFrame ((State.reform_rail v).trans hrail) ((State.reform_counters v).trans hcounters)

/-- The forming of cap and mode set leaves what the monitor has written. -/
theorem State.reform_monitor (v : State) : v.reform.power.droop = v.power.droop ∧ v.reform.power.goodRun = v.power.goodRun ∧
    v.reform.power.lastLow = v.power.lastLow ∧ v.reform.power.clearFrom = v.power.clearFrom ∧
    v.reform.power.critActive = v.power.critActive ∧ v.reform.power.measureFrom = v.power.measureFrom ∧
    v.reform.power.lastOverdraw = v.power.lastOverdraw := by
  rw [v.reform_told]
  exact ⟨rfl, rfl, rfl, rfl, rfl, rfl, rfl⟩

theorem State.reform_clock (v : State) : v.reform.clock = v.clock := (State.Handed.reform (free := .baseForced) v).clock

/-! ## The judgement of a rail measurement (R81, R85) -/

/-- The droop level, the good run and the clear timer as a measurement judges them. -/
def Power.judged (now : Nat) (low : Bool) (p : Power) : Power :=
  { p with
    droop := if low then min (p.droop + 1) 4 else if p.goodRun + 1 < 8 then p.droop else p.droop - 1
    goodRun := if low then 0 else if p.goodRun + 1 < 8 then p.goodRun + 1 else 0
    lastLow := low
    clearFrom := if low then none else if p.critActive then some (p.clearFrom.getD now) else p.clearFrom }

/-- The measurement as it is judged, before cap and mode set are formed. -/
def State.railJudged (mv : Nat) (s : State) : State :=
  let low := decide (mv < s.item itemDroopLow)
  ((s.judgeDroop low).judgeClear low).judgeCritical mv

theorem State.measureRail_eq (mv : Nat) (s : State) : s.measureRail mv = (s.railJudged mv).reform := rfl

theorem State.judgeClear_low (s : State) : (s.judgeDroop true).judgeClear true =
    ({ s with power := s.power.judged s.clock.now true } : State).raise .droopLow := rfl

theorem State.judgeClear_good (s : State) : (s.judgeDroop false).judgeClear false =
    { s with power := s.power.judged s.clock.now false } := by
  unfold State.judgeDroop State.judgeClear Power.judged Power.goodMeasure
  by_cases hrun : s.power.goodRun + 1 < 8
  · simp only [Bool.false_eq_true, if_false, if_pos hrun]
    cases s.power.clearFrom <;> rfl
  · simp only [Bool.false_eq_true, if_false, if_neg hrun]
    cases s.power.clearFrom <;> rfl

/-- What the judgement of a measurement of `mv` does from `s` to `t`. -/
structure State.RailJudged (mv : Nat) (s t : State) : Prop where
  reported : s.Reported t
  power    : t.power = { s.power.judged s.clock.now (decide (mv < s.item itemDroopLow)) with
    critActive := s.power.critActive || decide (mv < s.item itemDroopCrit) }
  noticed  : mv < s.item itemDroopCrit ∧ s.power.critActive = false →
    t.SameChannel (s.offerBurst .notice [3, BitVec.ofNat 8 (min (mv / 100) 255)])
  quiet    : ¬ (mv < s.item itemDroopCrit ∧ s.power.critActive = false) → t.SameChannel s
  low      : mv < s.item itemDroopLow → t.sticky .droopLow = true
  critical : mv < s.item itemDroopCrit → s.power.critActive = false → t.sticky .droopCrit = true

/-- The droop level, the good run and the clear timer come first. -/
theorem State.judgeClear_judged (low : Bool) (s : State) :
    let t := (s.judgeDroop low).judgeClear low
    s.Reported t ∧ t.power = s.power.judged s.clock.now low ∧ t.SameChannel s ∧ t.items = s.items ∧
      (low = true → t.sticky .droopLow = true) := by
  cases low with
  | true =>
    rw [State.judgeClear_low]
    exact ⟨((State.Reported.refl s).withPower _).raise _, rfl, (State.SameChannel.ofPower s _).raise _, rfl,
      fun _ => State.raise_sticky _⟩
  | false =>
    rw [State.judgeClear_good]
    exact ⟨(State.Reported.refl s).withPower _, rfl, State.SameChannel.ofPower s _, rfl, nofun⟩

/-- Where no new fault is noted, a critical measurement finds the fault active. -/
theorem critActive_of_quiet {critical : Prop} [Decidable critical] {active : Bool} (h : ¬ (critical ∧ active = false)) :
    decide critical = true → active = true := fun hcrit => by
  cases active with
  | true => rfl
  | false => exact absurd ⟨of_decide_eq_true hcrit, rfl⟩ h

theorem State.railJudged_judged (mv : Nat) (s : State) : s.RailJudged mv (s.railJudged mv) := by
  obtain ⟨hreported, hpower, hchannel, hitems, hlow⟩ := s.judgeClear_judged (decide (mv < s.item itemDroopLow))
  unfold State.railJudged
  dsimp only
  generalize (s.judgeDroop (decide (mv < s.item itemDroopLow))).judgeClear (decide (mv < s.item itemDroopLow)) = u
    at hreported hpower hchannel hitems hlow
  have hitem : u.item itemDroopCrit = s.item itemDroopCrit := by rw [State.item, hitems, State.item]
  have hactive : u.power.critActive = s.power.critActive := by rw [hpower]; rfl
  unfold State.judgeCritical
  rw [hitem, hactive]
  by_cases hcrit : mv < s.item itemDroopCrit ∧ s.power.critActive = false
  · rw [if_pos hcrit]
    have hnoticed := (State.SameChannel.ofPower u { u.power with critActive := true }).trans hchannel
    refine ⟨((hreported.withPower _).raise _).offerNotice _ _, ?_, fun _ => (hnoticed.raise _).offerNotice _ _, absurd hcrit, fun h => ?_,
      fun _ _ => ?_⟩
    · rw [State.offerNotice_frame, State.raise_power, hpower, hcrit.2, decide_eq_true hcrit.1]
      rfl
    · rw [State.offerNotice_frame]
      exact State.sticky_raise _ (hlow (decide_eq_true h))
    · rw [State.offerNotice_frame]
      exact State.raise_sticky _
  · rw [if_neg hcrit]
    refine ⟨hreported, ?_, fun h => absurd h hcrit, fun _ => hchannel, fun h => hlow (decide_eq_true h), fun h h' => absurd ⟨h, h'⟩ hcrit⟩
    rw [hpower, Bool.or_eq_left_iff_imp.2 (critActive_of_quiet hcrit)]
    rfl

/-! ## The NOTICEs (R83) -/

theorem State.noticeArrives_overdraw (a : Addr) (d : Byte) (s : State) : s.noticeArrives a 1 d =
    if s.tetherPowered then ({ s with power := { s.power.raiseDroop with lastOverdraw := ⟨a, d⟩ } } : State).reform
    else { s with power := { s.power with lastOverdraw := ⟨a, d⟩ } } := rfl

theorem State.noticeArrives_trip (a : Addr) (d : Byte) (s : State) : s.noticeArrives a 2 d =
    if s.role = .battery then (({ s with power := { s.power with lastTrip := ⟨a, d⟩ } } : State).raise .tripped).enterTripHold
    else ({ s with power := { s.power with lastTrip := ⟨a, d⟩ } } : State).raise .tripped := rfl

theorem State.noticeArrives_critical (a : Addr) (d : Byte) (s : State) : s.noticeArrives a 3 d =
    ({ s with power := { s.power with lastCritical := ⟨a, d⟩ } } : State).raise .peerCritical := rfl

theorem State.noticeArrives_other (a : Addr) {k : Byte} (d : Byte) (s : State) (hk : k.toNat = 0 ∨ 3 < k.toNat) :
    s.noticeArrives a k d = s := by
  have hne (j : Byte) (hj : 0 < j.toNat ∧ j.toNat ≤ 3) : k ≠ j := by rintro rfl; omega
  unfold State.noticeArrives
  dsimp only
  rw [if_neg (hne _ (by decide)), if_neg (hne _ (by decide)), if_neg (hne _ (by decide))]

/-- An OVERDRAW heard at a RELAY or HEADSET raises the droop level, and cap and mode set are formed. -/
theorem State.noticeArrives_overdraw_powered (a : Addr) (d : Byte) (htether : s.tetherPowered = true) :
    let t := s.noticeArrives a 1 d
    t.power.droop = min (s.power.droop + 1) 4 ∧ t.power.goodRun = 0 ∧ t.power.lastOverdraw = ⟨a, d⟩ ∧
      s.SetFormed t ∧ s.AgreeFollows false t ∧ t.clock = s.clock ∧ s.PathFrame t := by
  intro t
  have ht : t = ({ s with power := { s.power.raiseDroop with lastOverdraw := ⟨a, d⟩ } } : State).reform :=
    (s.noticeArrives_overdraw a d).trans (if_pos htether)
  have hunformed : s.Unformed { s with power := { s.power.raiseDroop with lastOverdraw := ⟨a, d⟩ } } :=
    ⟨rfl, fun g => by cases g <;> rfl, ⟨rfl, rfl⟩, rfl, rfl, rfl⟩
  obtain ⟨hset, hagree, -⟩ := hunformed.reform
  obtain ⟨hdroop, hrun, -, -, -, -, hlast⟩ := State.reform_monitor _
  rw [ht]
  exact ⟨hdroop, hrun, hlast, hset, hagree, State.reform_clock _, hunformed.reform_pathFrame rfl rfl⟩

/-- A TRIP heard is kept and sets its flag, at a BATTERY too, where it starts the hold. -/
theorem State.noticeArrives_trip_kept (a : Addr) (d : Byte) (s : State) :
    (s.noticeArrives a 2 d).power.lastTrip = ⟨a, d⟩ ∧ (s.noticeArrives a 2 d).sticky .tripped = true := by
  rw [State.noticeArrives_trip]
  by_cases hr : s.role = .battery
  · rw [if_pos hr]
    have hsettled : State.OfferSettled _
        ((({ s with power := { s.power with lastTrip := ⟨a, d⟩ } } : State).raise .tripped).enterTripHold) := State.settleOffer_settled _
    obtain ⟨-, -, -, -, -, hlast⟩ := hsettled.supplier
    refine ⟨hlast, (hsettled.flags _ (by decide)).trans ?_⟩
    exact State.raise_sticky (s := { s with power := { s.power with lastTrip := ⟨a, d⟩ } }) _
  · rw [if_neg hr]
    exact ⟨rfl, State.raise_sticky _⟩

/-! ## The commands (R81, R85, R86) -/

/-- The state at a measurement: the time and the next measurement's base are written. -/
def State.measuring (c : Clock) (due : Nat) (s : State) : State :=
  { s with clock := c, power := { s.power with measureFrom := some due } }

theorem exec_railMeasurement {t0 : Nat} {c : Clock} (mv : Nat) (hp : s.powered = true) (htether : s.tetherPowered = true)
    (hdue : s.power.measureFrom = some t0) (hc : s.advanceTo (t0 + 10000) = { s with clock := c }) :
    exec (.railMeasurement mv) s = .next ((s.measuring c (t0 + 10000)).railJudged mv).reform := by
  rw [show exec (.railMeasurement mv) s = execRailMeasurement mv s from rfl, execRailMeasurement, whilePowered_on hp, if_pos htether,
    runOut_running hdue, show measureTime = 10000 from rfl, hc]
  exact congrArg Host.Outcome.next (State.measureRail_eq mv _)

theorem exec_clearTimerExpiry {t0 : Nat} {c : Clock} (hp : s.powered = true) (hdue : s.power.clearFrom = some t0)
    (hc : s.advanceTo (t0 + 1000000) = { s with clock := c }) : exec .clearTimerExpiry s =
    .next ({ s with clock := c, power := { s.power with critActive := false, clearFrom := none } } : State).reform := by
  rw [show exec .clearTimerExpiry s = execClearTimerExpiry s from rfl, execClearTimerExpiry, whilePowered_on hp,
    runOut_running hdue, show clearTime = 1000000 from rfl, hc]

theorem exec_supplyGraceExpiry {t0 : Nat} {c : Clock} (hp : s.powered = true) (hdue : s.power.graceFrom = some t0)
    (hc : s.advanceTo (t0 + 1000000) = { s with clock := c }) : exec .supplyGraceExpiry s =
    .next (({ s with clock := c, power := { s.power with graceFrom := none, lostActive := true } } : State).raise .supplyLost).reform := by
  rw [show exec .supplyGraceExpiry s = execSupplyGraceExpiry s from rfl, execSupplyGraceExpiry, whilePowered_on hp,
    runOut_running hdue, show graceTime = 1000000 from rfl, hc]

/-- A change of the time, the monitor's part of the power block and the flags leaves the set as it was formed. -/
theorem State.RailJudged.unformed {mv due : Nat} {c : Clock} (h : (s.measuring c due).RailJudged mv v) : s.Unformed v := by
  have hframe := h.reported.frame
  refine ⟨?_, fun g => ?_, ⟨?_, ?_⟩, ?_, ?_, ?_⟩
  · rw [hframe]; rfl
  · rw [h.power]; cases g <;> rfl
  · rw [h.power]; rfl
  · rw [h.power]; rfl
  all_goals rw [hframe]; rfl

/-- Settles O36: a measurement's judgement is carried over the forming of the set; the expiries and the NOTICEs likewise. -/
theorem railIsMonitored : Obligations.RailIsMonitored := by
  refine ⟨fun s sender p lt ll => ?_, fun s t0 hp htether => ⟨fun mv hdue => ?_, fun hdue => ?_, fun hdue => ?_⟩⟩
  · have hbyte {k : Byte} (hk : (byteAt p 0).toNat = k.toNat) : byteAt p 0 = k := BitVec.eq_of_toNat_eq hk
    rw [State.contentArrives_notice rfl]
    dsimp only
    refine ⟨fun hk hplain => ?_, fun hk htether => ?_, fun hk => ?_, fun hk => ?_, fun hk => ?_⟩
    · rw [hbyte (k := 1) hk, State.noticeArrives_overdraw, hplain]
      rfl
    · rw [hbyte (k := 1) hk]
      exact s.noticeArrives_overdraw_powered _ _ htether
    · rw [hbyte (k := 2) hk]
      obtain ⟨hlast, hflag⟩ := s.noticeArrives_trip_kept sender (byteAt p 1)
      exact ⟨hlast, hflag, fun hr => by rw [State.noticeArrives_trip, if_neg hr]; rfl⟩
    · rw [hbyte (k := 3) hk, State.noticeArrives_critical]
      exact ⟨State.raise_sticky _, rfl⟩
    · exact s.noticeArrives_other _ _ hk
  · obtain ⟨c, hc⟩ : ∃ c, s.advanceTo (t0 + 10000) = { s with clock := c } := ⟨_, rfl⟩
    have hjudged := (s.measuring c (t0 + 10000)).railJudged_judged mv
    have hexec := exec_railMeasurement mv hp htether hdue hc
    have hchannel : (s.measuring c (t0 + 10000)).SameChannel { s with clock := c } := ⟨rfl, rfl, rfl, rfl⟩
    generalize (s.measuring c (t0 + 10000)).railJudged mv = v at hjudged hexec
    obtain ⟨hset, hagree, hframe⟩ := hjudged.unformed.reform
    obtain ⟨hdroop, hrun, hlast, hclear, hactive, hmeasure, -⟩ := v.reform_monitor
    have hclock : v.reform.clock = c := v.reform_clock.trans hjudged.reported.clock
    rw [hjudged.power] at hdroop hrun hlast hclear hactive hmeasure
    have hfault : v.reform.power.critActive = (s.power.critActive || decide (mv < s.item itemDroopCrit)) := hactive
    rw [hc]
    refine ⟨_, hexec, hclock, hmeasure, hset, hagree, hframe, fun hlow => ?_, fun hgood => ?_, fun hcrit hoff => ?_, fun hstays => ?_⟩
    · rw [show decide (mv < (s.measuring c (t0 + 10000)).item itemDroopLow) = true from decide_eq_true hlow] at hdroop hrun hlast hclear
      exact ⟨hdroop, hrun, hlast, hclear, (v.reform_sticky _).trans (hjudged.low hlow)⟩
    · rw [show decide (mv < (s.measuring c (t0 + 10000)).item itemDroopLow) = false from decide_eq_false (Nat.not_lt.2 hgood)]
        at hdroop hrun hlast hclear
      refine ⟨hdroop, hrun, hlast, fun hon hnone => ?_⟩
      rw [hclear, hclock]
      simp [Power.judged, State.measuring, hon, hnone]
    · have hsent := (hjudged.noticed ⟨hcrit, hoff⟩).trans (hchannel.offerBurst (by decide) _)
      refine ⟨hfault.trans ?_, (v.reform_sticky _).trans (hjudged.critical hcrit hoff), v.reform_rail.trans hsent.rail,
        v.reform_counters.trans hsent.counters⟩
      rw [decide_eq_true hcrit, Bool.or_true]
    · have hquiet : ¬ (mv < s.item itemDroopCrit ∧ s.power.critActive = false) := fun ⟨hcrit, hoff⟩ =>
        hstays.elim (Nat.not_le.2 hcrit) (Bool.eq_false_iff.1 hoff)
      have hsent := (hjudged.quiet hquiet).trans hchannel
      refine ⟨hfault.trans ?_, v.reform_rail.trans hsent.rail, v.reform_counters.trans hsent.counters⟩
      exact Bool.or_eq_left_iff_imp.2 (critActive_of_quiet hquiet)
  · obtain ⟨c, hc⟩ : ∃ c, s.advanceTo (t0 + 1000000) = { s with clock := c } := ⟨_, rfl⟩
    have hunformed : s.Unformed { s with clock := c, power := { s.power with critActive := false, clearFrom := none } } :=
      ⟨rfl, fun g => by cases g <;> rfl, ⟨rfl, rfl⟩, rfl, rfl, rfl⟩
    obtain ⟨hset, hagree, -⟩ := hunformed.reform
    obtain ⟨-, -, -, hclear, hactive, -, -⟩ := State.reform_monitor _
    refine ⟨_, exec_clearTimerExpiry hp hdue hc, ?_, hactive, hclear, hset, hagree, hunformed.reform_pathFrame rfl rfl⟩
    rw [State.reform_clock, hc]
  · obtain ⟨c, hc⟩ : ∃ c, s.advanceTo (t0 + 1000000) = { s with clock := c } := ⟨_, rfl⟩
    have hunformed : s.Unformed
        (({ s with clock := c, power := { s.power with graceFrom := none, lostActive := true } } : State).raise .supplyLost) :=
      ⟨rfl, fun g => by cases g <;> rfl, ⟨rfl, rfl⟩, rfl, rfl, rfl⟩
    obtain ⟨hset, hagree, -⟩ := hunformed.reform
    obtain ⟨-, hlost, hgrace⟩ := (State.Handed.reform (free := .baseForced) _).supply
    refine ⟨_, exec_supplyGraceExpiry hp hdue hc, ?_, hlost, hgrace, ?_, hset, hagree, hunformed.reform_pathFrame rfl rfl⟩
    · rw [State.reform_clock, hc]
      rfl
    · rw [State.reform_sticky]
      exact State.raise_sticky _

end Sys2Proof.Machine
end

section
/-! SUPPORT. What every change of the agreement state hands on (R95, R111), in any state: the lane engine as ordered, the summary, the
lane's level, and what RUNNING leaves. -/

namespace Sys2Proof.Machine

variable {s t u : State}

/-! ## The order to the lane engine (R111) -/

/-- The state the lane engine is ordered by: a parked node's lane is off whatever the round (R80). -/
def State.laneOrder (s : State) : AgreeState := if s.parked then .halted else s.agree.state

/-- The lane engine after an order, transmitter by transmitter and receiver by receiver. -/
theorem State.orderLanes_lanes (s : State) :
    (∀ l, s.orderLanes.lanes.tx l = if ownsTx s.role l then (s.lanes.tx l).order (orderedTx s.laneOrder) else s.lanes.tx l) ∧
    (∀ l, s.orderLanes.lanes.rx l = if ownsRx s.role l then orderedRx s.laneOrder (s.lanes.rx l) else s.lanes.rx l) ∧
    s.orderLanes.lanes.dozing = false ∧
    s.orderLanes.lanes.dozeFrom = if s.laneOrder = .running ∧ s.role = .relay then some s.clock.now else none :=
  ⟨fun l => by cases l <;> rfl, fun l => by cases l <;> rfl, rfl, rfl⟩

theorem State.orderLanes_grade (h : s.laneOrder = .training ∨ s.laneOrder = .running) : s.orderLanes.lanes.grade = s.agree.chosen := by
  unfold State.laneOrder at h
  unfold State.orderLanes
  dsimp only
  rcases h with h | h <;> rw [h]

theorem Transmitter.order_state (x : Transmitter) (st : TxState) : (x.order st).state = st := by
  unfold Transmitter.order
  split
  · next h => exact h.symm
  · rfl

theorem Transmitter.order_empty (x : Transmitter) {st : TxState} (h : st ≠ .running) :
    (x.order st).sending = none ∧ (x.order st).waiting = [] := by
  rw [Transmitter.order, if_neg h]
  exact ⟨rfl, rfl⟩

theorem orderedTx_eq (st : AgreeState) : orderedTx st = if st = .training then .training else if st = .running then .running else .off := by
  cases st <;> rfl

theorem orderedTx_ne_running {st : AgreeState} (h : st ≠ .running) : orderedTx st ≠ .running := by
  rw [orderedTx_eq, if_neg h]
  split <;> decide

theorem orderedRx_eq {st : AgreeState} (h : st ≠ .running) (r : RxState) :
    orderedRx st r = if st = .training then .seeking else .off := by
  cases st
  case running => exact absurd rfl h
  all_goals rfl

/-- The pinned level by state and chosen grade (R76). -/
theorem State.pinnedLane_eq (s : State) : s.pinnedLane = if s.parked then 0
    else if s.agree.state = .training ∨ s.agree.state = .running then (s.agree.chosen.map gradeNum).getD 1 else 1 := by
  unfold State.pinnedLane
  cases s.agree.state <;> cases s.agree.chosen <;> rfl

theorem Agree.summary_eq (a : Agree) : a.summary = laneSummary a.state.code
    (if a.state = .training ∨ a.state = .running then optGradeCode a.chosen else 0) := by
  unfold Agree.summary
  cases a.state <;> rfl

/-! ## The lane as ordered (R95) -/

/-- Of what a change of the agreement state hands on, what is read off the state after it alone. -/
structure State.LaneOrdered (t : State) : Prop where
  tx      : ∀ l, ownsTx t.role l = true → (t.lanes.tx l).state = orderedTx t.laneOrder ∧
    (t.laneOrder ≠ .running → (t.lanes.tx l).sending = none ∧ (t.lanes.tx l).waiting = [])
  rx      : ∀ l, ownsRx t.role l = true → t.laneOrder ≠ .running → t.lanes.rx l = if t.laneOrder = .training then .seeking else .off
  grade   : t.laneOrder = .training ∨ t.laneOrder = .running → t.lanes.grade = t.agree.chosen
  summary : t.roster.self.summary = some t.agree.summary
  level   : t.tetherPowered = true → t.loads.current.lane = t.loads.target.lane ∧ t.loads.target.lane = t.pinnedLane
  doze    : t.running = false → t.lanes.dozing = false ∧ t.lanes.dozeFrom = none

/-- Every change of the agreement state leaves the lane as it orders it. -/
theorem State.changeAgree_ordered (s : State) (st : AgreeState) (g : Option Grade) (r : Reason) :
    (s.changeAgree st g r).LaneOrdered := by
  obtain ⟨v, hv⟩ : ∃ v : State, v = { s with agree := { s.agree with
    state := st, chosen := g, reason := r, stepFrom := if st.timed then some s.clock.now else none } } := ⟨_, rfl⟩
  obtain ⟨l, m, -, hl, h⟩ := s.changeAgree_frame st g r
  rw [show s.ordered st g r = v.orderLanes.writeSummary by rw [hv]; rfl] at hl h
  obtain ⟨htx, hrx, hdozing, hdoze⟩ := v.orderLanes_lanes
  have hlevel : s.tetherPowered = true → l.current.lane = l.target.lane ∧ l.target.lane = v.pinnedLane := fun hp => by
    rw [hl, if_pos hp]
    exact ⟨rfl, State.targets_lane v.orderLanes.writeSummary⟩
  have hview : (s.changeAgree st g r).role = v.role ∧ (s.changeAgree st g r).laneOrder = v.laneOrder ∧
      (s.changeAgree st g r).agree = v.agree ∧ (s.changeAgree st g r).lanes = v.orderLanes.lanes ∧
      (s.changeAgree st g r).pinnedLane = v.pinnedLane ∧ (s.changeAgree st g r).loads = l ∧
      (s.changeAgree st g r).roster.self.summary = some v.agree.summary ∧
      (s.changeAgree st g r).tetherPowered = s.tetherPowered := by
    rw [h, hv]
    exact ⟨rfl, rfl, rfl, rfl, rfl, rfl, rfl, rfl⟩
  obtain ⟨hrole, horder, hagree, hlanes, hpinned, hloads, hsummary, htether⟩ := hview
  refine ⟨fun lane hown => ?_, fun lane hown hne => ?_, fun hgraded => ?_, hsummary.trans (by rw [hagree]), ?_, fun hrun => ?_⟩
  · rw [hrole] at hown
    rw [horder, hlanes, htx, if_pos hown]
    exact ⟨Transmitter.order_state _ _, fun hne => Transmitter.order_empty _ (orderedTx_ne_running hne)⟩
  · rw [hrole] at hown
    rw [horder] at hne ⊢
    rw [hlanes, hrx, if_pos hown, orderedRx_eq hne]
  · rw [horder] at hgraded
    rw [hagree, hlanes, State.orderLanes_grade hgraded]
  · rw [htether, hloads, hpinned]
    exact hlevel
  · rw [State.running, hagree, decide_eq_false_iff_not] at hrun
    rw [hlanes, hdoze]
    refine ⟨hdozing, if_neg ?_⟩
    rintro ⟨horder', -⟩
    unfold State.laneOrder at horder'
    split at horder'
    · cases horder'
    · exact hrun horder'

/-- The lane at rest is one as ordered. -/
theorem State.LaneRests.ordered (h : t.LaneRests) : t.LaneOrdered := by
  have hrest : t.laneOrder = .halted ∨ t.laneOrder = .settle := by
    unfold State.laneOrder
    split
    · exact .inl rfl
    · exact h.state
  have hnot : t.laneOrder ≠ .training ∧ t.laneOrder ≠ .running := by
    rcases hrest with hr | hr <;> rw [hr] <;> decide
  obtain ⟨htraining, hrunning⟩ := hnot
  refine ⟨fun l hown => ?_, fun l hown _ => ?_, fun hg => ?_, ?_, fun hp => ?_, fun _ => h.doze⟩
  · obtain ⟨hstate, hsending, hwaiting⟩ := h.tx l hown
    refine ⟨?_, fun _ => ⟨hsending, hwaiting⟩⟩
    rw [orderedTx_eq, if_neg htraining, if_neg hrunning, hstate]
  · rw [if_neg htraining, h.rx l hown]
  · exact absurd hg (not_or.2 ⟨htraining, hrunning⟩)
  · rw [h.summary, Agree.summary_rests h.state]
  · rw [State.pinnedLane_rests h.state]
    exact h.level hp

/-- The lane as ordered, reached by the agreement controller's steps, has been handed on (R95). -/
theorem State.LaneOrdered.handedOn {free : Flag} (h : t.LaneOrdered) (hh : s.Handed free t) : s.HandedOn t := by
  unfold State.HandedOn
  dsimp only
  rw [← orderedTx_eq, ← Agree.summary_eq, ← State.pinnedLane_eq]
  have hleft : s.running = t.running → ∀ r : Role, ¬(s.role = r ∧ s.running = true ∧ t.running = false) := by
    rintro hst r ⟨-, hs, ht⟩
    rw [hst, ht] at hs
    cases hs
  refine ⟨h.tx, h.rx, h.grade, h.summary, h.level, h.doze, fun hs ht => ⟨fun hr => ?_, fun hr => ?_⟩, fun hs ht => ?_,
    fun hst => ?_⟩
  · rw [hh.slices, if_pos ⟨hh.role ▸ hr, hs, ht⟩]
    exact ⟨rfl, rfl⟩
  · rw [hh.timer, if_pos ⟨hh.role ▸ hr, hs, ht⟩, hh.clock]
  · rw [hh.starts ht] at hs
    cases hs
  · rw [hh.slices, hh.timer, if_neg (hleft hst _), if_neg (hleft hst _)]
    exact ⟨rfl, rfl⟩

/-- Lanes, loads, controller, summary, role and parked condition are all that is read. -/
theorem State.LaneOrdered.congr (h : t.LaneOrdered) (hstraps : u.straps = t.straps) (hparked : u.parked = t.parked)
    (hagree : u.agree = t.agree) (hlanes : u.lanes = t.lanes) (hloads : u.loads = t.loads)
    (hself : u.roster.self.summary = t.roster.self.summary) : u.LaneOrdered := by
  have hrole : u.role = t.role := congrArg Straps.role hstraps
  have horder : u.laneOrder = t.laneOrder := by rw [State.laneOrder, State.laneOrder, hparked, hagree]
  have hpinned : u.pinnedLane = t.pinnedLane := by rw [State.pinnedLane_eq, State.pinnedLane_eq, hparked, hagree]
  have hrunning : u.running = t.running := by rw [State.running, State.running, hagree]
  have htether : u.tetherPowered = t.tetherPowered := by rw [State.tetherPowered, State.tetherPowered, hrole]
  refine ⟨?_, ?_, ?_, ?_, ?_, ?_⟩
  · rw [hrole, horder, hlanes]; exact h.tx
  · rw [hrole, horder, hlanes]; exact h.rx
  · rw [horder, hlanes, hagree]; exact h.grade
  · rw [hself, hagree]; exact h.summary
  · rw [htether, hloads, hpinned]; exact h.level
  · rw [hrunning, hlanes]; exact h.doze

end Sys2Proof.Machine
end

section
/-! SUPPORT. Failures and CONFIRMING (R101, R102, R104): the failure's round, BASE_FORCED, and the judgement of the CONFIRMs stored. -/

namespace Sys2Proof.Machine

variable {s t u w : State}

/-! ## The opening of a round (R96) -/

theorem Agree.opened_incomplete (hc : t.roster.chainComplete = false) (r : Reason) (a : Agree) :
    a.opened r t = a.haltedFor .chainIncomplete := if_pos hc

theorem Agree.opened_empty (hc : t.roster.chainComplete = true) (hm : t.power.modeSet = []) (r : Reason) (a : Agree) :
    a.opened r t = a.haltedFor .ownSetEmpty := by
  rw [Agree.opened, hc, if_neg (by decide), if_pos hm]

theorem Agree.opened_settle (hc : t.roster.chainComplete = true) (hm : t.power.modeSet ≠ []) (r : Reason) (a : Agree) : a.opened r t =
    { a with state := .settle, round := a.round + 1, chosen := none, reason := r, stepFrom := some t.clock.now } := by
  rw [Agree.opened, hc, if_neg (by decide), if_neg hm]

/-- Only state, round, grade, reason and step timer are written. -/
theorem Agree.opened_counts (r : Reason) (t : State) (a : Agree) : (a.opened r t).failures = a.failures ∧
    (a.opened r t).laneFaults = a.laneFaults ∧ (a.opened r t).listened = a.listened ∧
    ((a.opened r t).state = .halted ∨ (a.opened r t).state = .settle) := by
  unfold Agree.opened Agree.haltedFor
  (repeat' split)
  · exact ⟨rfl, rfl, rfl, .inl rfl⟩
  · exact ⟨rfl, rfl, rfl, .inl rfl⟩
  · exact ⟨rfl, rfl, rfl, .inr rfl⟩

theorem State.Handed.parked {free : Flag} (h : s.Handed free t) (hcrit : t.power.critActive = s.power.critActive) :
    t.parked = s.parked := by
  obtain ⟨hlist, hlost, -⟩ := h.supply
  have hitems : t.items = s.items := by rw [h.frame]
  simp only [State.parked, State.ownGrant, State.parkHold, State.holdOf, State.tetherPowered, State.item, State.role, h.frame.straps,
    hitems, hlist, hlost, hcrit]

theorem State.openRound_cap (s : State) (r : Reason) : (s.openRound r).loads.cap = s.loads.cap := by
  unfold State.openRound State.halt State.enterSettle
  (repeat' split)
  · exact State.changeAgree_cap ..
  · exact State.changeAgree_cap ..
  · exact State.changeAgree_cap ..

theorem State.ownSetChanged_cap (s : State) : s.ownSetChanged.loads.cap = s.loads.cap := by
  unfold State.ownSetChanged State.halt
  (repeat' split)
  · exact State.changeAgree_cap ..
  · exact State.openRound_cap ..
  · rfl

/-! ## A failure's round (R102, R105) -/

/-- While a failure is handled a changed set is written and nothing more. -/
theorem State.handIfChanged_quiet (l : List Grade) (c : Grade) (s : State) : s.handIfChanged true l c = { s with
    power := { s.power with modeSet := l, modeCeiling := c }
    roster := { s.roster with self := (s.handIfChanged true l c).roster.self } } := by
  unfold State.handIfChanged
  split
  · next h => obtain ⟨rfl, rfl⟩ := h; rfl
  · rfl

/-- The mode set formed while a failure is handled is the one formed at any time; it opens no round. -/
theorem State.formModeSet_quiet (s : State) : s.formModeSet true = { s with
    power := (s.formModeSet false).power, roster := { s.roster with self := (s.formModeSet true).roster.self } } := by
  rcases s.role_cases with hr | hr | hr
  · have hquiet : s.formModeSet true = s.handIfChanged true s.sourceSet s.effectiveCeiling := by simp only [State.formModeSet, hr]
    rw [State.formModeSet_source hr, State.handIfChanged_power, hquiet]
    exact State.handIfChanged_quiet _ _ s
  · have hquiet : s.formModeSet true = s := by simp only [State.formModeSet, hr]
    rw [State.formModeSet_battery hr, hquiet]
  · have hquiet : s.formModeSet true = s.delayed.handIfChanged true s.delayed.formedSet s.delayed.effectiveCeiling := by
      unfold State.formModeSet
      split
      · next h => rw [State.tetherPowered, h] at hr; exact absurd hr (by decide)
      · next h => rw [State.tetherPowered, h] at hr; exact absurd hr (by decide)
      · rfl
    rw [State.formModeSet_powered hr, State.handIfChanged_power, hquiet]
    exact State.handIfChanged_quiet _ _ s.delayed

theorem State.formModeSet_cap (s : State) : (s.formModeSet false).loads.cap = s.loads.cap := by
  have hhanded : ∀ (v : State) (l : List Grade) (c : Grade), (v.handIfChanged false l c).loads.cap = v.loads.cap := fun v l c => by
    unfold State.handIfChanged
    split
    · rfl
    · exact State.ownSetChanged_cap _
  rcases s.role_cases with hr | hr | hr
  · rw [State.formModeSet_source hr]; exact hhanded _ _ _
  · rw [State.formModeSet_battery hr]
  · rw [State.formModeSet_powered hr]; exact hhanded _ _ _

theorem State.failRound_power (s : State) (r : Reason) : (s.failRound r).power = (s.formModeSet false).power := by
  rw [State.failRound, (State.formCap_frame _).1, State.openRound_power, State.formModeSet_quiet]

/-- The failure's round, over the roster and the mode set it leaves. -/
theorem State.failRound_agree (s : State) (r : Reason) : (s.failRound r).agree = s.agree.opened r (s.failRound r) := by
  have hhanded : (s.formModeSet true).Handed .supplyShort (s.failRound r) := (State.Handed.openRound _ r).trans (.formCap _)
  have hmode : (s.failRound r).power.modeSet = (s.formModeSet true).power.modeSet := by
    rw [State.failRound_power, State.formModeSet_quiet]
  have hagree : (s.formModeSet true).agree = s.agree := by rw [State.formModeSet_quiet]
  rw [Agree.opened_congr hhanded.alike hmode hhanded.clock, ← hagree, ← State.openRound_agree]
  exact (State.formCap_frame _).2.1

theorem State.failRound_rests (s : State) (r : Reason) : (s.failRound r).LaneRests := (State.openRound_rests _ r).formCap

/-- Delays, mode set, ceiling and cap stand as at any time they are formed. -/
theorem State.failRound_setFormed (s : State) (r : Reason) : s.SetFormed (s.failRound r) := by
  have hfail : s.Handed .baseForced (s.failRound r) := .failRound s r
  have hreform : s.Handed .baseForced s.reform := .reform s
  have hpower : (s.failRound r).power = s.reform.power := (s.failRound_power r).trans s.reform_power.symm
  have hkept : s.reform.agree.lowered = s.agree.lowered ∧ s.reform.agree.baseForcedFrom = s.agree.baseForcedFrom := by
    rw [State.reform_agree, State.formModeSet_agree]; exact Agree.afterSet_keeps _ _ _
  have hkept' : (s.failRound r).agree.lowered = s.agree.lowered ∧ (s.failRound r).agree.baseForcedFrom = s.agree.baseForcedFrom := by
    rw [State.failRound_agree]; exact Agree.opened_keeps _ _ _
  have hitems : (s.failRound r).items = s.reform.items := by rw [hfail.frame, hreform.frame]
  have hstraps := hfail.frame.straps.trans hreform.frame.straps.symm
  refine s.reform_setFormed.congr hstraps hitems hpower (hkept'.1.trans hkept.1.symm) (hkept'.2.trans hkept.2.symm) ?_
    (hfail.clock.trans hreform.clock.symm)
  by_cases hp : s.tetherPowered = true
  · have hcap : ∀ v : State, s.Handed .baseForced v → v.formCap.loads.cap = v.formCap.effectiveCap := fun v hv => by
      have hv' : v.Handed .baseForced v.formCap := .formCap v
      rw [State.formCap_cap (by rw [State.tetherPowered, hv.role]; exact hp)]
      have hi : v.formCap.items = v.items := by rw [hv'.frame]
      refine (State.cap_congr hv'.frame.straps hi ?_ ?_ ?_ ?_).2.symm <;> rw [(State.formCap_frame v).1]
    have hsame : (s.failRound r).effectiveCap = s.reform.effectiveCap := by
      refine (State.cap_congr hstraps hitems ?_ ?_ ?_ ?_).2 <;> rw [hpower]
    exact ((hcap _ ((State.Handed.formModeSet s true).trans (.openRound _ r))).trans hsame).trans
      (hcap _ (State.Handed.formModeSet s false)).symm
  · have hnone : ∀ v : State, s.Handed .baseForced v → v.formCap = v := fun v hv =>
      if_neg (by rw [State.tetherPowered, hv.role]; exact hp)
    rw [State.failRound, State.reform, hnone _ ((State.Handed.formModeSet s true).trans (.openRound _ r)),
      hnone _ (State.Handed.formModeSet s false), State.openRound_cap, State.formModeSet_cap, State.formModeSet_quiet]

/-! ## Confirm failures and BASE_FORCED (R102, R103) -/

/-- The counts after a confirm failure at a time: the fourth sets BASE_FORCED. -/
def Agree.confirmFailed (now : Nat) (a : Agree) : Agree :=
  if 3 ≤ a.failures then { a with failures := 0, baseForcedFrom := some now } else { a with failures := a.failures + 1 }

theorem State.confirmFailure_few (h : s.agree.failures < 3) : s.confirmFailure =
    ({ s with agree := { s.agree with failures := s.agree.failures + 1 } } : State).openRound .confirmFailed :=
  if_neg (by omega)

theorem State.confirmFailure_fourth (h : 3 ≤ s.agree.failures) : s.confirmFailure = s.setBaseForced.failRound .confirmFailed :=
  if_pos (by omega)

theorem State.confirmFailure_agree (s : State) :
    s.confirmFailure.agree = (s.agree.confirmFailed s.clock.now).opened .confirmFailed s.confirmFailure := by
  rcases Nat.lt_or_ge s.agree.failures 3 with h | h
  · have hhanded : ({ s with agree := { s.agree with failures := s.agree.failures + 1 } } : State).Handed .supplyShort
        (({ s with agree := { s.agree with failures := s.agree.failures + 1 } } : State).openRound .confirmFailed) := .openRound _ _
    rw [State.confirmFailure_few h, State.openRound_agree, Agree.confirmFailed, if_neg (Nat.not_le.2 h)]
    exact (Agree.opened_congr hhanded.alike (congrArg Power.modeSet (State.openRound_power _)) hhanded.clock _ _).symm
  · rw [State.confirmFailure_fourth h, State.failRound_agree, Agree.confirmFailed, if_pos h]
    rfl

theorem State.confirmFailure_rests (s : State) : s.confirmFailure.LaneRests := by
  unfold State.confirmFailure
  split
  · exact State.failRound_rests _ _
  · exact State.openRound_rests _ _

theorem State.confirmFailure_modeSet_few (h : s.agree.failures < 3) : s.confirmFailure.power.modeSet = s.power.modeSet := by
  rw [State.confirmFailure_few h, State.openRound_power]

/-- BASE_FORCED leaves G1 alone in the set, and nothing while parked (R69, R70). -/
theorem State.confirmFailure_modeSet_fourth (hpath : s.onPath = true) (h : 3 ≤ s.agree.failures) :
    s.confirmFailure.power.modeSet = if s.parked then [] else [.g1] := by
  have hpower : s.confirmFailure.power = (s.setBaseForced.formModeSet false).power := by
    rw [State.confirmFailure_fourth h, State.failRound_power]
  rw [hpower]
  rcases s.role_cases with hr | hr | hr
  · have hparked : s.parked = false := by rw [State.parked, State.tetherPowered, hr]; rfl
    rw [State.formModeSet_source (s := s.setBaseForced) hr, State.handIfChanged_power, hparked]
    rfl
  · rw [State.onPath, hr] at hpath
    exact absurd hpath (by decide)
  · rw [State.formModeSet_powered (s := s.setBaseForced) hr, State.handIfChanged_power]
    rfl

theorem State.confirmFailure_sticky (h : 3 ≤ s.agree.failures) : s.confirmFailure.sticky .baseForced = true := by
  have hhanded : s.setBaseForced.Handed .supplyShort (s.setBaseForced.failRound .confirmFailed) := .failRound _ _
  rw [State.confirmFailure_fourth h, hhanded.flags .baseForced (by decide)]
  exact State.raise_sticky .baseForced

/-- A confirm failure of the round of `s`, seen at the end `t` of its event (R101, R102). -/
def State.ConfirmFailed (s t : State) : Prop :=
  (s.agree.failures < 3 → s.roster.chainComplete = true → s.power.modeSet ≠ [] →
    t.agree = { s.agree with
      state := .settle, round := s.agree.round + 1, chosen := none, reason := .confirmFailed
      failures := s.agree.failures + 1, stepFrom := some t.clock.now }) ∧
  (3 ≤ s.agree.failures →
    t.agree.failures = 0 ∧ t.agree.baseForcedFrom = some t.clock.now ∧ t.sticky .baseForced = true) ∧
  (s.roster.chainComplete = false →
    t.agree.state = .halted ∧ t.agree.reason = .chainIncomplete ∧ t.agree.round = s.agree.round)

/-- `w` is in the round of `s`, at whatever step, with its counts, chain and mode set. -/
structure State.SameRound (s w : State) : Prop where
  agree   : w.agree = { s.agree with
    state := w.agree.state, chosen := w.agree.chosen, reason := w.agree.reason, stepFrom := w.agree.stepFrom }
  roster  : s.roster.Alike w.roster
  modeSet : w.power.modeSet = s.power.modeSet

theorem State.SameRound.refl (s : State) : s.SameRound s := ⟨rfl, .refl _, rfl⟩

theorem State.SameRound.confirmFailed (h : s.SameRound w) : s.ConfirmFailed w.confirmFailure := by
  have hhanded : w.Handed .baseForced w.confirmFailure := .confirmFailure w
  have hagree := w.confirmFailure_agree
  have hchain : w.confirmFailure.roster.chainComplete = s.roster.chainComplete :=
    hhanded.alike.chainComplete.trans h.roster.chainComplete
  have hfailures : w.agree.failures = s.agree.failures := by rw [h.agree]
  have hround : w.agree.round = s.agree.round := by rw [h.agree]
  refine ⟨fun hfew hc hm => ?_, fun hfour => ?_, fun hc => ?_⟩
  · have hset : w.confirmFailure.power.modeSet ≠ [] := by
      rw [State.confirmFailure_modeSet_few (hfailures ▸ hfew), h.modeSet]; exact hm
    rw [hagree, Agree.opened_settle (hchain.trans hc) hset, Agree.confirmFailed, if_neg (by omega), h.agree]
  · obtain ⟨hcount, -, -, -⟩ := Agree.opened_counts .confirmFailed w.confirmFailure (w.agree.confirmFailed w.clock.now)
    obtain ⟨-, hforced⟩ := Agree.opened_keeps .confirmFailed w.confirmFailure (w.agree.confirmFailed w.clock.now)
    have hfour' : 3 ≤ w.agree.failures := hfailures ▸ hfour
    rw [hagree, hcount, hforced, hhanded.clock, Agree.confirmFailed, if_pos hfour']
    exact ⟨rfl, rfl, State.confirmFailure_sticky hfour'⟩
  · rw [hagree, Agree.opened_incomplete (hchain.trans hc)]
    refine ⟨rfl, rfl, ?_⟩
    rw [← hround, Agree.confirmFailed]
    split <;> rfl

/-! ## Entry into TRAINING (R104, R111) -/

/-- The lane in TRAINING at the grade `g`, seen from the state `s` before the event: transmitters, receivers, lane level. -/
def State.TrainsAt (s t : State) (g : Grade) : Prop :=
  t.parked = s.parked ∧
  (s.parked = false → t.lanes.grade = some g ∧
    (s.tetherPowered = true → t.loads.current.lane = gradeNum g ∧ t.loads.target.lane = gradeNum g) ∧
    ∀ l, (ownsTx s.role l = true → (t.lanes.tx l).state = .training) ∧ (ownsRx s.role l = true → t.lanes.rx l = .seeking)) ∧
  (s.parked = true →
    ∀ l, (ownsTx s.role l = true → (t.lanes.tx l).state = .off) ∧ (ownsRx s.role l = true → t.lanes.rx l = .off))

theorem State.LaneOrdered.trainsAt {g : Grade} (h : t.LaneOrdered) (hstate : t.agree.state = .training) (hchosen : t.agree.chosen = some g)
    (hparked : t.parked = s.parked) (hrole : t.role = s.role) : s.TrainsAt t g := by
  have htether : t.tetherPowered = s.tetherPowered := by rw [State.tetherPowered, State.tetherPowered, hrole]
  refine ⟨hparked, fun hp => ?_, fun hp l => ?_⟩
  · have horder : t.laneOrder = .training := by rw [State.laneOrder, hparked, hp, if_neg (by decide), hstate]
    have hpinned : t.pinnedLane = gradeNum g := by
      rw [State.pinnedLane_eq, hparked, hp, if_neg (by decide), if_pos (.inl hstate), hchosen]; rfl
    refine ⟨(h.grade (.inl horder)).trans hchosen, fun ht => ?_, fun l => ⟨fun hown => ?_, fun hown => ?_⟩⟩
    · obtain ⟨hcurrent, htarget⟩ := h.level (htether.trans ht)
      exact ⟨hcurrent.trans (htarget.trans hpinned), htarget.trans hpinned⟩
    · rw [(h.tx l (hrole ▸ hown)).1, horder]; rfl
    · rw [h.rx l (hrole ▸ hown) (by rw [horder]; decide), horder, if_pos rfl]
  · have horder : t.laneOrder = .halted := by rw [State.laneOrder, hparked, if_pos hp]
    refine ⟨fun hown => ?_, fun hown => ?_⟩
    · rw [(h.tx l (hrole ▸ hown)).1, horder]; rfl
    · rw [h.rx l (hrole ▸ hown) (by rw [horder]; decide), horder, if_neg (by decide)]

theorem State.enterTraining_agree (s : State) : s.enterTraining.agree =
    { s.agree with state := .training, stepFrom := some s.clock.now } := State.changeAgree_agree ..

theorem State.enterTraining_trainsAt {g : Grade} (hg : s.agree.chosen = some g) : s.TrainsAt s.enterTraining g := by
  have hhanded : s.Handed .supplyShort s.enterTraining := .enterTraining s
  refine (s.changeAgree_ordered .training s.agree.chosen s.agree.reason).trainsAt ?_ ?_ (hhanded.parked ?_) hhanded.role
  · exact congrArg Agree.state s.enterTraining_agree
  · exact (congrArg Agree.chosen s.enterTraining_agree).trans hg
  · exact congrArg Power.critActive (State.changeAgree_power ..)

/-! ## The judgement of the CONFIRMs (R101) -/

/-- The grade codes of the CONFIRMs of the current round that the path's entries hold. -/
def State.heardConfirms (s : State) : List (Option Byte) := s.roster.path.map (Entry.confirmOf s.agree.round)

theorem State.judgeConfirms_eq (s : State) : s.judgeConfirms =
    if s.heardConfirms.any (fun c => c.isSome && c != some (optGradeCode s.agree.chosen)) then s.confirmFailure
    else if s.heardConfirms.all (fun c => c == some (optGradeCode s.agree.chosen)) then s.enterTraining
    else s := rfl

theorem any_otherGrade_iff (own : Byte) (l : List (Option Byte)) :
    l.any (fun c => c.isSome && c != some own) = true ↔ ∃ c ∈ l, c ≠ none ∧ c ≠ some own := by
  simp [List.any_eq_true, Option.isSome_iff_ne_none]

/-- One of another grade is a failure at once. -/
theorem State.judgeConfirms_other {g : Grade} (hg : s.agree.chosen = some g)
    (h : ∃ c ∈ s.heardConfirms, c ≠ none ∧ c ≠ some (gradeCode g)) : s.judgeConfirms = s.confirmFailure := by
  rw [State.judgeConfirms_eq, hg]
  exact if_pos ((any_otherGrade_iff _ _).2 h)

theorem not_any_otherGrade {own : Byte} {l : List (Option Byte)} (h : ∀ c ∈ l, c = none ∨ c = some own) :
    ¬ l.any (fun c => c.isSome && c != some own) = true := by
  rw [any_otherGrade_iff]
  rintro ⟨c, hc, hnone, hown⟩
  exact (h c hc).elim hnone hown

/-- The last matching one ends the step. -/
theorem State.judgeConfirms_all {g : Grade} (hg : s.agree.chosen = some g) (h : ∀ c ∈ s.heardConfirms, c = some (gradeCode g)) :
    s.judgeConfirms = s.enterTraining := by
  rw [State.judgeConfirms_eq, hg]
  refine (if_neg (not_any_otherGrade fun c hc => .inr (h c hc))).trans (if_pos ?_)
  exact List.all_eq_true.2 fun c hc => beq_iff_eq.2 (h c hc)

/-- While one is missing the step waits. -/
theorem State.judgeConfirms_missing {g : Grade} (hg : s.agree.chosen = some g)
    (h : ∀ c ∈ s.heardConfirms, c = none ∨ c = some (gradeCode g)) (hnone : none ∈ s.heardConfirms) : s.judgeConfirms = s := by
  rw [State.judgeConfirms_eq, hg]
  refine (if_neg (not_any_otherGrade h)).trans (if_neg fun hall => ?_)
  exact absurd (List.all_eq_true.1 hall none hnone) (by simp)

theorem State.judgeConfirms_ordered (h : s.LaneOrdered) : s.judgeConfirms.LaneOrdered := by
  rw [State.judgeConfirms_eq]
  (repeat' split)
  · exact s.confirmFailure_rests.ordered
  · exact s.changeAgree_ordered _ _ _
  · exact h

/-! ## What the end of a step leaves of the controller -/

/-- From `s` to `t` a step has ended, LISTEN among them: its entry stays noted, and BASE_FORCED is kept or set at this moment. -/
structure State.StepEnded (s t : State) : Prop where
  state    : t.agree.state ≠ .listen
  listened : t.agree.listened = s.agree.listened
  forced   : t.agree.baseForcedFrom = s.agree.baseForcedFrom ∨ t.agree.baseForcedFrom = some s.clock.now

theorem State.StepEnded.changeAgree (s : State) {st : AgreeState} (hst : st ≠ .listen) (g : Option Grade) (r : Reason) :
    s.StepEnded (s.changeAgree st g r) := by
  refine ⟨?_, ?_, .inl ?_⟩ <;> rw [State.changeAgree_agree]
  exact hst

theorem State.StepEnded.confirmFailure (s : State) : s.StepEnded s.confirmFailure := by
  obtain ⟨-, -, hlistened, hstate⟩ := Agree.opened_counts .confirmFailed s.confirmFailure (s.agree.confirmFailed s.clock.now)
  obtain ⟨-, hforced⟩ := Agree.opened_keeps .confirmFailed s.confirmFailure (s.agree.confirmFailed s.clock.now)
  rw [← State.confirmFailure_agree] at hlistened hstate hforced
  refine ⟨?_, ?_, ?_⟩
  · rcases hstate with h | h <;> rw [h] <;> decide
  · rw [hlistened, Agree.confirmFailed]
    split <;> rfl
  · rw [hforced, Agree.confirmFailed]
    split
    · exact .inr rfl
    · exact .inl rfl

theorem State.StepEnded.judgeConfirms (h : s.agree.state ≠ .listen) : s.StepEnded s.judgeConfirms := by
  rw [State.judgeConfirms_eq]
  (repeat' split)
  · exact .confirmFailure s
  · exact .changeAgree s (by decide) _ _
  · exact ⟨h, rfl, .inl rfl⟩

end Sys2Proof.Machine
end

section
/-! SUPPORT. The choice (R99, R100) and the CONFIRM it offers (R101), at the listen timer's end and at a burst heard (R97). Settles O40. -/

namespace Sys2Proof.Machine

variable {s t u w : State}

/-! ## A burst offered to a channel with room (R14, R15) -/

theorem State.offerBurst_offered {k : BurstKind} (hj : s.roster.join ≠ .listenOnly) (hroom : s.rail.size < 8) (p : List Byte) :
    ∃ e ∈ (s.offerBurst k p).rail.queue, e.kind = k ∧ e.payload = p := by
  by_cases hw : s.rail.waits k
  · obtain ⟨before, e, behind, -, hk, -, hqueue⟩ := replaceContent_split p hw.2
    rw [State.offerBurst_waits hj hw]
    refine ⟨{ e with payload := p }, ?_, hk, rfl⟩
    show _ ∈ replaceContent k p s.rail.queue
    rw [hqueue]
    exact List.mem_append_right _ List.mem_cons_self
  · rw [State.offerBurst_room hj hw hroom]
    exact ⟨_, (insertLast_perm _ _).mem_iff.2 List.mem_cons_self, rfl, rfl⟩

/-- The lane does not hear of an offering. -/
theorem State.LaneOrdered.offerBurst (h : s.LaneOrdered) {k : BurstKind} (hk : k ≠ .ask) (p : List Byte) :
    (s.offerBurst k p).LaneOrdered := by
  rw [State.offerBurst_frame s hk]
  exact h.congr rfl rfl rfl rfl rfl rfl

/-! ## The path's entries (R33, R93) -/

theorem Roster.mem_path {r : Roster} {e : Entry} : e ∈ r.path ↔ (e = r.self ∨ e ∈ r.peers) ∧ e.onPath = true := by
  simp only [Roster.path, Roster.entries, List.mem_filter, List.mem_append, List.mem_cons, decide_eq_true_eq]
  by_cases he : e.addr.toNat < r.self.addr.toNat
  · simp only [he, not_true_eq_false, and_true, and_false, or_false]
    rw [or_comm]
  · simp [he]

/-- The CONFIRMs stored of the peers on the path. -/
def State.peerConfirms (s : State) : List (Option Byte) := (s.roster.peers.filter Entry.onPath).map (Entry.confirmOf s.agree.round)

theorem State.mem_heardConfirms (s : State) (c : Option Byte) : c ∈ s.heardConfirms ↔
    (s.roster.self.onPath = true ∧ c = Entry.confirmOf s.agree.round s.roster.self) ∨ c ∈ s.peerConfirms := by
  simp only [State.heardConfirms, State.peerConfirms, List.mem_map, Roster.mem_path, List.mem_filter]
  constructor
  · rintro ⟨e, ⟨rfl | he, hp⟩, rfl⟩
    · exact .inl ⟨hp, rfl⟩
    · exact .inr ⟨e, ⟨he, hp⟩, rfl⟩
  · rintro (⟨hp, rfl⟩ | ⟨e, ⟨he, hp⟩, rfl⟩)
    · exact ⟨_, ⟨.inl rfl, hp⟩, rfl⟩
    · exact ⟨e, ⟨.inr he, hp⟩, rfl⟩

/-! ## The highest common grade (R100) -/

theorem common_iff (sets : List (List Byte)) (g : Grade) :
    sets.all (fun l => l.contains (gradeCode g)) = true ↔ ∀ l ∈ sets, gradeCode g ∈ l := by
  simp [List.all_eq_true]

theorem not_common_iff (sets : List (List Byte)) (g : Grade) :
    sets.all (fun l => l.contains (gradeCode g)) = false ↔ ∃ l ∈ sets, gradeCode g ∉ l := by
  rw [← Bool.not_eq_true, common_iff]
  push Not
  rfl

theorem highestCommon_none {sets : List (List Byte)} (h : ∀ g, ∃ l ∈ sets, gradeCode g ∉ l) : highestCommon sets = none := by
  refine List.find?_eq_none.2 fun g _ => ?_
  rw [Bool.not_eq_true]
  exact (not_common_iff sets g).2 (h g)

/-- The grades are tried from the highest down. -/
theorem find_highest {p : Grade → Bool} {g : Grade} (hg : p g = true) (hhigher : ∀ h, gradeNum g < gradeNum h → p h = false) :
    [Grade.g4, .g3, .g2, .g1].find? p = some g := by
  have hout : ∀ h, gradeNum g < gradeNum h → ¬ p h = true := fun h hlt => by rw [hhigher h hlt]; decide
  cases g
  case g1 => rw [List.find?_cons_of_neg (hout .g4 (by decide)), List.find?_cons_of_neg (hout .g3 (by decide)),
    List.find?_cons_of_neg (hout .g2 (by decide)), List.find?_cons_of_pos hg]
  case g2 => rw [List.find?_cons_of_neg (hout .g4 (by decide)), List.find?_cons_of_neg (hout .g3 (by decide)),
    List.find?_cons_of_pos hg]
  case g3 => rw [List.find?_cons_of_neg (hout .g4 (by decide)), List.find?_cons_of_pos hg]
  case g4 => rw [List.find?_cons_of_pos hg]

theorem highestCommon_some {sets : List (List Byte)} {g : Grade} (hg : ∀ l ∈ sets, gradeCode g ∈ l)
    (hhigher : ∀ h, gradeNum g < gradeNum h → ∃ l ∈ sets, gradeCode h ∉ l) : highestCommon sets = some g :=
  find_highest ((common_iff sets g).2 hg) fun h hlt => (not_common_iff sets h).2 (hhigher h hlt)

theorem State.gatheredSets_eq (s : State) :
    s.gatheredSets = s.roster.path.map (fun e => (Entry.heldSet s.agree.round e).getD [1]) := by
  refine List.map_congr_left fun e _ => ?_
  cases Entry.heldSet s.agree.round e <;> rfl

/-! ## CONFIRMING entered (R101) -/

/-- The node is CONFIRMING `g`, its own CONFIRM stored and offered; those already stored are not judged yet. -/
def State.offersConfirm (g : Grade) (s : State) : State :=
  ((s.changeAgree .confirming (some g) s.agree.reason).mapSelf (fun e =>
    { e with confirm := some ⟨s.agree.round, gradeCode g⟩ })).offerBurst .confirm (confirmPayload s.agree.round (some g))

/-- What the offering of the own CONFIRM leaves in the node `w`. -/
structure State.Confirming (s w : State) (g : Grade) : Prop where
  handed  : ∀ free, s.Handed free w
  ordered : w.LaneOrdered
  agree   : w.agree = { s.agree with state := .confirming, chosen := some g, stepFrom := some s.clock.now }
  power   : w.power = s.power
  self    : w.roster.self.confirm = some ⟨s.agree.round, gradeCode g⟩
  offered : s.roster.join ≠ .listenOnly → s.rail.size < 8 → ∃ e ∈ w.rail.queue, e.kind = .confirm ∧
    e.payload = leBytes 2 s.agree.round.toNat ++ [gradeCode g]

theorem State.offersConfirm_confirming (g : Grade) (s : State) : s.Confirming (s.offersConfirm g) g := by
  obtain ⟨v, hv⟩ : ∃ v, v = s.changeAgree .confirming (some g) s.agree.reason := ⟨_, rfl⟩
  obtain ⟨x, hx⟩ : ∃ x, x = v.mapSelf (fun e => { e with confirm := some ⟨s.agree.round, gradeCode g⟩ }) := ⟨_, rfl⟩
  have hoffers : s.offersConfirm g = x.offerBurst .confirm (confirmPayload s.agree.round (some g)) := by rw [hx, hv]; rfl
  have hordered : x.LaneOrdered := by
    have h := s.changeAgree_ordered .confirming (some g) s.agree.reason
    rw [← hv] at h
    rw [hx]
    exact h.congr rfl rfl rfl rfl rfl rfl
  have hhanded : ∀ free, s.Handed free x := fun free => by
    have h : s.Handed free v := by rw [hv]; exact .changeAgree s (by decide) _ _
    refine h.trans ?_
    rw [hx]
    exact .still rfl rfl rfl ⟨rfl, rfl, rfl, rfl, rfl⟩ ⟨rfl, rfl, rfl⟩ ⟨rfl, rfl⟩ rfl rfl rfl
  have hagree : x.agree = { s.agree with state := .confirming, chosen := some g, stepFrom := some s.clock.now } := by
    rw [hx, hv]; exact State.changeAgree_agree ..
  have hpower : x.power = s.power := by rw [hx, hv]; exact State.changeAgree_power ..
  have hself : x.roster.self.confirm = some ⟨s.agree.round, gradeCode g⟩ := by rw [hx]; rfl
  have hchannel : x.rail = s.rail ∧ x.roster.join = s.roster.join := by
    rw [hx, hv]
    exact ⟨State.changeAgree_rail .., congrArg Core.join (core_of_beyond (State.changeAgree_beyond ..))⟩
  have hframe := x.offerBurst_frame (k := .confirm) (by decide) (confirmPayload s.agree.round (some g))
  rw [hoffers]
  refine ⟨fun free => (hhanded free).trans (.offerBurst x (by decide) _), hordered.offerBurst (by decide) _, ?_, ?_, ?_,
    fun hj hroom => ?_⟩
  · rw [hframe]; exact hagree
  · rw [hframe]; exact hpower
  · rw [hframe]; exact hself
  · exact State.offerBurst_offered (by rw [hchannel.2]; exact hj) (by rw [hchannel.1]; exact hroom) _

namespace State.Confirming

variable {g : Grade}

theorem sameRound (h : s.Confirming w g) : s.SameRound w := by
  refine ⟨?_, (h.handed .baseForced).alike, by rw [h.power]⟩
  rw [h.agree]

theorem parked (h : s.Confirming w g) : w.parked = s.parked := (h.handed .baseForced).parked (by rw [h.power])

theorem peerConfirms (h : s.Confirming w g) : w.peerConfirms = s.peerConfirms := by
  rw [State.peerConfirms, State.peerConfirms, (h.handed .baseForced).alike.peers, h.agree]

/-- The own CONFIRM matches, so the peers' decide. -/
theorem mem_heard (h : s.Confirming w g) {c : Option Byte} (hc : c ≠ some (gradeCode g)) :
    c ∈ w.heardConfirms ↔ c ∈ s.peerConfirms := by
  have hown : Entry.confirmOf w.agree.round w.roster.self = some (gradeCode g) := by
    rw [Entry.confirmOf, h.self, h.agree]
    exact if_pos rfl
  rw [State.mem_heardConfirms, hown, h.peerConfirms]
  exact or_iff_right fun hself => hc hself.2

theorem heard_matches (h : s.Confirming w g) (hm : ∀ c ∈ s.peerConfirms, c = none ∨ c = some (gradeCode g)) :
    ∀ c ∈ w.heardConfirms, c = none ∨ c = some (gradeCode g) := fun c hc => by
  by_cases hg : c = some (gradeCode g)
  · exact .inr hg
  · exact hm c ((h.mem_heard hg).1 hc)

/-- The CONFIRMs already stored, judged at once: a missing one leaves the step open, all matching enter TRAINING. -/
theorem judged (h : s.Confirming w g) (hm : ∀ c ∈ s.peerConfirms, c = none ∨ c = some (gradeCode g)) :
    w.judgeConfirms.agree = { s.agree with
      state := if none ∈ s.peerConfirms then .confirming else .training, chosen := some g
      stepFrom := some w.judgeConfirms.clock.now } ∧
    (none ∉ s.peerConfirms → s.TrainsAt w.judgeConfirms g) ∧
    w.judgeConfirms.roster.self.confirm = some ⟨s.agree.round, gradeCode g⟩ := by
  have hchosen : w.agree.chosen = some g := by rw [h.agree]
  have hclock := (h.handed .baseForced).clock
  by_cases hnone : none ∈ s.peerConfirms
  · rw [State.judgeConfirms_missing hchosen (h.heard_matches hm) ((h.mem_heard (by simp)).2 hnone), if_pos hnone, h.agree, hclock]
    exact ⟨rfl, fun hn => absurd hnone hn, h.self⟩
  · have hall : ∀ c ∈ w.heardConfirms, c = some (gradeCode g) := fun c hc => by
      rcases h.heard_matches hm c hc with rfl | hg
      · exact absurd ((h.mem_heard (by simp)).1 hc) hnone
      · exact hg
    have hhanded : w.Handed .baseForced w.enterTraining := .enterTraining w
    obtain ⟨l, m, -, -, hframe⟩ := w.changeAgree_frame .training w.agree.chosen w.agree.reason
    have htrains := State.enterTraining_trainsAt hchosen
    unfold State.TrainsAt State.tetherPowered at htrains
    rw [h.parked, (h.handed .baseForced).role] at htrains
    rw [State.judgeConfirms_all hchosen hall, if_neg hnone, State.enterTraining_agree, hhanded.clock, h.agree]
    refine ⟨rfl, fun _ => htrains, ?_⟩
    rw [State.enterTraining, hframe]
    exact h.self

end State.Confirming

/-! ## The choice (R100) -/

/-- The choice made in the round of `s`, seen at the end `t` of its event. -/
def State.ChoiceMade (s t : State) : Prop :=
  let sets := s.roster.path.map (fun e => (Entry.heldSet s.agree.round e).getD [1])
  s.PathRailFrame t ∧ s.HandedOn t ∧
  (s.power.modeSet = [] →
    t.agree = { s.agree with state := .halted, chosen := none, reason := .ownSetEmpty, stepFrom := none }) ∧
  (s.power.modeSet ≠ [] → (∀ g, ∃ l ∈ sets, gradeCode g ∉ l) →
    t.agree = { s.agree with state := .halted, chosen := none, reason := .noCommonGrade, stepFrom := none }) ∧
  ∀ g, s.power.modeSet ≠ [] → (∀ l ∈ sets, gradeCode g ∈ l) →
    (∀ h, gradeNum g < gradeNum h → ∃ l ∈ sets, gradeCode h ∉ l) →
    ((∀ c ∈ s.peerConfirms, c = none ∨ c = some (gradeCode g)) →
      t.agree = { s.agree with
        state := if none ∈ s.peerConfirms then .confirming else .training, chosen := some g, stepFrom := some t.clock.now } ∧
      (none ∉ s.peerConfirms → s.TrainsAt t g) ∧
      t.roster.self.confirm = some ⟨s.agree.round, gradeCode g⟩ ∧
      (s.roster.join ≠ .listenOnly → s.rail.size < 8 → ∃ e ∈ t.rail.queue, e.kind = .confirm ∧
        e.payload = leBytes 2 s.agree.round.toNat ++ [gradeCode g])) ∧
    ((∃ c ∈ s.peerConfirms, c ≠ none ∧ c ≠ some (gradeCode g)) → s.ConfirmFailed t)

theorem State.choose_empty (hm : s.power.modeSet = []) : s.choose = s.halt .ownSetEmpty := if_pos hm

theorem State.choose_none (hm : s.power.modeSet ≠ []) (h : highestCommon s.gatheredSets = none) : s.choose = s.halt .noCommonGrade := by
  rw [State.choose, if_neg hm, h]

theorem State.choose_some {g : Grade} (hm : s.power.modeSet ≠ []) (h : highestCommon s.gatheredSets = some g) :
    s.choose = (s.offersConfirm g).judgeConfirms := by
  rw [State.choose, if_neg hm, h]
  rfl

theorem State.choose_ordered (s : State) : s.choose.LaneOrdered := by
  unfold State.choose
  (repeat' split)
  · exact s.changeAgree_ordered _ _ _
  · exact s.changeAgree_ordered _ _ _
  · exact State.judgeConfirms_ordered (s.offersConfirm_confirming _).ordered

theorem State.StepEnded.choose (s : State) : s.StepEnded s.choose := by
  unfold State.choose
  (repeat' split)
  · exact .changeAgree s (by decide) _ _
  · exact .changeAgree s (by decide) _ _
  · next g _ =>
    have hconfirming := s.offersConfirm_confirming g
    have hjudged : (s.offersConfirm g).StepEnded (s.offersConfirm g).judgeConfirms :=
      .judgeConfirms (by rw [hconfirming.agree]; exact AgreeState.noConfusion)
    obtain ⟨hstate, hlistened, hforced⟩ := hjudged
    rw [hconfirming.agree] at hlistened hforced
    rw [(hconfirming.handed .baseForced).clock] at hforced
    exact ⟨hstate, hlistened, hforced⟩

theorem State.choose_choiceMade (s : State) : s.ChoiceMade s.choose := by
  have hhanded : s.Handed .baseForced s.choose := .choose s
  refine ⟨hhanded.frame, s.choose_ordered.handedOn hhanded, fun hm => ?_, fun hm hnone => ?_, fun g hm hin hhigher => ?_⟩
  · rw [State.choose_empty hm]; exact State.changeAgree_agree ..
  · rw [State.choose_none hm (by rw [s.gatheredSets_eq]; exact highestCommon_none hnone)]
    exact State.changeAgree_agree ..
  · have hconfirming := s.offersConfirm_confirming g
    have hchosen : (s.offersConfirm g).agree.chosen = some g := by rw [hconfirming.agree]
    rw [State.choose_some hm (by rw [s.gatheredSets_eq]; exact highestCommon_some hin hhigher)]
    refine ⟨fun hmatch => ?_, fun ⟨c, hc, hnone, hother⟩ => ?_⟩
    · obtain ⟨hagree, htrains, hself⟩ := hconfirming.judged hmatch
      refine ⟨hagree, htrains, hself, fun hj hroom => ?_⟩
      rw [State.judgeConfirms_rail]
      exact hconfirming.offered hj hroom
    · rw [State.judgeConfirms_other hchosen ⟨c, (hconfirming.mem_heard hother).2 hc, hnone, hother⟩]
      exact hconfirming.sameRound.confirmFailed

/-! ## The round heard (R97) -/

/-- No round is later than itself (R97). -/
theorem later_irrefl (r : Half) : later r r = false := by simp [later]

theorem State.roundHeard_offPath (h : s.onPath = false) (b : Bool) (r : Half) : s.roundHeard b r = s := if_pos (by rw [h]; rfl)

theorem State.roundHeard_earlier {r : Half} (hl : later r s.agree.round = false) (hne : r ≠ s.agree.round) (b : Bool) :
    s.roundHeard b r = s := by
  cases h : s.onPath with
  | false => exact State.roundHeard_offPath h b r
  | true => exact (if_neg (by rw [h]; decide)).trans ((if_neg (by rw [hl]; decide)).trans (if_pos hne))

theorem State.roundHeard_later (h : s.onPath = true) {r : Half} (hl : later r s.agree.round = true) (b : Bool) :
    s.roundHeard b r = s.adopt r := (if_neg (by rw [h]; decide)).trans (if_pos hl)

section current

variable (h : s.onPath = true)
include h

/-- The last MODESET of the round ends LISTEN. -/
theorem State.roundHeard_listen (hst : s.agree.state = .listen) :
    s.roundHeard false s.agree.round = if s.allHeld then s.choose else s := by
  unfold State.roundHeard
  rw [h, later_irrefl, hst, if_neg (by decide), if_neg (by decide), if_neg (not_not.2 rfl)]

/-- A CONFIRM of the round is judged with those stored. -/
theorem State.roundHeard_confirming (hst : s.agree.state = .confirming) : s.roundHeard true s.agree.round = s.judgeConfirms := by
  unfold State.roundHeard
  rw [h, later_irrefl, hst, if_neg (by decide), if_neg (by decide), if_neg (not_not.2 rfl)]

/-- A burst of the round in a step that does not gather its kind. -/
theorem State.roundHeard_ungathered {b : Bool} (hlisten : s.agree.state = .listen → b = true)
    (hconfirming : s.agree.state = .confirming → b = false) : s.roundHeard b s.agree.round = s := by
  unfold State.roundHeard
  rw [h, later_irrefl, if_neg (by decide), if_neg (by decide), if_neg (not_not.2 rfl)]
  split
  · next hst => exact absurd (hlisten hst) (by decide)
  · next hst => exact absurd (hconfirming hst) (by decide)
  · rfl

end current

theorem State.allHeld_iff (s : State) : s.allHeld = true ↔ ∀ e ∈ s.roster.path, (Entry.heldSet s.agree.round e).isSome :=
  List.all_eq_true

/-! ## The ends of the steps' timers (R98, R99, R101, R105) -/

/-- At a node in the step its timer's end takes the step's act, at the time it is due. -/
theorem stepOver_running {st : AgreeState} {t0 : Nat} (hp : s.powered = true) (hst : s.agree.state = st) (ht : s.agree.stepFrom = some t0)
    (span : Nat) (act : State → State) : whilePowered s (State.stepOver st span act) = .next (act (s.advanceTo (t0 + span))) := by
  rw [whilePowered_on hp, State.stepOver, if_pos hst, runOut_running ht]

/-- Settles O40: the choice in each way it comes about, then a CONFIRM heard. -/
theorem listenEndsInChoice : Obligations.ListenEndsInChoice := by
  intro s
  refine ⟨fun t0 hp hst ht => ?_, fun hpath hst hheld => ?_, fun g hpath hst hg => ?_⟩
  · obtain ⟨c, hc⟩ : ∃ c, s.advanceTo (t0 + 150000) = { s with clock := c } := ⟨_, rfl⟩
    have hexec : exec .listenTimerExpiry s = .next (s.advanceTo (t0 + 150000)).choose := stepOver_running hp hst ht _ _
    have hhanded : ({ s with clock := c } : State).Handed .baseForced ({ s with clock := c } : State).choose := .choose _
    rw [hc] at hexec ⊢
    exact ⟨_, hexec, hhanded.clock, ({ s with clock := c } : State).choose_choiceMade⟩
  · have hhanded : s.Handed .baseForced s.choose := .choose _
    dsimp only
    rw [State.roundHeard_listen hpath hst, if_pos (s.allHeld_iff.2 hheld)]
    exact ⟨hhanded.clock, s.choose_choiceMade⟩
  · dsimp only
    rw [State.roundHeard_confirming hpath hst]
    refine ⟨fun hall => ?_, fun hother => ?_, fun hmatch hnone => State.judgeConfirms_missing hg hmatch hnone⟩
    · have hhanded : s.Handed .baseForced s.enterTraining := .enterTraining s
      rw [State.judgeConfirms_all hg hall]
      exact ⟨hhanded.clock, hhanded.frame.pathFrame (by simp) (by simp), s.enterTraining_agree, State.enterTraining_trainsAt hg,
        (s.changeAgree_ordered _ _ _).handedOn hhanded⟩
    · have hhanded : s.Handed .baseForced s.confirmFailure := .confirmFailure s
      rw [State.judgeConfirms_other hg hother]
      exact ⟨hhanded.clock, hhanded.frame.pathFrame (by simp) (by simp), (State.SameRound.refl s).confirmFailed,
        s.confirmFailure_rests.ordered.handedOn hhanded⟩

end Sys2Proof.Machine
end

section
/-! SUPPORT. The adoption of a round (R97, R108), the round told of a burst stored (R36, R97), and the entry into LISTEN (R98, R99).
Settles O39. -/

namespace Sys2Proof.Machine

variable {s t u w : State}

/-! ## Adoption (R97) -/

theorem Agree.staysHalted_iff (a : Agree) : a.staysHalted = true ↔
    a.state = .halted ∧ (a.reason = .notJoined ∨ a.reason = .listenOnly ∨ a.reason = .chainIncomplete) := by
  simp [Agree.staysHalted, or_assoc]

theorem State.setRound_chainComplete (s : State) (r : Half) : (s.setRound r).roster.chainComplete = s.roster.chainComplete :=
  (State.Handed.setRound (free := .baseForced) s r).alike.chainComplete

theorem State.adopt_stays (h : s.agree.staysHalted = true) (r : Half) : s.adopt r = s.setRound r := if_pos h

theorem State.adopt_incomplete (h : s.agree.staysHalted = false) (hc : s.roster.chainComplete = false) (r : Half) :
    s.adopt r = (s.setRound r).halt .chainIncomplete :=
  (if_neg (by rw [h]; decide)).trans (if_pos (by rw [State.setRound_chainComplete, hc]; rfl))

theorem State.adopt_settles (h : s.agree.staysHalted = false) (hc : s.roster.chainComplete = true) (r : Half) :
    s.adopt r = (s.setRound r).enterSettle .adopted :=
  (if_neg (by rw [h]; decide)).trans (if_neg (by rw [State.setRound_chainComplete, hc]; decide))

/-- The current round changes the own mode set too until LISTEN is entered (R108). -/
theorem State.setRound_modeSet (s : State) (r : Half) : (s.setRound r).roster.self.modeSet =
    if s.agree.listened then s.roster.self.modeSet else s.roster.self.modeSet.map (fun m => { m with round := r }) := by
  unfold State.setRound
  cases s.agree.listened <;> rfl

theorem State.setRound_frame (s : State) (r : Half) : s.setRound r = { s with
    agree := { s.agree with round := r }, roster := { s.roster with self := (s.setRound r).roster.self } } := rfl

theorem State.adopt_pathFrame (s : State) (r : Half) : s.PathFrame (s.adopt r) := by
  refine (State.Handed.adopt s r).frame.pathFrame ?_ ?_ <;>
  · unfold State.adopt
    dsimp only
    (repeat' split) <;> simp

theorem State.adopt_modeSet (s : State) (r : Half) : (s.adopt r).roster.self.modeSet = (s.setRound r).roster.self.modeSet := by
  unfold State.adopt
  dsimp only
  (repeat' split)
  · rfl
  · exact State.changeAgree_modeSet ..
  · exact State.changeAgree_modeSet ..

theorem State.adopt_rests (h : s.agree.staysHalted = false) (r : Half) : (s.adopt r).LaneRests := by
  cases hc : s.roster.chainComplete with
  | false => rw [State.adopt_incomplete h hc]; exact State.changeAgree_rests _ (.inl rfl) _
  | true => rw [State.adopt_settles h hc]; exact State.changeAgree_rests _ (.inr rfl) _

/-! ## The round told of a burst stored (R36, R97) -/

/-- A MODESET or CONFIRM changes no role. -/
theorem Heard.round_role {h : Heard} (hk : h.kind = .modeset ∨ h.kind = .confirm) (e : Entry) : (Entry.take h e).role = e.role := by
  unfold Entry.take
  rcases hk with hk | hk <;> rw [hk] <;> dsimp only <;> split <;> rfl

/-- Nothing but the round is told of a stored MODESET or CONFIRM; a copy of the schedule follows the roster as ever. -/
theorem State.tellChange_round {h : Heard} (hk : h.kind = .modeset ∨ h.kind = .confirm) (s : State) (old : Option Entry) :
    s.tellChange old (some (h.entry old)) = s.syncSchedule := by
  obtain ⟨hoffer, hclaim⟩ := Heard.round_keeps hk (old.getD (newEntry h.sender))
  have hsupply : offerOrClaimChanged old (some (h.entry old)) = false := by
    rw [Heard.offerOrClaim, hoffer, hclaim]
    simp
  have hpath : (optionOnPath old != optionOnPath (some (h.entry old))) = false := by
    rw [Heard.path, Entry.onPath, Entry.onPath, Heard.round_role hk]
    simp
  rw [State.tellChange_eq, hsupply, hpath]
  rfl

theorem State.tellRound_permitted {h : Heard} (hk : h.kind = .modeset ∨ h.kind = .confirm) {e : Entry}
    (hr : modeSetPermitted e.role = true) (s : State) : s.tellRound h e = s.roundHeard (h.kind == .confirm) (halfAt h.payload 0) := by
  unfold State.tellRound
  rcases hk with hk | hk <;> rw [hk] <;> exact if_pos hr

/-- What a permitted MODESET or CONFIRM of a peer does: its entry stands, then the round is told. -/
theorem State.rosterTakes_round {h : Heard} (hk : h.kind = .modeset ∨ h.kind = .confirm)
    (hroom : s.roster.peers.length < 6 ∨ s.roster.find h.sender ≠ none)
    (hr : modeSetPermitted ((s.roster.find h.sender).getD (newEntry h.sender)).role = true) :
    s.rosterTakes h = (s.entered h).syncSchedule.roundHeard (h.kind == .confirm) (halfAt h.payload 0) := by
  have hnotice : ¬(h.kind = .notice ∧ byteAt h.payload 0 = 4) := by
    rintro ⟨hn, -⟩
    rw [hn] at hk
    rcases hk with hk | hk <;> cases hk
  have hrole : (h.entry (s.roster.find h.sender)).role = ((s.roster.find h.sender).getD (newEntry h.sender)).role :=
    Heard.round_role hk _
  rw [State.rosterTakes_eq hnotice hroom, State.tellChange_round hk, State.tellRound_permitted hk (hrole ▸ hr)]

/-! ## LISTEN entered (R98, R99) -/

/-- What the entry into LISTEN leaves in the node `w`, before a step whose sets are all held ends. -/
structure State.Listening (s w : State) : Prop where
  handed  : ∀ free, s.Handed free w
  ordered : w.LaneOrdered
  agree   : w.agree = { s.agree with state := .listen, chosen := none, stepFrom := some s.clock.now, listened := true }
  self    : w.roster.self.modeSet = s.roster.self.modeSet.map (fun m => { m with round := s.agree.round })
  offered : s.roster.join ≠ .listenOnly → s.rail.size < 8 → ∃ e ∈ w.rail.queue, e.kind = .modeset ∧
    e.payload = leBytes 2 s.agree.round.toNat ++ gradeCode s.effectiveCeiling :: s.power.modeSet.map gradeCode

theorem State.startListen_listening (s : State) : s.Listening s.startListen := by
  obtain ⟨v, hv⟩ : ∃ v, v = s.noteListened.changeAgree .listen none s.agree.reason := ⟨_, rfl⟩
  have hagree : v.agree = { s.agree with state := .listen, chosen := none, stepFrom := some s.clock.now, listened := true } := by
    rw [hv, State.changeAgree_agree]; rfl
  have hhanded : ∀ free, s.Handed free v.writeRound := fun free => by
    have hnoted : s.Handed free s.noteListened :=
      .still rfl rfl rfl ⟨rfl, rfl, rfl, rfl, rfl⟩ ⟨rfl, rfl, rfl⟩ ⟨rfl, rfl⟩ rfl rfl rfl
    have hlisten : s.noteListened.Handed free v := by rw [hv]; exact .changeAgree _ (by decide) _ _
    refine (hnoted.trans hlisten).trans ?_
    exact .still rfl rfl rfl ⟨rfl, rfl, rfl, rfl, rfl⟩ ⟨rfl, rfl, rfl⟩ ⟨rfl, rfl⟩ rfl rfl rfl
  have hordered : v.writeRound.LaneOrdered := by
    have h := s.noteListened.changeAgree_ordered .listen none s.agree.reason
    rw [← hv] at h
    exact h.congr rfl rfl rfl rfl rfl rfl
  have hself : v.writeRound.roster.self.modeSet = s.roster.self.modeSet.map (fun m => { m with round := s.agree.round }) := by
    have hround : v.agree.round = s.agree.round := by rw [hagree]
    have hset : v.roster.self.modeSet = s.roster.self.modeSet := by rw [hv]; exact State.changeAgree_modeSet ..
    rw [← hround, ← hset]
    rfl
  have hchannel : v.writeRound.rail = s.rail ∧ v.writeRound.roster.join = s.roster.join := by
    rw [hv]
    exact ⟨State.changeAgree_rail .., congrArg Core.join (core_of_beyond (State.changeAgree_beyond ..))⟩
  have hstart : s.startListen = v.writeRound.offerBurst .modeset (modeSetPayload s.agree.round s.effectiveCeiling s.power.modeSet) := by
    rw [hv]; rfl
  have hframe := v.writeRound.offerBurst_frame (k := .modeset) (by decide)
    (modeSetPayload s.agree.round s.effectiveCeiling s.power.modeSet)
  rw [hstart]
  refine ⟨fun free => (hhanded free).trans (.offerBurst _ (by decide) _), hordered.offerBurst (by decide) _, ?_, ?_, fun hj hroom => ?_⟩
  · rw [hframe]; exact hagree
  · rw [hframe]; exact hself
  · exact State.offerBurst_offered (by rw [hchannel.2]; exact hj) (by rw [hchannel.1]; exact hroom) _

/-- The own set holds the round, so the peers' decide whether all are held. -/
theorem State.Listening.allHeld_iff (h : s.Listening w) {m : ModeSet} (hm : s.roster.self.modeSet = some m) :
    w.allHeld = true ↔ ∀ e ∈ s.roster.peers, e.onPath = true → (Entry.heldSet s.agree.round e).isSome := by
  have hround : w.agree.round = s.agree.round := by rw [h.agree]
  have hown : (Entry.heldSet s.agree.round w.roster.self).isSome := by
    rw [Entry.heldSet, h.self, hm, Option.map_some]
    dsimp only
    rw [if_pos rfl]
    rfl
  have hpeers : w.roster.peers = s.roster.peers := (h.handed .baseForced).alike.peers
  rw [State.allHeld_iff, hround]
  simp only [Roster.mem_path, hpeers]
  refine ⟨fun hall e he hp => hall e ⟨.inr he, hp⟩, fun hall e ⟨he, hp⟩ => ?_⟩
  rcases he with rfl | he
  · exact hown
  · exact hall e he hp

theorem State.enterListen_waits (h : s.startListen.allHeld = false) : s.enterListen = s.startListen := if_neg (by rw [h]; decide)

theorem State.enterListen_ends (h : s.startListen.allHeld = true) : s.enterListen = s.startListen.choose := if_pos h

theorem State.Handed.enterListen (s : State) : s.Handed .baseForced s.enterListen := by
  have hstart := s.startListen_listening.handed .baseForced
  unfold State.enterListen
  split
  · exact hstart.trans (.choose _)
  · exact hstart

theorem State.enterListen_ordered (s : State) : s.enterListen.LaneOrdered := by
  unfold State.enterListen
  split
  · exact State.choose_ordered _
  · exact s.startListen_listening.ordered

theorem State.enterListen_listened (s : State) : s.enterListen.agree.listened = true := by
  have hstart : s.startListen.agree.listened = true := by rw [s.startListen_listening.agree]
  unfold State.enterListen
  split
  · exact (State.StepEnded.choose _).listened.trans hstart
  · exact hstart

/-- What the settle timer's end does in the round of `s`. -/
theorem State.enterListen_entered {m : ModeSet} (hm : s.roster.self.modeSet = some m) :
    ((∃ e ∈ s.roster.peers, e.onPath = true ∧ Entry.heldSet s.agree.round e = none) → s.Listening s.enterListen) ∧
    ((∀ e ∈ s.roster.peers, e.onPath = true → (Entry.heldSet s.agree.round e).isSome) → s.enterListen.agree.state ≠ .listen) := by
  have hlistening := s.startListen_listening
  refine ⟨fun ⟨e, he, hp, hnone⟩ => ?_, fun hall => ?_⟩
  · have hwaits : s.startListen.allHeld = false := by
      rw [Bool.eq_false_iff, ne_eq, hlistening.allHeld_iff hm]
      intro hall
      have hsome := hall e he hp
      rw [hnone] at hsome
      cases hsome
    rw [State.enterListen_waits hwaits]
    exact hlistening
  · rw [State.enterListen_ends ((hlistening.allHeld_iff hm).2 hall)]
    exact (State.StepEnded.choose _).state

/-- Settles O39: adoption, the round told of a stored burst, and the settle timer's end. -/
theorem settleEndsInListen : Obligations.SettleEndsInListen := by
  refine ⟨fun s b r => ⟨fun hignored => ?_, fun hr hlisten hconfirming => ?_, fun hpath hlater => ?_⟩,
    fun s h hsound hk hroom => ?_, fun s t0 m hp hst ht hm => ?_⟩
  · rcases hignored with hpath | ⟨hlater, hne⟩
    · exact State.roundHeard_offPath hpath b r
    · exact State.roundHeard_earlier hlater hne b
  · subst hr
    cases hpath : s.onPath with
    | false => exact State.roundHeard_offPath hpath b _
    | true =>
      by_cases hmodeset : s.agree.state = .listen ∧ b = false
      · obtain ⟨hstate, rfl⟩ := hmodeset
        obtain ⟨e, he, hnone⟩ := (hlisten hstate).resolve_left (by decide)
        rw [State.roundHeard_listen hpath hstate, if_neg]
        rw [State.allHeld_iff]
        intro hall
        have hsome := hall e he
        rw [hnone] at hsome
        cases hsome
      · exact State.roundHeard_ungathered hpath (fun hstate => by simpa using fun hb => hmodeset ⟨hstate, hb⟩) hconfirming
  · dsimp only
    have hhanded : s.Handed .baseForced (s.adopt r) := .adopt s r
    rw [State.roundHeard_later hpath hlater]
    simp only [← Agree.staysHalted_iff, Bool.not_eq_true]
    refine ⟨hhanded.clock, s.adopt_pathFrame r, fun m hm => ?_, fun hstays => ?_, fun hmoves hc => ?_, fun hmoves => ?_,
      fun hmoves hc => ?_⟩
    · rw [State.adopt_modeSet, State.setRound_modeSet, hm]
      cases s.agree.listened <;> rfl
    · rw [State.adopt_stays hstays]
      exact ⟨rfl, s.setRound_frame r⟩
    · rw [State.adopt_incomplete hmoves hc]
      exact State.changeAgree_agree ..
    · exact (State.adopt_rests hmoves r).handedOn hhanded
    · rw [State.adopt_settles hmoves hc]
      exact State.changeAgree_agree ..
  · intro e hr joined u
    rw [State.rosterTakes_round hk hroom hr]
    have hentered : s.entered h = joined.setPeers (putEntry (Entry.take h { e with lastHeard := some h.local' }) s.roster.peers) := by
      unfold State.entered
      simp only [Option.isNone_iff_eq_none]
      rfl
    rw [hentered]
  · obtain ⟨c, hc⟩ : ∃ c, s.advanceTo (t0 + 80000) = { s with clock := c } := ⟨_, rfl⟩
    have hexec : exec .settleTimerExpiry s = .next (s.advanceTo (t0 + 80000)).enterListen := stepOver_running hp hst ht _ _
    have hhanded : ({ s with clock := c } : State).Handed .baseForced ({ s with clock := c } : State).enterListen := .enterListen _
    have hon : ({ s with clock := c } : State).HandedOn ({ s with clock := c } : State).enterListen :=
      (State.enterListen_ordered _).handedOn hhanded
    obtain ⟨hwaits, hends⟩ := State.enterListen_entered (s := { s with clock := c }) hm
    rw [hc] at hexec ⊢
    refine ⟨_, hexec, hhanded.clock, hhanded.frame, State.enterListen_listened _, hon, fun hmissing => ?_, hends⟩
    have hlistening := hwaits hmissing
    refine ⟨?_, ?_, hlistening.offered⟩
    · rw [hlistening.agree, hhanded.clock]
    · rw [hlistening.self]
      show s.roster.self.modeSet.map _ = _
      rw [hm]
      rfl

end Sys2Proof.Machine
end

section
/-! SUPPORT. A settled claim (R54, R56 to R58, R63, R64, R86): what the change of the node's own claim announces and computes, before cap
and mode set are formed. -/

namespace Sys2Proof.Machine

variable {s t u v : State}

/-! ## The announcement of a changed claim (R56, R57) -/

/-- Announcing the claim changes the channel, the counters and the claim's period alone. -/
theorem State.announceClaim_frame (s : State) : s.announceClaim = { s with
    rail := s.announceClaim.rail, counters := s.announceClaim.counters
    power := { s.power with claimFrom :=
      if s.roster.join = .active ∧ s.roster.self.claim.isSome then some s.clock.now else s.power.claimFrom } } := by
  cases hc : s.roster.self.claim with
  | none => simp [State.announceClaim, hc]
  | some k =>
    rw [State.announceClaim_eq hc]
    by_cases hj : s.roster.join = .active
    · rw [if_pos hj, if_pos ⟨hj, rfl⟩]
      refine State.offerBurst_frame ({ s with power := { s.power with claimFrom := some s.clock.now } } : State) ?_ _
      decide
    · rw [if_neg hj, if_neg (fun h => hj h.1)]

theorem State.announceClaim_channel (s : State) : s.announceClaim.SameChannel
    (s.announcing none (if s.roster.join = .active then s.roster.self.claim else none)) := by
  cases hc : s.roster.self.claim with
  | none =>
    have hsame : s.announceClaim = s := by simp [State.announceClaim, hc]
    rw [ite_self, hsame]
    exact ⟨rfl, rfl, rfl, rfl⟩
  | some k =>
    rw [State.announceClaim_eq hc]
    by_cases hj : s.roster.join = .active
    · rw [if_pos hj, if_pos hj]
      refine State.SameChannel.offerBurst ?_ (by decide) _
      exact ⟨rfl, rfl, rfl, rfl⟩
    · rw [if_neg hj, if_neg hj]
      exact ⟨rfl, rfl, rfl, rfl⟩

/-- Of a claim that changed alone, its own burst and period. -/
theorem State.announced_of_claim (hclaim : t.roster.self.claim ≠ s.roster.self.claim)
    (hoffer : t.roster.self.offer = s.roster.self.offer) :
    s.Announced t ↔
    let claim := if s.roster.join = .active then t.roster.self.claim else none
    let w := ({ s with clock := t.clock } : State).announcing none claim
    t.rail = w.rail ∧ t.counters = w.counters ∧
    t.power.offerFrom = s.power.offerFrom ∧ t.power.claimFrom = (if claim.isSome then some t.clock.now else s.power.claimFrom) := by
  rw [State.announced_iff]
  simp only [hclaim, hoffer, ne_eq, not_true_eq_false, not_false_eq_true, and_true, and_false, if_false, Option.isSome_none,
    Bool.false_eq_true]

/-- An announcement reads channel, counters, join state, the self entry and the periods before it. -/
theorem State.Announced.of_before (h : u.Announced t) (hrail : u.rail = s.rail) (hcounters : u.counters = s.counters)
    (hroster : u.roster = s.roster) (hperiods : u.power.offerFrom = s.power.offerFrom ∧ u.power.claimFrom = s.power.claimFrom) :
    s.Announced t := by
  have hsame : ({ u with clock := t.clock, roster := s.roster } : State).SameChannel { s with clock := t.clock } :=
    ⟨hrail, hcounters, rfl, rfl⟩
  rw [State.announced_iff, hroster, hperiods.1, hperiods.2] at h
  obtain ⟨hr, hc, hp⟩ := h
  exact State.announced_iff.2 ⟨hr.trans (hsame.announcing _ _).rail, hc.trans (hsame.announcing _ _).counters, hp⟩

/-- Steps that offer and count nothing more leave it as it was announced. -/
theorem State.Announced.handed {free : Flag} (h : s.Announced t) (hh : t.Handed free u) (hrail : u.rail = t.rail)
    (hcounters : u.counters = t.counters) : s.Announced u := by
  obtain ⟨-, -, -, hoffer, hclaim⟩ := hh.self
  unfold State.Announced at *
  rw [hoffer, hclaim, hrail, hcounters, hh.clock, hh.period.1, hh.period.2]
  exact h

/-! ## The claim settled, as far as the allowance list (R54, R58) -/

/-- The self entry holds the claim as it stands. -/
def State.claimWritten (s : State) : State := { s with roster := { s.roster with self := { s.roster.self with claim := s.ownClaim } } }

theorem State.settleClaimList_same (h : s.roster.self.claim = s.ownClaim) : s.settleClaimList = s := if_pos h

theorem State.settleClaimList_new (h : s.roster.self.claim ≠ s.ownClaim) : s.settleClaimList = s.claimWritten.announceClaim.supplied :=
  if_neg h

/-- Channel, counters, the claim and its period, the list, the grace and flags are all it writes. -/
theorem State.settleClaimList_frame (s : State) : ∃ r k cf al lo gr w, s.settleClaimList = { s with
    rail := r, counters := k
    power := { s.power with claimFrom := cf, allowances := al, lostActive := lo, graceFrom := gr }
    roster := { s.roster with self := { s.roster.self with claim := s.ownClaim } }
    host := { s.host with sticky := w } } := by
  by_cases h : s.roster.self.claim = s.ownClaim
  · rw [State.settleClaimList_same h, ← h]
    exact ⟨_, _, _, _, _, _, _, rfl⟩
  · rw [State.settleClaimList_new h, State.supplied_eq, s.claimWritten.announceClaim_frame]
    exact ⟨_, _, _, _, _, _, _, rfl⟩

theorem State.settleClaimList_sticky {f : Flag} (hf : f ≠ .supplyShort) (s : State) : s.settleClaimList.sticky f = s.sticky f := by
  by_cases h : s.roster.self.claim = s.ownClaim
  · rw [State.settleClaimList_same h]
  · rw [State.settleClaimList_new h, State.supplied_sticky, decide_eq_false hf, Bool.false_and, Bool.or_false,
      s.claimWritten.announceClaim_frame]
    rfl

/-- A changed claim is announced before it is told: the bursts are those of the state before the event. -/
theorem State.settleClaimList_announced (h : s.roster.self.claim ≠ s.ownClaim) : s.Announced s.settleClaimList := by
  have htold := s.claimWritten.announceClaim_frame
  have hchannel := s.claimWritten.announceClaim_channel
  have hbefore : ({ s with clock := s.clock } : State).SameChannel s.claimWritten := ⟨rfl, rfl, rfl, rfl⟩
  have hannounced := hbefore.announcing none (if s.roster.join = .active then s.ownClaim else none)
  rw [State.settleClaimList_new h]
  generalize s.claimWritten.announceClaim = x at htold hchannel
  have hkept : x.supplied.rail = x.rail ∧ x.supplied.counters = x.counters ∧ x.supplied.clock = s.clock ∧
      x.supplied.power.offerFrom = s.power.offerFrom ∧ x.supplied.power.claimFrom = x.power.claimFrom ∧
      x.supplied.roster.self.offer = s.roster.self.offer ∧ x.supplied.roster.self.claim = s.ownClaim := by
    rw [State.supplied_eq, htold]
    exact ⟨rfl, rfl, rfl, rfl, rfl, rfl, rfl⟩
  obtain ⟨hrail, hcounters, hclock, hofferFrom, hclaimFrom, hoffer, hclaim⟩ := hkept
  rw [State.announced_of_claim (by rw [hclaim]; exact Ne.symm h) hoffer, hrail, hcounters, hclock, hofferFrom, hclaimFrom, hclaim]
  refine ⟨hchannel.rail.trans hannounced.rail.symm, hchannel.counters.trans hannounced.counters.symm, rfl, ?_⟩
  rw [htold]
  show (if s.roster.join = .active ∧ s.ownClaim.isSome then some s.clock.now else s.power.claimFrom) = _
  by_cases hj : s.roster.join = .active <;> simp [hj]

/-- What an event does with the claim, the supply and the set between `s` and its end `t` (R56 to R58, R66). -/
def State.ClaimFollows (s t : State) : Prop :=
  s.Announced t ∧ s.SetFormed t ∧ s.SupplyFollows (decide (s.roster.self.claim ≠ t.roster.self.claim)) t

/-- Where no claim is settled, cap and mode set alone are formed. -/
theorem State.ClaimFollows.of_formed (hh : s.Handed .baseForced t) (hset : s.SetFormed t) (hrail : t.rail = s.rail)
    (hcounters : t.counters = s.counters) : s.ClaimFollows t := by
  obtain ⟨-, -, -, -, hclaim⟩ := hh.self
  refine ⟨(State.Announced.refl s).handed hh hrail hcounters, hset, ?_⟩
  rw [hclaim, decide_eq_false (not_not.2 rfl)]
  exact (State.SupplyFollows.refl s).handed hh

/-- The claim settled, then cap and mode set formed by whatever steps. -/
theorem State.ClaimFollows.of_settled (hh : s.settleClaimList.Handed .baseForced t) (hset : s.settleClaimList.SetFormed t)
    (hrail : t.rail = s.settleClaimList.rail) (hcounters : t.counters = s.settleClaimList.counters) : s.ClaimFollows t := by
  by_cases h : s.roster.self.claim = s.ownClaim
  · rw [State.settleClaimList_same h] at hh hset hrail hcounters
    exact .of_formed hh hset hrail hcounters
  · have hannounced := State.settleClaimList_announced h
    have hformed : s.SetFormed t := by
      refine hset.of_before fun g => ?_
      obtain ⟨r, k, cf, al, lo, gr, w, hframe⟩ := s.settleClaimList_frame
      rw [hframe]
      cases g <;> rfl
    have hclaim : t.roster.self.claim = s.ownClaim := by
      obtain ⟨-, -, -, -, hclaim⟩ := hh.self
      obtain ⟨r, k, cf, al, lo, gr, w, hframe⟩ := s.settleClaimList_frame
      rw [hclaim, hframe]
    have htold := s.claimWritten.announceClaim_frame
    refine ⟨hannounced.handed hh hrail hcounters, hformed, ?_⟩
    rw [State.settleClaimList_new h] at hh
    rw [hclaim, decide_eq_true h]
    generalize s.claimWritten.announceClaim = x at hh htold
    have hroster : x.supplied.roster = x.roster ∧ x.supplied.clock = x.clock := by rw [State.supplied_eq]; exact ⟨rfl, rfl⟩
    have hdelay : ∀ g, s.power.delay g = x.power.delay g := fun g => by rw [htold]; cases g <;> rfl
    have hsupply : x.SupplyFollows true t := by
      refine State.supplyFollows_of ?_ (hh.clock.trans hroster.2) (hh.flags _ (by decide)) hh.supply fun _ => hformed.of_before hdelay
      rw [← hroster.1]
      exact hh.alike
    refine hsupply.of_before ?_ ?_ ?_ ?_ (fun g => (hdelay g).symm) ?_
    all_goals rw [htold]; rfl

end Sys2Proof.Machine
end

section
/-! SUPPORT. Failed steps (R101, R102, R105) and the end of BASE_FORCED (R103): what a training failure counts, lowers and opens, and
which expiry is taken where two fall together. Settles O41. -/

namespace Sys2Proof.Machine

variable {s t u v : State}

/-! ## Frames -/

/-- What is handed on is read off RUNNING, the send queue and the fallback timer before the event. -/
theorem State.HandedOn.of_before (h : u.HandedOn t) (hagree : u.agree.state = s.agree.state) (hslices : u.sliceSource = s.sliceSource)
    (hmotion : u.motionHeadset = s.motionHeadset) : s.HandedOn t := by
  unfold State.HandedOn State.running at *
  rw [hagree, hslices, hmotion] at h
  exact h

/-- A formed set of a node of the path is empty exactly while the node is parked (R69, R70). -/
theorem State.SetFormed.empty_iff (h : s.SetFormed t) (hpath : t.onPath = true) : t.power.modeSet = [] ↔ t.parked = true := by
  obtain ⟨hpowered, hsource⟩ := h
  rcases t.role_cases with hr | hr | hr
  · have hparked : t.parked = false := by rw [State.parked, State.tetherPowered, hr]; rfl
    have hne : ∀ c, gradesUpTo c ≠ [] := fun c => by cases c <;> decide
    rw [(hsource hr).1, hparked]
    split
    · simp
    · simp [hne]
  · rw [State.onPath, hr] at hpath
    exact absurd hpath (by decide)
  · rw [(hpowered hr).2.1]
    cases t.parked
    · rw [if_neg Bool.false_ne_true]
      refine iff_of_false ?_ Bool.false_ne_true
      split <;> exact List.cons_ne_nil _ _
    · exact iff_of_true rfl rfl

/-! ## The training failure (R105) -/

/-- The failure counted and flagged, at the time `c`. -/
def State.faultCounted (c : Clock) (n : Nat) (s : State) : State :=
  { s with
    clock := c, counters := s.counters.add cLaneFault 1, agree := { s.agree with laneFaults := n }
    host := { s.host with sticky := s.host.sticky ||| Flag.laneFault.bit } }

/-- The lowered ceiling: one grade below the one that failed; nothing is below G1 (R105). -/
def Agree.ceilingBelow (a : Agree) : Option Grade := (a.chosen.bind gradeBelow).or a.lowered

theorem State.lowerCeiling_none (h : s.agree.chosen.bind gradeBelow = none) : s.lowerCeiling = s := by
  unfold State.lowerCeiling
  cases hc : s.agree.chosen with
  | none => rfl
  | some g =>
    rw [hc, Option.bind_some] at h
    dsimp only
    rw [h]

theorem State.lowerCeiling_some {b : Grade} (h : s.agree.chosen.bind gradeBelow = some b) :
    s.lowerCeiling = ({ s with agree := { s.agree with lowered := some b } } : State).settleClaimList := by
  obtain ⟨g, hg, hb⟩ := Option.bind_eq_some_iff.1 h
  unfold State.lowerCeiling
  rw [hg]
  dsimp only
  rw [hb]

/-- What comes before the round that a failure opens, from the counted failure `x` to `v`: the ceiling, and what follows of a claim that
it changes. -/
structure State.Lowered (low : Option Grade) (x v : State) : Prop where
  frame   : x.PathRailFrame v
  clock   : v.clock = x.clock
  agree   : v.agree = { x.agree with lowered := low }
  stands  : v.sliceSource = x.sliceSource ∧ v.motionHeadset = x.motionHeadset
  flags   : ∀ f, f ≠ .supplyShort → v.sticky f = x.sticky f
  chain   : v.roster.chainComplete = x.roster.chainComplete
  follows : x.ClaimFollows (v.failRound .trainFailed)

theorem State.Lowered.refl (x : State) : x.Lowered x.agree.lowered x :=
  ⟨rfl, rfl, rfl, ⟨rfl, rfl⟩, fun _ _ => rfl, rfl,
    .of_formed (.failRound x _) (x.failRound_setFormed _) (State.failRound_rail ..) (State.failRound_counters ..)⟩

/-- The roles of the entries alone make the chain. -/
theorem Roster.chainComplete_withClaim (r : Roster) (k : Option Claim) :
    ({ r with self := { r.self with claim := k } } : Roster).chainComplete = r.chainComplete := by
  unfold Roster.chainComplete Roster.path Roster.entries
  simp only [List.any_filter, List.any_append, List.any_cons]
  rfl

theorem State.Lowered.lowerCeiling (x : State) : x.Lowered x.agree.ceilingBelow x.lowerCeiling := by
  unfold Agree.ceilingBelow
  cases hb : x.agree.chosen.bind gradeBelow with
  | none =>
    rw [State.lowerCeiling_none hb]
    exact .refl x
  | some b =>
    rw [State.lowerCeiling_some hb, Option.some_or]
    obtain ⟨y, hy⟩ : ∃ y : State, y = { x with agree := { x.agree with lowered := some b } } := ⟨_, rfl⟩
    rw [← hy]
    have hfollows : y.ClaimFollows (y.settleClaimList.failRound .trainFailed) :=
      .of_settled (.failRound _ _) (State.failRound_setFormed _ _) (State.failRound_rail ..) (State.failRound_counters ..)
    have hflags : ∀ f, f ≠ .supplyShort → y.settleClaimList.sticky f = y.sticky f := fun f hf => State.settleClaimList_sticky hf y
    obtain ⟨hannounced, hformed, hsupply⟩ := hfollows
    obtain ⟨r, k, cf, al, lo, gr, w, hframe⟩ := y.settleClaimList_frame
    have hclaim : y.roster.self.claim = x.roster.self.claim := by rw [hy]
    rw [hclaim] at hsupply
    refine ⟨?_, ?_, ?_, ⟨?_, ?_⟩, ?_, ?_, ⟨?_, ?_, ?_⟩⟩
    · rw [hframe, hy]; rfl
    · rw [hframe, hy]
    · rw [hframe, hy]
    · rw [hframe, hy]
    · rw [hframe, hy]
    · intro f hf
      rw [hflags f hf, hy]
      rfl
    · rw [hframe, hy]
      exact Roster.chainComplete_withClaim _ _
    · exact hannounced.of_before (by rw [hy]) (by rw [hy]) (by rw [hy]) (by rw [hy]; exact ⟨rfl, rfl⟩)
    · exact hformed.of_before fun g => by rw [hy]
    · exact hsupply.of_before (by rw [hy]; rfl) (by rw [hy]) (by rw [hy]) (by rw [hy]) (fun g => by rw [hy]) (by rw [hy]; rfl)

theorem State.failRound_critActive (s : State) (r : Reason) : (s.failRound r).power.critActive = s.power.critActive := by
  rw [State.failRound_power, s.formModeSet_told]

/-- The round that a training failure opens, seen from the counted failure `x` to the end `t` of its event. -/
structure State.TrainingFailed (low : Option Grade) (x t : State) : Prop where
  frame   : x.PathRailFrame t
  clock   : t.clock = x.clock
  agree   : t.agree = ({ x.agree with lowered := low } : Agree).opened .trainFailed t
  handed  : x.HandedOn t
  flags   : ∀ f, f ≠ .supplyShort → t.sticky f = x.sticky f
  chain   : t.roster.chainComplete = x.roster.chainComplete
  follows : x.ClaimFollows t

theorem State.Lowered.failRound {low : Option Grade} {x : State} (h : x.Lowered low v) :
    x.TrainingFailed low (v.failRound .trainFailed) := by
  have hhanded : ∀ free, v.Handed free (v.failRound .trainFailed) := fun free => .failRound v _
  obtain ⟨hslices, hmotion⟩ := h.stands
  refine ⟨h.frame.trans (hhanded .baseForced).frame, (hhanded .baseForced).clock.trans h.clock, ?_, ?_, fun f hf => ?_,
    (hhanded .baseForced).alike.chainComplete.trans h.chain, h.follows⟩
  · rw [State.failRound_agree, h.agree]
  · refine ((v.failRound_rests _).ordered.handedOn (hhanded .baseForced)).of_before ?_ hslices hmotion
    rw [h.agree]
  · exact ((hhanded .supplyShort).flags f hf).trans (h.flags f hf)

namespace State.TrainingFailed

variable {low : Option Grade} {x : State} (h : x.TrainingFailed low t)
include h

/-- The round opened, or the node halted (R96). -/
theorem opens (hpath : x.onPath = true) :
    (x.roster.chainComplete = true → t.parked = false → t.agree.state = .settle ∧ t.agree.reason = .trainFailed ∧
      t.agree.round = x.agree.round + 1 ∧ t.agree.chosen = none ∧ t.agree.stepFrom = some t.clock.now) ∧
    (x.roster.chainComplete = true → t.parked = true → t.agree.state = .halted ∧ t.agree.reason = .ownSetEmpty ∧
      t.agree.round = x.agree.round) ∧
    (x.roster.chainComplete = false → t.agree.state = .halted ∧ t.agree.reason = .chainIncomplete ∧
      t.agree.round = x.agree.round) := by
  have hpath' : t.onPath = true := by rw [State.onPath, h.frame.role]; exact hpath
  have hempty := h.follows.2.1.empty_iff hpath'
  refine ⟨fun hc hp => ?_, fun hc hp => ?_, fun hc => ?_⟩
  · have hset : t.power.modeSet ≠ [] := fun hm => by
      rw [hempty.1 hm] at hp
      cases hp
    rw [h.agree, Agree.opened_settle (h.chain.trans hc) hset]
    exact ⟨rfl, rfl, rfl, rfl, rfl⟩
  · rw [h.agree, Agree.opened_empty (h.chain.trans hc) (hempty.2 hp)]
    exact ⟨rfl, rfl, rfl⟩
  · rw [h.agree, Agree.opened_incomplete (h.chain.trans hc)]
    exact ⟨rfl, rfl, rfl⟩

theorem counts : t.agree.laneFaults = x.agree.laneFaults ∧ t.agree.failures = x.agree.failures ∧
    t.agree.baseForcedFrom = x.agree.baseForcedFrom ∧ t.agree.lowered = low := by
  obtain ⟨hfailures, hfaults, -, -⟩ := Agree.opened_counts .trainFailed t { x.agree with lowered := low }
  obtain ⟨hlowered, hforced⟩ := Agree.opened_keeps .trainFailed t { x.agree with lowered := low }
  rw [← h.agree] at hfailures hfaults hlowered hforced
  exact ⟨hfaults, hfailures, hforced, hlowered⟩

end State.TrainingFailed

/-! ## Expiries that fall together (R103) -/

theorem State.advanceTo_now (s : State) (n : Nat) : n ≤ (s.advanceTo n).clock.now := by
  show n ≤ s.clock.now + (n - s.clock.now)
  omega

/-- A time that has been reached lets no more time pass. -/
theorem State.advanceTo_reached {s : State} {n k : Nat} (h : k ≤ (s.advanceTo n).clock.now) :
    (s.advanceTo n).advanceTo k = s.advanceTo n := by
  rw [State.advanceTo, Nat.sub_eq_zero_of_le h, State.advanceTo, State.advance_advance, Nat.add_zero]

/-- A step timer that has run out by the time `d` has been reached takes its act at once. -/
theorem stepOver_due {d : State} {st : AgreeState} {n t1 span : Nat} (hd : s.advanceTo n = d) (hp : d.powered = true)
    (hst : d.agree.state = st) (ht : d.agree.stepFrom = some t1) (hover : t1 + span ≤ d.clock.now) (act : State → State) :
    whilePowered d (State.stepOver st span act) = .next (act d) := by
  subst hd
  rw [stepOver_running hp hst ht, State.advanceTo_reached hover]

theorem State.takeStepDue_settle {t1 : Nat} (hst : s.agree.state = .settle) (ht : s.agree.stepFrom = some t1)
    (hdue : t1 + settleTime ≤ s.clock.now) : s.takeStepDue = s.enterListen := by
  unfold State.takeStepDue
  rw [hst, ht]
  exact if_pos hdue

theorem State.takeStepDue_listen {t1 : Nat} (hst : s.agree.state = .listen) (ht : s.agree.stepFrom = some t1)
    (hdue : t1 + listenTime ≤ s.clock.now) : s.takeStepDue = s.choose := by
  unfold State.takeStepDue
  rw [hst, ht]
  exact if_pos hdue

theorem State.takeStepDue_confirming {t1 : Nat} (hst : s.agree.state = .confirming) (ht : s.agree.stepFrom = some t1)
    (hdue : t1 + confirmTime ≤ s.clock.now) : s.takeStepDue = s.confirmFailure := by
  unfold State.takeStepDue
  rw [hst, ht]
  exact if_pos hdue

/-- Another step, or a timer that still runs. -/
theorem State.takeStepDue_none
    (h : ¬ ((s.agree.state = .settle ∧ ∃ t1, s.agree.stepFrom = some t1 ∧ t1 + settleTime ≤ s.clock.now) ∨
      ((s.agree.state = .listen ∨ s.agree.state = .confirming) ∧
        ∃ t1, s.agree.stepFrom = some t1 ∧ t1 + listenTime ≤ s.clock.now))) :
    s.takeStepDue = s := by
  unfold State.takeStepDue
  split
  · next t1 hst ht => exact if_neg fun hdue => h (.inl ⟨hst, t1, ht, hdue⟩)
  · next t1 hst ht => exact if_neg fun hdue => h (.inr ⟨.inl hst, t1, ht, hdue⟩)
  · next t1 hst ht => exact if_neg fun hdue => h (.inr ⟨.inr hst, t1, ht, hdue⟩)
  · rfl

/-- The step's end keeps BASE_FORCED or sets it at this moment. -/
theorem State.takeStepDue_forced (s : State) : s.takeStepDue.agree.baseForcedFrom = s.agree.baseForcedFrom ∨
    s.takeStepDue.agree.baseForcedFrom = some s.clock.now := by
  have hlisten : s.enterListen.agree.baseForcedFrom = s.agree.baseForcedFrom ∨
      s.enterListen.agree.baseForcedFrom = some s.clock.now := by
    have hlistening := s.startListen_listening
    have hstart : s.startListen.agree.baseForcedFrom = s.agree.baseForcedFrom := by rw [hlistening.agree]
    have hclock : s.startListen.clock = s.clock := (hlistening.handed .baseForced).clock
    unfold State.enterListen
    split
    · rw [← hstart, ← hclock]; exact (State.StepEnded.choose _).forced
    · exact .inl hstart
  unfold State.takeStepDue
  (repeat' split)
  · exact hlisten
  · exact .inl rfl
  · exact (State.StepEnded.choose s).forced
  · exact .inl rfl
  · exact (State.StepEnded.confirmFailure s).forced
  · exact .inl rfl
  · exact .inl rfl

/-! ## The end of BASE_FORCED (R103) -/

/-- BASE_FORCED has ended between `s` and `t`, at the time `c`: the mode set is formed without it. -/
def State.ForcedEnded (c : Clock) (s t : State) : Prop :=
  let u : State := { s with agree := { s.agree with baseForcedFrom := none } }
  t.clock = c ∧ t.agree.baseForcedFrom = none ∧ u.SetFormed t ∧ u.AgreeFollows false t ∧ s.PathFrame t

theorem State.forcedEnded (s : State) (c : Clock) : s.ForcedEnded c
    ({ s with clock := c, agree := { s.agree with baseForcedFrom := none } } : State).reform := by
  obtain ⟨v, hv⟩ : ∃ v : State, v = { s with clock := c, agree := { s.agree with baseForcedFrom := none } } := ⟨_, rfl⟩
  have hforced : v.reform.agree.baseForcedFrom = none := by
    rw [State.reform_agree, State.formModeSet_agree, (Agree.afterSet_keeps _ _ _).2, hv]
  have hclock : v.reform.clock = c := by rw [State.reform_clock, hv]
  have hset := v.reform_setFormed
  have hagree := v.reform_agreeFollows
  have hframe : s.PathFrame v.reform := State.PathFrame.trans (t := v) (by rw [hv]; rfl) v.reform_pathFrame
  rw [← hv]
  refine ⟨hclock, hforced, hset.of_before fun g => by rw [hv], ?_, hframe⟩
  exact hagree.of_before (by rw [hv]) (by rw [hv]) (by rw [hv]) (by rw [hv]) (by rw [hv]) (by rw [hv])

theorem exec_baseForcedExpiry {t0 : Nat} (hp : s.powered = true) (hb : s.agree.baseForcedFrom = some t0) :
    exec .baseForcedExpiry s = .next (s.advanceTo (t0 + baseForcedTime)).endBaseForced := by
  rw [show exec .baseForcedExpiry s = execBaseForcedExpiry s from rfl, execBaseForcedExpiry, whilePowered_on hp, runOut_running hb]

/-- The step's end that sets BASE_FORCED anew is the whole of the event. -/
theorem State.endBaseForced_again (hb : s.agree.baseForcedFrom ≠ some s.clock.now)
    (h : s.takeStepDue.agree.baseForcedFrom = some s.clock.now) : s.endBaseForced = s.takeStepDue :=
  if_neg fun hsame => hb (hsame.symm.trans h)

/-- With none, BASE_FORCED ends. -/
theorem State.endBaseForced_ended {c : Clock}
    (h : ({ s with clock := c } : State).takeStepDue.agree.baseForcedFrom ≠ some c.now) :
    s.ForcedEnded c ({ s with clock := c } : State).endBaseForced := by
  have hsame := ({ s with clock := c } : State).takeStepDue_forced.resolve_right h
  rw [State.endBaseForced, if_pos hsame]
  exact s.forcedEnded c

/-- A step timer of the round that has run out by the expiry is taken in the same event. -/
theorem exec_baseForcedExpiry_joined {i : Instr} {t0 : Nat} {c : Clock} (hp : s.powered = true) (hb : s.agree.baseForcedFrom = some t0)
    (hc : s.advanceTo (t0 + baseForcedTime) = { s with clock := c }) (hlate : t0 ≠ c.now)
    (hexec : exec i { s with clock := c } = .next ({ s with clock := c } : State).takeStepDue) :
    ∃ u t, exec i { s with clock := c } = .next u ∧ exec .baseForcedExpiry s = .next t ∧
      (u.agree.baseForcedFrom = some c.now → t = u) ∧ (u.agree.baseForcedFrom ≠ some c.now → s.ForcedEnded c t) := by
  have hbase := exec_baseForcedExpiry hp hb
  rw [hc] at hbase
  refine ⟨_, _, hexec, hbase, fun h => State.endBaseForced_again ?_ h, State.endBaseForced_ended⟩
  show s.agree.baseForcedFrom ≠ some c.now
  rw [hb]
  exact fun h => hlate (Option.some.inj h)

/-! ## The statement -/

/-- The end of CONFIRMING, at the time `c`, on the path. -/
theorem State.confirmFailure_ends (hpath : s.onPath = true) :
    let t := s.confirmFailure
    let settled (f : Nat) (b : Option Nat) : Agree := { s.agree with
      state := .settle, round := s.agree.round + 1, chosen := none, reason := .confirmFailed, failures := f
      stepFrom := some t.clock.now, baseForcedFrom := b }
    s.PathFrame t ∧ s.HandedOn t ∧
    (s.agree.failures < 3 → s.roster.chainComplete = true → s.power.modeSet ≠ [] →
      t.agree = settled (s.agree.failures + 1) s.agree.baseForcedFrom) ∧
    (3 ≤ s.agree.failures →
      t.agree.failures = 0 ∧ t.agree.baseForcedFrom = some t.clock.now ∧ t.sticky .baseForced = true ∧
      t.power.modeSet = (if s.parked then [] else [.g1]) ∧
      (s.roster.chainComplete = true → s.parked = false → t.agree = settled 0 (some t.clock.now))) ∧
    (s.roster.chainComplete = false →
      t.agree.state = .halted ∧ t.agree.reason = .chainIncomplete ∧ t.agree.round = s.agree.round) := by
  intro t settled
  have hhanded : s.Handed .baseForced t := .confirmFailure s
  obtain ⟨hfew, hfourth, hhalts⟩ := (State.SameRound.refl s).confirmFailed
  refine ⟨hhanded.frame.pathFrame (State.confirmFailure_rail s) (State.confirmFailure_counters s),
    s.confirmFailure_rests.ordered.handedOn hhanded, hfew, fun hf => ?_, hhalts⟩
  obtain ⟨hcount, hforced, hflag⟩ := hfourth hf
  have hset := State.confirmFailure_modeSet_fourth hpath hf
  refine ⟨hcount, hforced, hflag, hset, fun hc hparked => ?_⟩
  have hchain : t.roster.chainComplete = true := hhanded.alike.chainComplete.trans hc
  have hagree : t.agree = (s.agree.confirmFailed s.clock.now).opened .confirmFailed t := s.confirmFailure_agree
  rw [hparked] at hset
  rw [hagree, Agree.opened_settle hchain (by rw [hset]; decide), Agree.confirmFailed, if_pos hf, ← hhanded.clock]

/-- The end of TRAINING, at the time `c`, on the path: every third failure lowers the ceiling. -/
theorem State.trainingFailure_ends (s : State) (c : Clock) (hpath : s.onPath = true) :
    let n := min (s.agree.laneFaults + 1) 65535
    let t := ({ s with clock := c } : State).trainingFailure
    t.clock = c ∧ s.PathRailFrame t ∧ s.HandedOn t ∧ t.sticky .laneFault = true ∧ t.agree.laneFaults = n ∧
      t.agree.failures = s.agree.failures ∧ t.agree.baseForcedFrom = s.agree.baseForcedFrom ∧
      (let u : State := { s with counters := s.counters.add cLaneFault 1 }
       u.Announced t ∧ u.SetFormed t ∧ u.SupplyFollows (decide (s.roster.self.claim ≠ t.roster.self.claim)) t) ∧
      (n % 3 ≠ 0 → t.agree.lowered = s.agree.lowered ∧ t.parked = s.parked ∧ t.roster.self.claim = s.roster.self.claim) ∧
      (n % 3 = 0 → t.agree.lowered = s.agree.ceilingBelow) ∧
      (s.roster.chainComplete = true → t.parked = false → t.agree.state = .settle ∧ t.agree.reason = .trainFailed ∧
        t.agree.round = s.agree.round + 1 ∧ t.agree.chosen = none ∧ t.agree.stepFrom = some t.clock.now) ∧
      (s.roster.chainComplete = true → t.parked = true → t.agree.state = .halted ∧ t.agree.reason = .ownSetEmpty ∧
        t.agree.round = s.agree.round) ∧
      (s.roster.chainComplete = false → t.agree.state = .halted ∧ t.agree.reason = .chainIncomplete ∧
        t.agree.round = s.agree.round) := by
  intro n t
  have hround : t = (if n % 3 = 0 then (s.faultCounted c n).lowerCeiling else s.faultCounted c n).failRound .trainFailed := rfl
  obtain ⟨low, hlow, hfailed⟩ : ∃ low, low = (if n % 3 = 0 then s.agree.ceilingBelow else s.agree.lowered) ∧
      (s.faultCounted c n).TrainingFailed low t := by
    refine ⟨_, rfl, ?_⟩
    rw [hround]
    split
    · exact (State.Lowered.lowerCeiling (s.faultCounted c n)).failRound
    · exact (State.Lowered.refl (s.faultCounted c n)).failRound
  obtain ⟨hfaults, hfailures, hforced, hlowered⟩ := hfailed.counts
  obtain ⟨hannounced, hset, hsupply⟩ := hfailed.follows
  refine ⟨hfailed.clock, ?_, hfailed.handed.of_before rfl rfl rfl, ?_, hfaults, hfailures, hforced, ⟨?_, ?_, ?_⟩, fun hn => ?_,
    fun hn => ?_, hfailed.opens hpath⟩
  · exact State.PathRailFrame.trans (t := s.faultCounted c n) rfl hfailed.frame
  · rw [hfailed.flags _ (by decide)]
    exact State.raise_sticky .laneFault
  · exact hannounced.of_before rfl rfl rfl ⟨rfl, rfl⟩
  · exact hset.of_before fun _ => rfl
  · exact hsupply.of_before rfl rfl rfl rfl (fun _ => rfl) (State.raise_sticky_ne (by decide))
  · have ht : t = (s.faultCounted c n).failRound .trainFailed := by rw [hround, if_neg hn]
    have hhanded : (s.faultCounted c n).Handed .baseForced t := by rw [ht]; exact .failRound _ _
    obtain ⟨-, -, -, -, hclaim⟩ := hhanded.self
    rw [if_neg hn] at hlow
    refine ⟨hlowered.trans hlow, hhanded.parked ?_, hclaim⟩
    rw [ht, State.failRound_critActive]
  · rw [hlowered, hlow, if_pos hn]

/-- Settles O41: the ends of CONFIRMING, of TRAINING and of BASE_FORCED. -/
theorem failedStepsOpenARound : Obligations.FailedStepsOpenARound := by
  refine fun s t0 hp hpath => ⟨fun hst ht => ?_, fun hst ht => ?_, fun hb => ?_⟩
  · obtain ⟨c, hc⟩ : ∃ c, s.advanceTo (t0 + 150000) = { s with clock := c } := ⟨_, rfl⟩
    have hexec : exec .confirmTimerExpiry s = .next (s.advanceTo (t0 + 150000)).confirmFailure := stepOver_running hp hst ht _ _
    have hends := State.confirmFailure_ends (s := { s with clock := c }) hpath
    have hhanded : ({ s with clock := c } : State).Handed .baseForced ({ s with clock := c } : State).confirmFailure := .confirmFailure _
    rw [hc] at hexec ⊢
    exact ⟨_, hexec, hhanded.clock, hends⟩
  · obtain ⟨c, hc⟩ : ∃ c, s.advanceTo (t0 + 50000) = { s with clock := c } := ⟨_, rfl⟩
    have hexec : exec .trainingTimerExpiry s = .next (s.advanceTo (t0 + 50000)).trainingFailure := stepOver_running hp hst ht _ _
    obtain ⟨hclock, hframe, hhanded, hflag, hfaults, hfailures, hforced, hfollows, hkept, hlowered, hopens⟩ :=
      s.trainingFailure_ends c hpath
    rw [hc] at hexec ⊢
    refine ⟨_, hexec, hclock, hframe, hhanded, hflag, hfaults, hfailures, hforced, hfollows, hkept, fun hn g hg => ?_, hopens⟩
    rw [hlowered hn, Agree.ceilingBelow, hg]
    cases g <;> rfl
  · obtain ⟨c, hc⟩ : ∃ c, s.advanceTo (t0 + baseForcedTime) = { s with clock := c } := ⟨_, rfl⟩
    have hlate : t0 ≠ c.now := by
      have hnow := s.advanceTo_now (t0 + baseForcedTime)
      have hspan : 0 < baseForcedTime := by decide
      rw [hc] at hnow
      dsimp only at hnow
      omega
    have hbase := exec_baseForcedExpiry hp hb
    intro due ended ranOut joined
    have hdue : due = { s with clock := c } := hc
    clear_value due
    subst hdue
    rw [hc] at hbase
    refine ⟨fun hst ⟨t1, ht, hover⟩ => ?_, fun hst ⟨t1, ht, hover⟩ => ?_, fun hst ⟨t1, ht, hover⟩ => ⟨?_, fun hf => ?_⟩,
      fun hnone => ?_⟩
    · refine exec_baseForcedExpiry_joined hp hb hc hlate ?_
      rw [State.takeStepDue_settle (s := { s with clock := c }) hst ht hover]
      exact stepOver_due hc hp hst ht hover _
    · refine exec_baseForcedExpiry_joined hp hb hc hlate ?_
      rw [State.takeStepDue_listen (s := { s with clock := c }) hst ht hover]
      exact stepOver_due hc hp hst ht hover _
    · refine exec_baseForcedExpiry_joined hp hb hc hlate ?_
      rw [State.takeStepDue_confirming (s := { s with clock := c }) hst ht hover]
      exact stepOver_due hc hp hst ht hover _
    · have hfails : ({ s with clock := c } : State).takeStepDue = ({ s with clock := c } : State).confirmFailure :=
        State.takeStepDue_confirming hst ht hover
      obtain ⟨-, hhanded, -, hfourth, -⟩ := State.confirmFailure_ends (s := { s with clock := c }) hpath
      obtain ⟨hcount, hforced, hflag, -, -⟩ := hfourth hf
      have hclock : ({ s with clock := c } : State).confirmFailure.clock = c := (State.Handed.confirmFailure _).clock
      have hset : ({ s with clock := c } : State).takeStepDue.agree.baseForcedFrom = some c.now := by rw [hfails, hforced, hclock]
      rw [State.endBaseForced_again (by rw [hb]; exact fun h => hlate (Option.some.inj h)) hset, hfails] at hbase
      exact ⟨_, hbase, hclock, hforced, hcount, hflag, hhanded⟩
    · have hidle : ({ s with clock := c } : State).takeStepDue = { s with clock := c } := State.takeStepDue_none hnone
      refine ⟨_, hbase, State.endBaseForced_ended ?_⟩
      rw [hidle, hb]
      exact fun h => hlate (Option.some.inj h)

end Sys2Proof.Machine
end

section
/-! SUPPORT. The transmitters of the lane engine: which packet is taken next (R113), and how the SOURCE's down lane is fed from its send
queue (R123). Settles O45. -/

namespace Sys2Proof.Machine

variable {s : State}

/-! ## The packet taken next (R113) -/

/-- The order of R113 within one lane. -/
def PacketKind.GoesBefore (a b : PacketKind) : Prop :=
  (a = .audio ∧ b = .slice) ∨ (a = .motion ∧ (b = .frameShown ∨ b = .mic)) ∨ (a = .frameShown ∧ b = .mic)

theorem PacketKind.GoesBefore.rank_lt {a b : PacketKind} (h : a.GoesBefore b) : a.rank < b.rank := by
  rcases h with ⟨rfl, rfl⟩ | ⟨rfl, rfl | rfl⟩ | ⟨rfl, rfl⟩ <;> decide

/-- The step of `firstInOrder`: the packet that is first so far gives way to one of a lower rank. -/
def earlier (best : Option Packet) (p : Packet) : Option Packet :=
  match best with
  | none => some p
  | some b => if p.kind.rank < b.kind.rank then some p else some b

theorem firstInOrder_eq (l : List Packet) : firstInOrder l = l.foldl earlier none := rfl

/-- Folding on from a packet gives it or a later one of the list, of the least rank of them all. -/
theorem foldl_earlier_some (l : List Packet) (b : Packet) : ∃ q, l.foldl earlier (some b) = some q ∧ q ∈ b :: l ∧
    ∀ r ∈ b :: l, q.kind.rank ≤ r.kind.rank := by
  induction l generalizing b with
  | nil => exact ⟨b, rfl, List.mem_singleton_self b, fun r hr => by rw [List.mem_singleton.1 hr]⟩
  | cons p l ih =>
    by_cases hlt : p.kind.rank < b.kind.rank
    · obtain ⟨q, hq, hmem, hleast⟩ := ih p
      refine ⟨q, ?_, List.mem_cons_of_mem b hmem, fun r hr => ?_⟩
      · rw [List.foldl_cons, earlier, if_pos hlt, hq]
      · rcases List.mem_cons.1 hr with rfl | hr
        · exact (hleast p List.mem_cons_self).trans hlt.le
        · exact hleast r hr
    · obtain ⟨q, hq, hmem, hleast⟩ := ih b
      refine ⟨q, ?_, ?_, fun r hr => ?_⟩
      · rw [List.foldl_cons, earlier, if_neg hlt, hq]
      · rcases List.mem_cons.1 hmem with rfl | hmem
        · exact List.mem_cons_self
        · exact List.mem_cons_of_mem b (List.mem_cons_of_mem p hmem)
      · rcases List.mem_cons.1 hr with rfl | hr
        · exact hleast r List.mem_cons_self
        · rcases List.mem_cons.1 hr with rfl | hr
          · exact (hleast b List.mem_cons_self).trans (Nat.not_lt.1 hlt)
          · exact hleast r (List.mem_cons_of_mem b hr)

/-- Of waiting packets one is taken that no other goes before. -/
theorem firstInOrder_some {l : List Packet} (h : l ≠ []) : ∃ q ∈ l, firstInOrder l = some q ∧
    ∀ r ∈ l, ¬ r.kind.GoesBefore q.kind := by
  obtain ⟨p, l, rfl⟩ := List.exists_cons_of_ne_nil h
  obtain ⟨q, hq, hmem, hleast⟩ := foldl_earlier_some l p
  exact ⟨q, hmem, (firstInOrder_eq _).trans hq, fun r hr hbefore => Nat.not_lt.2 (hleast r hr) hbefore.rank_lt⟩

theorem Transmitter.takeNext_free {x : Transmitter} (h : x.waiting = []) (now : Nat) : x.takeNext now = { x with sending := none } := by
  rw [Transmitter.takeNext, h]
  rfl

theorem Transmitter.takeNext_some {x : Transmitter} {q : Packet} (h : firstInOrder x.waiting = some q) (now : Nat) :
    x.takeNext now = { x with sending := some q, startedAt := now, waiting := x.waiting.erase q } := by
  rw [Transmitter.takeNext, h]
  rfl

/-! ## The feeding from the send queue (R123) -/

theorem Transmitter.waits_slice_iff (x : Transmitter) : x.waits .slice = true ↔ ∃ w ∈ x.waiting, w.kind = .slice := by
  simp [Transmitter.waits]

theorem Transmitter.offer_stopped {x : Transmitter} (h : x.state ≠ .running) (p : Packet) (now : Nat) : x.offer p now = x := if_pos h

theorem Transmitter.offer_free {x : Transmitter} (h : x.state = .running) (hfree : x.sending = none) (p : Packet) (now : Nat) :
    x.offer p now = x.begin p now := by
  rw [Transmitter.offer, if_neg (not_not.2 h), hfree, Option.isNone_none, if_pos rfl]

/-- Behind the packet being sent one waits that has no other of its kind there. -/
theorem Transmitter.offer_busy {x : Transmitter} {p : Packet} (h : x.state = .running) (hbusy : x.sending ≠ none)
    (hkind : ∀ w ∈ x.waiting, w.kind ≠ p.kind) (now : Nat) : x.offer p now = { x with waiting := x.waiting ++ [p] } := by
  have hfilter : x.waiting.filter (fun w => w.kind != p.kind) = x.waiting :=
    List.filter_eq_self.2 fun w hw => bne_iff_ne.2 (hkind w hw)
  rw [Transmitter.offer, if_neg (not_not.2 h), if_neg (by simpa using hbusy), hfilter]

/-- One feeding: the oldest queued slice not at the transmitter is offered where none waits. -/
def Transmitter.fedOnce (q : List SendSlice) (now : Nat) (x : Transmitter) : Transmitter :=
  if x.waits .slice then x else ((q.map slicePacket)[x.slicesHere]?).elim x (fun p => x.offer p now)

theorem State.feedSlice_eq (s : State) : s.feedSlice = { s with lanes := { s.lanes with
    downTx := s.lanes.downTx.fedOnce s.sliceSource.sendQueue s.clock.now } } := by
  unfold State.feedSlice Transmitter.fedOnce
  rw [List.getElem?_map]
  split
  · rfl
  · cases s.sliceSource.sendQueue[s.lanes.downTx.slicesHere]? <;> rfl

namespace Transmitter

variable {x : Transmitter} {q : List SendSlice} {now : Nat}

theorem fedOnce_waits (h : x.waits .slice = true) : x.fedOnce q now = x := if_pos h

theorem fedOnce_stopped (h : x.state ≠ .running) : x.fedOnce q now = x := by
  unfold fedOnce
  split
  · rfl
  · cases (q.map slicePacket)[x.slicesHere]? with
    | none => rfl
    | some p => exact offer_stopped h p now

theorem waits_slice_false (h : ∀ w ∈ x.waiting, w.kind ≠ .slice) : x.waits .slice = false := by
  rw [Bool.eq_false_iff, ne_eq, waits_slice_iff]
  rintro ⟨w, hw, hslice⟩
  exact h w hw hslice

/-- Of the queued slices only the one being sent stands at a transmitter where none waits. -/
theorem slicesHere_of_sending {p : Packet} (hsending : x.sending = some p) (h : ∀ w ∈ x.waiting, w.kind ≠ .slice) :
    x.slicesHere = if p.kind = .slice then 1 else 0 := by
  rw [slicesHere, waits_slice_false h, hsending]
  simp

theorem slicesHere_of_free (hsending : x.sending = none) (h : ∀ w ∈ x.waiting, w.kind ≠ .slice) : x.slicesHere = 0 := by
  rw [slicesHere, waits_slice_false h, hsending]
  rfl

/-- A busy transmitter where no slice waits gets the next slice to wait, if there is one. -/
theorem fedOnce_busy {p : Packet} (hrun : x.state = .running) (hsending : x.sending = some p)
    (h : ∀ w ∈ x.waiting, w.kind ≠ .slice) : x.fedOnce q now =
      { x with waiting := x.waiting ++ ((q.map slicePacket).drop (if p.kind = .slice then 1 else 0)).take 1 } := by
  rw [fedOnce, if_neg (by rw [waits_slice_false h]; decide), slicesHere_of_sending hsending h]
  generalize (if p.kind = .slice then 1 else 0) = n
  rw [List.take_one, List.head?_drop, List.getElem?_map]
  cases q[n]? with
  | none => simp
  | some u => exact offer_busy hrun (by rw [hsending]; exact nofun) h now

theorem fedOnce_free (hrun : x.state = .running) (hsending : x.sending = none) (h : ∀ w ∈ x.waiting, w.kind ≠ .slice) :
    x.fedOnce q now = (q.map slicePacket).head?.elim x (fun p => x.begin p now) := by
  rw [fedOnce, if_neg (by rw [waits_slice_false h]; decide), slicesHere_of_free hsending h, ← List.head?_eq_getElem?]
  cases (q.map slicePacket).head? with
  | none => rfl
  | some p => exact offer_free hrun hsending p now

/-- A second feeding finds the slice that the first one set to wait. -/
theorem fedOnce_again {p : Packet} (hrun : x.state = .running) (hsending : x.sending = some p)
    (h : ∀ w ∈ x.waiting, w.kind ≠ .slice) : (x.fedOnce q now).fedOnce q now = x.fedOnce q now := by
  cases hnext : ((q.map slicePacket).drop (if p.kind = .slice then 1 else 0)).take 1 with
  | nil =>
    have hsame : x.fedOnce q now = x := by rw [fedOnce_busy hrun hsending h, hnext, List.append_nil]
    rw [hsame, hsame]
  | cons w rest =>
    have hw : w ∈ q.map slicePacket := List.mem_of_mem_drop (List.mem_of_mem_take (hnext ▸ List.mem_cons_self))
    obtain ⟨u, -, rfl⟩ := List.mem_map.1 hw
    refine fedOnce_waits ((waits_slice_iff _).2 ⟨slicePacket u, ?_, rfl⟩)
    rw [fedOnce_busy hrun hsending h, hnext]
    exact List.mem_append_right _ List.mem_cons_self

/-- Two feedings, the second of which matters to a free transmitter alone, are the feeding of R123. -/
theorem fed_fedOnce (x : Transmitter) (q : List SendSlice) (now : Nat) : x.Fed q now ((x.fedOnce q now).fedOnce q now) := by
  refine ⟨fun h => ?_, fun hrun hno => ⟨fun p hsending => ?_, fun hsending hnil => ?_, fun p rest hsending hcons => ?_⟩⟩
  · have hsame : x.fedOnce q now = x := h.elim fedOnce_stopped fun h => fedOnce_waits ((waits_slice_iff x).2 h)
    rw [hsame, hsame]
  · rw [fedOnce_again hrun hsending hno, fedOnce_busy hrun hsending hno]
  · have hsame : x.fedOnce q now = x := by rw [fedOnce_free hrun hsending hno, hnil]; rfl
    rw [hsame, hsame]
  · have hslice : p.kind = .slice := by
      obtain ⟨u, -, rfl⟩ := List.mem_map.1 (hcons ▸ List.mem_cons_self : p ∈ q.map slicePacket)
      rfl
    have hfirst : x.fedOnce q now = x.begin p now := by rw [fedOnce_free hrun hsending hno, hcons]; rfl
    rw [hfirst, fedOnce_busy (x := x.begin p now) hrun rfl hno, if_pos hslice, hcons]
    rfl

end Transmitter

/-- The SOURCE's feeding reaches the down-lane transmitter alone, and is that of R123. -/
theorem State.feedSlices_fed (s : State) : ∃ y, s.feedSlices = { s with lanes := { s.lanes with downTx := y } } ∧
    s.lanes.downTx.Fed s.sliceSource.sendQueue s.clock.now y := by
  refine ⟨_, ?_, s.lanes.downTx.fed_fedOnce _ _⟩
  rw [State.feedSlices, State.feedSlice_eq, State.feedSlice_eq]

/-! ## A packet sent whole (R113, R116, R123, R150) -/

/-- What has been counted when a packet of this kind has been sent. -/
def Counters.sent (r : Role) (lane : Lane) (k : PacketKind) (c : Counters) : Counters :=
  let base := c.add (packetCounter lane) 1
  if r = .source ∧ k = .slice then base.add cSliceSent 1 else if r = .source ∧ k = .audio then base.add cBlocks 1 else base

/-- Counting a packet reaches the counters and, for a SOURCE's slice, the head of the send queue. -/
theorem State.countSent_eq (s : State) (lane : Lane) (k : PacketKind) : s.countSent lane k = { s with
    counters := s.counters.sent s.role lane k
    sliceSource := { s.sliceSource with sendQueue :=
      if s.role = .source ∧ k = .slice then s.sliceSource.sendQueue.drop 1 else s.sliceSource.sendQueue } } := by
  unfold State.countSent Counters.sent
  by_cases hr : s.role = .source
  · rw [if_pos hr]
    cases k <;> simp only [hr] <;> rfl
  · rw [if_neg hr]
    simp only [hr]
    rfl

theorem exec_lanePacketSent {lane : Lane} {p : Packet} (hp : s.powered = true) (h : (s.lanes.tx lane).sending = some p) :
    exec (.lanePacketSent lane) s = .next
      (((s.advanceTo ((s.lanes.tx lane).startedAt + packetMicros s.lanes.grade p.bytes.length)).countSent lane
        p.kind).freeTransmitter lane) := by
  rw [show exec (.lanePacketSent lane) s = execLanePacketSent lane s from rfl, execLanePacketSent, whilePowered_on hp, h]

/-- The transmitter freed, and at a SOURCE the down lane fed, the lane freed being it or not. -/
theorem State.freeTransmitter_lanes (s : State) (lane : Lane) : ∃ l, s.freeTransmitter lane = { s with lanes := l } ∧
    (let y := (s.lanes.tx lane).takeNext s.clock.now
     (s.role ≠ .source → l = s.lanes.setTx lane y) ∧
     (s.role = .source → lane = .down → l = { s.lanes with downTx := l.downTx } ∧
       y.Fed s.sliceSource.sendQueue s.clock.now l.downTx) ∧
     (s.role = .source → lane = .up → l = { s.lanes with upTx := y, downTx := l.downTx } ∧
       s.lanes.downTx.Fed s.sliceSource.sendQueue s.clock.now l.downTx)) := by
  obtain ⟨z, hz, hfed⟩ := State.feedSlices_fed
    ({ s with lanes := s.lanes.setTx lane ((s.lanes.tx lane).takeNext s.clock.now) } : State)
  unfold State.freeTransmitter
  by_cases hr : s.role = .source
  · refine ⟨_, (if_pos hr).trans hz, fun h => absurd hr h, fun _ hl => ?_, fun _ hl => ?_⟩
    · subst hl; exact ⟨rfl, hfed⟩
    · subst hl; exact ⟨rfl, hfed⟩
  · exact ⟨_, if_neg hr, fun _ => rfl, fun h => absurd h hr, fun h => absurd h hr⟩

/-- Settles O45: the packet counted, the transmitter freed, the SOURCE's down lane fed. -/
theorem packetSentFreesItsTransmitter : Obligations.PacketSentFreesItsTransmitter := by
  intro s lane p hp hsending x base
  obtain ⟨c, hc⟩ : ∃ c, s.advanceTo (x.startedAt + packetMicros s.lanes.grade p.bytes.length) = { s with clock := c } := ⟨_, rfl⟩
  obtain ⟨l, hl, hother, hdown, hup⟩ := (({ s with clock := c } : State).countSent lane p.kind).freeTransmitter_lanes lane
  have hexec := exec_lanePacketSent hp hsending
  rw [hc, hl, State.countSent_eq] at hexec
  rw [State.countSent_eq] at hother hdown hup
  refine ⟨_, hexec, by rw [hc], ?_, rfl, ⟨fun hnone => ?_, fun hsome => ?_⟩, rfl⟩
  · cases lane <;> rfl
  · rw [← Transmitter.takeNext_free hnone c.now]
    exact ⟨hother, hdown, hup⟩
  · obtain ⟨q, hq, hfirst, hbefore⟩ := firstInOrder_some hsome
    refine ⟨q, hq, hbefore, ?_⟩
    rw [← Transmitter.takeNext_some hfirst c.now]
    exact ⟨hother, hdown, hup⟩

end Sys2Proof.Machine
end

section
/-! SUPPORT. A slice submitted (R121 to R123): the tests in their order, and what an accepted one takes. Settles O46. -/

namespace Sys2Proof.Machine

variable {s : State}

/-- Test 3 of R121. -/
def InOrder (start : Bool) (k : Nat) (sub : Option Submission) : Prop :=
  (k = 0 ∧ start = true) ∨ (k ≠ 0 ∧ start = false ∧ ∃ u, sub = some u ∧ u.next = k)

theorem sliceOrderOk_iff (start : Bool) (k : Nat) (sub : Option Submission) : sliceOrderOk start k sub = true ↔ InOrder start k sub := by
  unfold sliceOrderOk InOrder
  by_cases hk : k = 0
  · simp [hk]
  · cases start <;> cases sub <;> simp [hk]

/-- The state in which a slice of this index is judged: index 0 closes the submission that stands. -/
def State.submissionFor (k : Nat) (s : State) : State := s.setSubmission (if k = 0 then none else s.sliceSource.submission)

theorem sliceOrderOk_submissionFor (start : Bool) (k : Nat) (s : State) :
    sliceOrderOk start k (s.submissionFor k).sliceSource.submission = sliceOrderOk start k s.sliceSource.submission := by
  unfold sliceOrderOk
  by_cases hk : k = 0
  · rw [if_pos hk, if_pos hk]
  · have hsame : (s.submissionFor k).sliceSource.submission = s.sliceSource.submission := if_neg hk
    rw [hsame]

/-- A refused slice leaves its code, the submission and one more count. -/
def State.refused (sub : Option Submission) (code : Byte) (k : Counter) (s : State) : State :=
  { s with sliceSource := { s.sliceSource with answer := code, submission := sub }, counters := s.counters.add k 1 }

theorem exec_sliceSubmit (hp : s.powered = true) (hr : s.role = .source) (start : Bool) (index : Byte) (b : List Byte) :
    exec (.sliceSubmit start index b) s = .next (s.submitSlice start index.toNat b) := by
  rw [show exec (.sliceSubmit start index b) s = execSliceSubmit start index b s from rfl, execSliceSubmit, whilePowered_on hp,
    if_pos hr]

/-! ## The tests in their order (R121) -/

theorem State.submitSlice_noLane (h : s.agree.state ≠ .running) (start : Bool) (k : Nat) (b : List Byte) :
    s.submitSlice start k b = s.refused s.sliceSource.submission 1 cNoLane := if_neg h

theorem State.submitSlice_noSchedule (hrun : s.agree.state = .running) (h : s.sliceSource.schedule = none) (start : Bool) (k : Nat)
    (b : List Byte) : s.submitSlice start k b = s.refused s.sliceSource.submission 2 cNoSchedule := by
  rw [State.submitSlice, if_pos hrun, h]
  rfl

section scheduled

variable {a : Anchor} {g : Grade} (hrun : s.agree.state = .running) (ha : s.sliceSource.schedule = some a)
  (hg : s.agree.chosen = some g) {start : Bool} {k : Nat} (b : List Byte)
include hrun ha hg

/-- A slice out of order closes the submission. -/
theorem State.submitSlice_order (h : ¬ InOrder start k s.sliceSource.submission) :
    s.submitSlice start k b = s.refused none 3 cOrder := by
  have hopen : ¬ (start = true ∧ k = 0) := fun ⟨hstart, hk⟩ => h (.inl ⟨hk, hstart⟩)
  simp only [State.submitSlice, if_pos hrun, ha, hg, if_neg hopen]
  exact if_neg (mt (sliceOrderOk_iff _ _ _).1 h)

/-- A slice in order goes on to tests 4 and 5, index 0 with no submission open. -/
theorem State.submitSlice_ordered (h : InOrder start k s.sliceSource.submission) : s.submitSlice start k b =
    (s.submissionFor k).judgeSlice a g k b := by
  have hopened : (if start = true ∧ k = 0 then s.setSubmission none else s) = s.submissionFor k := by
    rcases h with ⟨rfl, rfl⟩ | ⟨hk, -, -⟩
    · rfl
    · rw [if_neg (fun h => hk h.2), State.submissionFor, if_neg hk]
      rfl
  have hpass : sliceOrderOk start k (s.submissionFor k).sliceSource.submission = true := by
    rw [sliceOrderOk_submissionFor, sliceOrderOk_iff]
    exact h
  simp only [State.submitSlice, if_pos hrun, ha, hg, hopened]
  exact if_pos hpass

end scheduled

section judged

variable (a : Anchor) (g : Grade) (k : Nat) {b : List Byte}

theorem State.judgeSlice_oversize (h : b.length = 0 ∨ sliceBudget g a.period120 < b.length) :
    s.judgeSlice a g k b = s.refuseSlice answerOversize cOversize := if_pos h

theorem State.judgeSlice_backlog (h : ¬ (b.length = 0 ∨ sliceBudget g a.period120 < b.length))
    (hfull : 4 ≤ s.sliceSource.sendQueue.length) : s.judgeSlice a g k b = s.refuseSlice answerBacklog cBacklog :=
  (if_neg h).trans (if_pos hfull)

theorem State.judgeSlice_accepted (h : ¬ (b.length = 0 ∨ sliceBudget g a.period120 < b.length))
    (hroom : s.sliceSource.sendQueue.length < 4) : s.judgeSlice a g k b = s.acceptSlice a (s.sliceFrame a k) k b :=
  (if_neg h).trans (if_neg (Nat.not_le.2 hroom))

end judged

/-! ## Acceptance (R122, R123) -/

/-- What an accepted slice writes: its place in the send queue and the submission, a count where it is late already, and what the
feeding makes of the down-lane transmitter. -/
theorem State.acceptSlice_eq (s : State) (a : Anchor) (n k : Nat) (b : List Byte) :
    let time := scanTime a.time a.period120 n k
    let x : SliceSource := { s.sliceSource with
      sendQueue := s.sliceSource.sendQueue ++ [⟨BitVec.ofNat 16 n, k, time, b⟩]
      submission := if k = 11 then none else some ⟨n, k + 1⟩
      answer := 0 }
    ∃ y, s.acceptSlice a n k b = { s with
        sliceSource := x
        counters := if time ≤ s.clock.tether then s.counters.add cSubmittedLate 1 else s.counters
        lanes := { s.lanes with downTx := y } } ∧
      s.lanes.downTx.Fed x.sendQueue s.clock.now y := by
  intro time x
  unfold State.acceptSlice
  by_cases hlate : time ≤ s.clock.tether
  · obtain ⟨y, hy, hfed⟩ := State.feedSlices_fed (({ s with sliceSource := x } : State).bump cSubmittedLate)
    refine ⟨y, ?_, hfed⟩
    rw [if_pos hlate]
    dsimp only
    rw [if_pos (decide_eq_true hlate)]
    exact hy
  · obtain ⟨y, hy, hfed⟩ := State.feedSlices_fed ({ s with sliceSource := x } : State)
    refine ⟨y, ?_, hfed⟩
    rw [if_neg hlate]
    dsimp only
    rw [if_neg (by simpa using hlate)]
    exact hy

/-- The frame of an accepted slice: its submission's, or for index 0 the earliest that leaves the lead of R122. -/
theorem State.sliceFrame_spec (s : State) (a : Anchor) (k : Nat) :
    (∀ u, k ≠ 0 → s.sliceSource.submission = some u → s.sliceFrame a k = u.frame) ∧
    (k = 0 → s.clock.tether + 1500 ≤ a.time + s.sliceFrame a k * framePeriod a.period120 ∧
      ∀ m, m < s.sliceFrame a k → a.time + m * framePeriod a.period120 < s.clock.tether + 1500) := by
  refine ⟨fun u hk hu => ?_, fun hk => ?_⟩
  · rw [State.sliceFrame, if_neg hk, hu]
  · rw [State.sliceFrame, if_pos hk]
    exact firstFrameFrom_least a.time a.period120 (s.clock.tether + 1500)

/-- Settles O46: the refusals in the order of R121, then the accepted slice. -/
theorem submittedSliceIsJudged : Obligations.SubmittedSliceIsJudged := by
  intro s start index b hp c refused sub
  refine ⟨fun hr => ?_, fun hr hrun => ?_, fun hr hrun hnone => ?_, fun a g hr hrun ha hg => ?_⟩
  · rw [show exec c s = execSliceSubmit start index b s from rfl, execSliceSubmit, whilePowered_on hp, if_neg hr]
  · exact (exec_sliceSubmit hp hr start index b).trans (congrArg _ (State.submitSlice_noLane hrun ..))
  · exact (exec_sliceSubmit hp hr start index b).trans (congrArg _ (State.submitSlice_noSchedule hrun hnone ..))
  · intro k budget ordered left
    have hexec := exec_sliceSubmit hp hr start index b
    refine ⟨fun hnot => ?_, fun hord hsize => ?_, fun hord hne hle hfull => ?_, fun hord hne hle hroom => ?_⟩
    · exact hexec.trans (congrArg _ (State.submitSlice_order hrun ha hg b hnot))
    all_goals rw [State.submitSlice_ordered hrun ha hg b hord] at hexec
    · exact hexec.trans (congrArg _ (State.judgeSlice_oversize a g k hsize))
    · exact hexec.trans (congrArg _ (State.judgeSlice_backlog a g k (not_or.2 ⟨hne, Nat.not_lt.2 hle⟩) hfull))
    · intro p
      rw [State.judgeSlice_accepted (s := s.submissionFor k) a g k (not_or.2 ⟨hne, Nat.not_lt.2 hle⟩) hroom] at hexec
      obtain ⟨hlater, hfirst⟩ := (s.submissionFor k).sliceFrame_spec a k
      obtain ⟨y, hy, hfed⟩ := (s.submissionFor k).acceptSlice_eq a ((s.submissionFor k).sliceFrame a k) k b
      rw [hy] at hexec
      refine ⟨_, _, hexec, fun hk => ?_, hfirst, ⟨rfl, rfl⟩, hfed, rfl⟩
      rcases hord with ⟨h0, -⟩ | ⟨-, -, u, hu, -⟩
      · exact absurd h0 hk
      · exact ⟨u, hu, hlater u hk ((if_neg hk).trans hu)⟩

end Sys2Proof.Machine
end

section
/-! SUPPORT. A packet at a receiver (R111, R112, R114) and the doze of a RELAY (R115): discarded, counted, handed on, relayed or lost.
Settles O44. -/

namespace Sys2Proof.Machine

variable {s : State}

/-! ## The doze timer (R115) -/

/-- The packet noted on the down lane of a RELAY in RUNNING: awake, its doze timer from now. -/
theorem State.restartDoze_eq (s : State) (lane : Lane) : s.restartDoze lane =
    if s.role = .relay ∧ lane = .down ∧ s.agree.state = .running then
      { s with lanes := { s.lanes with dozing := false, dozeFrom := some s.clock.now } }
    else s := by
  unfold State.restartDoze State.running
  simp only [decide_eq_true_eq]

theorem State.restartDoze_relay (hr : s.role = .relay) (hrun : s.agree.state = .running) : s.restartDoze .down =
    { s with lanes := { s.lanes with dozing := false, dozeFrom := some s.clock.now } } := by
  rw [State.restartDoze_eq, if_pos ⟨hr, rfl, hrun⟩]

theorem State.dozesOn_false {lane : Lane} (h : s.lanes.dozing = false ∨ lane = .up) : s.dozesOn lane = false := by
  unfold State.dozesOn
  rcases h with h | rfl
  · rw [h, Bool.false_and]
  · rw [decide_eq_false (by decide), Bool.and_false]

theorem exec_lostOnWake (hp : s.powered = true) (n : Nat) : exec (.lostOnWake n) s = .next
    (if s.lanes.dozing then ((s.advance (packetMicros s.lanes.grade n)).bump cLostOnWake).restartDoze .down else s) := by
  rw [show exec (.lostOnWake n) s = execLostOnWake n s from rfl, execLostOnWake, whilePowered_on hp]

theorem exec_dozeTimerExpiry {t0 : Nat} (hp : s.powered = true) (hd : s.lanes.dozing = false) (h : s.lanes.dozeFrom = some t0) :
    exec .dozeTimerExpiry s = .next { s.advanceTo (t0 + 20000) with lanes := { s.lanes with dozing := true } } := by
  rw [show exec .dozeTimerExpiry s = execDozeTimerExpiry s from rfl, execDozeTimerExpiry, whilePowered_on hp, hd,
    if_neg Bool.false_ne_true, runOut_running h]
  rfl

/-! ## Packets (R112, R114) -/

/-- A receiver that is missing or not LOCKED discards (R111). -/
theorem exec_lanePacketReceived_discarded {lane : Lane} (hp : s.powered = true)
    (h : ownsRx s.role lane = false ∨ s.lanes.rx lane ≠ .locked) (b : List Byte) : exec (.lanePacketReceived lane b) s = .next s := by
  have hno : ¬ (ownsRx s.role lane = true ∧ s.lanes.rx lane = .locked) := fun ⟨howns, hlocked⟩ =>
    h.elim (fun h => by rw [h] at howns; cases howns) (fun h => h hlocked)
  rw [show exec (.lanePacketReceived lane b) s = execLanePacketReceived lane b s from rfl, execLanePacketReceived,
    whilePowered_on hp, if_neg hno]

section locked

variable {lane : Lane} (hp : s.powered = true) (howns : ownsRx s.role lane = true) (hlocked : s.lanes.rx lane = .locked)
  (b : List Byte)
include hp howns hlocked

/-- The packet that reaches the down lane of a dozing RELAY is lost unjudged (R115). -/
theorem exec_lanePacketReceived_lost (hd : s.dozesOn lane = true) :
    exec (.lanePacketReceived lane b) s = .next ((s.bump cLostOnWake).restartDoze lane) := by
  rw [show exec (.lanePacketReceived lane b) s = execLanePacketReceived lane b s from rfl, execLanePacketReceived,
    whilePowered_on hp, if_pos ⟨howns, hlocked⟩, if_pos hd]

theorem exec_lanePacketReceived_taken (hd : s.dozesOn lane = false) :
    exec (.lanePacketReceived lane b) s = .next ((s.takePacket lane b).restartDoze lane) := by
  rw [show exec (.lanePacketReceived lane b) s = execLanePacketReceived lane b s from rfl, execLanePacketReceived,
    whilePowered_on hp, if_pos ⟨howns, hlocked⟩, if_neg (by rw [hd]; decide)]

end locked

theorem State.takePacket_bad {lane : Lane} {b : List Byte} (h : goodPacket lane b = none) : s.takePacket lane b = s.bump cBadPacket := by
  rw [State.takePacket, h]

theorem State.takePacket_relay {lane : Lane} {b : List Byte} {k : PacketKind} (hr : s.role = .relay) (h : goodPacket lane b = some k) :
    s.takePacket lane b = s.forwardPacket lane ⟨k, b⟩ := by
  simp only [State.takePacket, h, if_pos hr]

theorem State.forwardPacket_stopped (h : s.agree.state ≠ .running) (lane : Lane) (p : Packet) : s.forwardPacket lane p = s :=
  if_neg (by rw [State.running, decide_eq_false h]; decide)

theorem State.forwardPacket_running (h : s.agree.state = .running) (lane : Lane) (p : Packet) : s.forwardPacket lane p =
    { s with lanes := s.lanes.setTx lane ((s.lanes.tx lane).forward p s.clock.now) } :=
  if_pos (decide_eq_true h)

/-- A running transmitter of a RELAY holds one packet beside the one being sent (R114). -/
theorem Transmitter.forward_running {x : Transmitter} (h : x.state = .running) (p : Packet) (now : Nat) : x.forward p now =
    if x.sending = none then { x with sending := some p, startedAt := now }
    else if x.waiting = [] then { x with waiting := [p] } else x := by
  rw [Transmitter.forward, if_neg (not_not.2 h)]
  simp only [Option.isNone_iff_eq_none]
  rfl

/-- Settles O44: the packet discarded, not good, handed on or relayed, and the doze. -/
theorem packetsReceivedAreJudged : Obligations.PacketsReceivedAreJudged := by
  intro s lane b hp noted
  refine ⟨fun h => exec_lanePacketReceived_discarded hp h b, fun howns hlocked hawake => ⟨fun hbad => ?_, fun k hgood =>
    ⟨fun hr => ?_, fun hr hrun => ?_, fun hr hrun hx => ?_⟩⟩, fun hr hrun => ⟨fun hd => ⟨fun hlocked => ?_, fun n => ?_⟩,
    fun hd => ⟨fun n => ?_, fun t0 ht0 => exec_dozeTimerExpiry hp hd ht0⟩⟩⟩
  · have htaken := exec_lanePacketReceived_taken hp howns hlocked b (State.dozesOn_false hawake)
    rw [State.takePacket_bad hbad, State.restartDoze_eq] at htaken
    exact htaken
  · rw [exec_lanePacketReceived_good hp howns hlocked (State.dozesOn_false hawake) hr hgood]
    cases lane <;> rfl
  · rw [exec_lanePacketReceived_taken hp howns hlocked b (State.dozesOn_false hawake), State.takePacket_relay hr hgood,
      State.forwardPacket_stopped hrun, State.restartDoze_eq, if_neg (fun h => hrun h.2.2)]
  · have htaken := exec_lanePacketReceived_taken hp howns hlocked b (State.dozesOn_false hawake)
    rw [State.takePacket_relay hr hgood, State.forwardPacket_running hrun, Transmitter.forward_running hx,
      State.restartDoze_eq] at htaken
    exact htaken
  · have howns : ownsRx s.role .down = true := by rw [hr]; rfl
    have hdoze : s.dozesOn .down = true := by rw [State.dozesOn, hd]; rfl
    rw [exec_lanePacketReceived_lost hp howns hlocked b hdoze, State.restartDoze_relay (s := s.bump cLostOnWake) hr hrun]
    rfl
  · rw [exec_lostOnWake hp, if_pos hd,
      State.restartDoze_relay (s := (s.advance (packetMicros s.lanes.grade n)).bump cLostOnWake) hr hrun]
    rfl
  · rw [exec_lostOnWake hp, hd, if_neg Bool.false_ne_true]

end Sys2Proof.Machine
end

section
/-! SUPPORT. The HEADSET's slice buffer: what an arriving slice does (R124), and the scan of one index in its two steps, what is shown and
where the scan goes on (R125, R127). Settles O47. -/

namespace Sys2Proof.Machine

variable {s : State}

/-! ## Arrival (R124) -/

section arrival

variable {f : Half} {k pt : Nat} {b : List Byte}

theorem State.sliceArrives_late (h : pt ≤ s.clock.tether) : s.sliceArrives f k pt b = s.bump cSliceLate := if_pos h

theorem State.sliceArrives_stale {i : HeldSlice} (h : s.clock.tether < pt) (hheld : (s.sliceHeadset.slot k).held = some i)
    (hlater : later f i.frame = false) : s.sliceArrives f k pt b = s.bump cStale := by
  refine (if_neg (Nat.not_le.2 h)).trans (if_pos ?_)
  rw [hheld]
  simp [hlater]

/-- A slice in time and later than the held one is judged against the incoming one alone. -/
theorem State.sliceArrives_judged (h : s.clock.tether < pt)
    (hheld : ∀ i, (s.sliceHeadset.slot k).held = some i → later f i.frame = true) :
    s.sliceArrives f k pt b = (s.sliceHeadset.slot k).incoming.elim
      (s.setSlot k ⟨(s.sliceHeadset.slot k).held, some ⟨f, pt, b⟩⟩)
      (fun i => if later f i.frame then (s.setSlot k ⟨(s.sliceHeadset.slot k).held, some ⟨f, pt, b⟩⟩).bump cSuperseded
        else s.bump cStale) := by
  refine (if_neg (Nat.not_le.2 h)).trans ((if_neg ?_).trans ?_)
  · cases hx : (s.sliceHeadset.slot k).held with
    | none => exact Bool.false_ne_true
    | some i => simp [hheld i hx]
  · cases (s.sliceHeadset.slot k).incoming <;> rfl

end arrival

/-! ## The slots -/

theorem SliceHeadset.slot_set_self {l : List Slot} {k : Nat} (h : k < l.length) (x : Slot) : (l.set k x).getD k emptySlot = x := by
  rw [List.getD_eq_getElem?_getD, List.getElem?_set_self h, Option.getD_some]

theorem SliceHeadset.slot_set_ne {j k : Nat} (h : j ≠ k) (l : List Slot) (x : Slot) :
    (l.set k x).getD j emptySlot = l.getD j emptySlot := by
  rw [List.getD_eq_getElem?_getD, List.getElem?_set_ne (Ne.symm h), List.getD_eq_getElem?_getD]

theorem SliceHeadset.set_slot {h : SliceHeadset} {k : Nat} (hk : k < h.slots.length) : h.slots.set k (h.slot k) = h.slots := by
  rw [SliceHeadset.slot, List.getD_eq_getElem _ _ hk, List.set_getElem_self]

/-! ## The picture counters (R116) -/

theorem Counters.add_picture_ne {i j : Nat} (h : i ≠ j) (n : Nat) (c : Counters) :
    (c.add (.picture i) n).picture[j]? = c.picture[j]? := List.getElem?_modify_ne _ _ h

theorem Counters.add_picture_self (i : Nat) (c : Counters) :
    (c.add (.picture i) 1).picture[i]? = (c.picture[i]?).map (fun v => min (v + 1) 65535) := addAt_getElem? i 1 _

theorem SliceHeadset.Sized.index_lt {h : SliceHeadset} (hsized : h.Sized) : h.index < h.slots.length := by
  rw [hsized.slots]
  exact Nat.lt_succ_of_le hsized.index

/-! ## What the scan shows (R125) -/

/-- The incoming slice is of the frame scanned. -/
def Slot.isFresh (num : Half) (x : Slot) : Bool := x.incoming.any (fun i => decide (i.frame = num))

/-- The incoming slice is of a frame passed over. -/
def Slot.isPassed (num : Half) (x : Slot) : Bool := x.incoming.any (fun i => later num i.frame)

/-- Step 1 of R125. -/
def Slot.freed (num : Half) (x : Slot) : Slot := ⟨x.held, if x.isPassed num then none else x.incoming⟩

/-- Steps 2 to 4 of R125: what is held afterwards is what is shown. -/
def Slot.scanned (num : Half) (time : Nat) (x : Slot) : Slot :=
  if x.isFresh num then ⟨x.incoming, none⟩ else ⟨x.held.map (fun h => ⟨num, time, h.bytes⟩), x.incoming⟩

theorem Slot.isFresh_iff (num : Half) (x : Slot) : x.isFresh num = true ↔ ∃ i, x.incoming = some i ∧ i.frame = num := by
  simp [Slot.isFresh, Option.any_eq_true]

theorem Slot.isPassed_iff (num : Half) (x : Slot) : x.isPassed num = true ↔ ∃ i, x.incoming = some i ∧ later num i.frame = true := by
  simp [Slot.isPassed, Option.any_eq_true]

/-- No frame is later than itself (R1). -/
theorem later_self {n : Nat} (a : BitVec n) : later a a = false := by
  simp [later]

theorem Slot.not_passed_of_fresh {num : Half} {x : Slot} (h : x.isFresh num = true) : x.isPassed num = false := by
  obtain ⟨i, hi, rfl⟩ := (x.isFresh_iff num).1 h
  simp [Slot.isPassed, hi, later_self]

theorem Slot.freed_of_fresh {num : Half} {x : Slot} (h : x.isFresh num = true) : x.freed num = x := by
  rw [Slot.freed, Slot.not_passed_of_fresh h, if_neg Bool.false_ne_true]

theorem Slot.freed_isFresh (num : Half) (x : Slot) : (x.freed num).isFresh num = x.isFresh num := by
  cases h : x.isFresh num with
  | true => rw [Slot.freed_of_fresh h, h]
  | false =>
    unfold Slot.freed
    split
    · rfl
    · exact h

theorem State.freePassedOver_eq {k : Nat} (hk : k < s.sliceHeadset.slots.length) (num : Half) : s.freePassedOver num k = { s with
    sliceHeadset := s.sliceHeadset.setSlot k ((s.sliceHeadset.slot k).freed num)
    counters := if (s.sliceHeadset.slot k).isPassed num then s.counters.add cSliceLate 1 else s.counters } := by
  have hsame : s.sliceHeadset.setSlot k (s.sliceHeadset.slot k) = s.sliceHeadset := by
    rw [SliceHeadset.setSlot, SliceHeadset.set_slot hk]
  have hstays : (s.sliceHeadset.slot k).isPassed num = false → (s.sliceHeadset.slot k).freed num = s.sliceHeadset.slot k :=
    fun h => by rw [Slot.freed, h, if_neg Bool.false_ne_true]
  unfold State.freePassedOver
  cases hx : (s.sliceHeadset.slot k).incoming with
  | none =>
    have hno : (s.sliceHeadset.slot k).isPassed num = false := by rw [Slot.isPassed, hx]; rfl
    simp only [hx, hstays hno, hsame, hno, Bool.false_eq_true, if_false]
  | some i =>
    have hpassed : (s.sliceHeadset.slot k).isPassed num = later num i.frame := by rw [Slot.isPassed, hx]; rfl
    simp only [hx, hpassed]
    cases hlater : later num i.frame
    · simp only [hstays (hpassed.trans hlater), hsame, Bool.false_eq_true, if_false]
    · rw [Slot.freed, hpassed.trans hlater]
      rfl

/-- The counts of what an index shows: fresh, or again in RUNNING (R116, R125). -/
def Counters.shown (num : Half) (run : Bool) (x : Slot) (c : Counters) : Counters :=
  if x.isFresh num then c.add cShown 1 else if run && x.held.isSome then c.add cRepeated 1 else c

/-- The place `k` shows what the slot, step 1 taken, holds at the end of the scan. -/
def State.showSlot (num : Half) (k time : Nat) (x : Slot) (s : State) : State := { s with
  sliceHeadset := { s.sliceHeadset with
    slots := s.sliceHeadset.slots.set k (x.scanned num time)
    panel := s.sliceHeadset.panel.set k ((x.scanned num time).held.map HeldSlice.bytes)
    notFresh := if x.isFresh num then s.sliceHeadset.notFresh else s.sliceHeadset.notFresh + 1 }
  counters := s.counters.shown num s.running x }

theorem State.showAgain_eq {k : Nat} (hk : k < s.sliceHeadset.slots.length) {num : Half}
    (hno : (s.sliceHeadset.slot k).isFresh num = false) (time : Nat) :
    s.showAgain num k time = s.showSlot num k time (s.sliceHeadset.slot k) := by
  have hscanned : (s.sliceHeadset.slot k).scanned num time =
      ⟨(s.sliceHeadset.slot k).held.map (fun h => ⟨num, time, h.bytes⟩), (s.sliceHeadset.slot k).incoming⟩ := by
    rw [Slot.scanned, hno, if_neg Bool.false_ne_true]
  rw [State.showSlot, hscanned, Counters.shown, hno]
  unfold State.showAgain
  cases hx : (s.sliceHeadset.slot k).held with
  | none =>
    have hsame : s.sliceHeadset.slots.set k ⟨none, (s.sliceHeadset.slot k).incoming⟩ = s.sliceHeadset.slots := by
      rw [← hx]
      exact SliceHeadset.set_slot hk
    simp only [hx, Option.map_none, hsame, Option.isSome_none, Bool.and_false]
    rfl
  | some h =>
    simp only [hx]
    cases s.running <;> rfl

theorem State.showIndex_eq {k : Nat} (hk : k < s.sliceHeadset.slots.length) (num : Half) (time : Nat) :
    s.showIndex num k time = s.showSlot num k time (s.sliceHeadset.slot k) := by
  unfold State.showIndex
  cases hx : (s.sliceHeadset.slot k).incoming with
  | none =>
    have hno : (s.sliceHeadset.slot k).isFresh num = false := by rw [Slot.isFresh, hx]; rfl
    simp only [hx]
    exact State.showAgain_eq hk hno time
  | some i =>
    have hfresh : (s.sliceHeadset.slot k).isFresh num = decide (i.frame = num) := by rw [Slot.isFresh, hx]; rfl
    simp only [hx]
    split
    · next hi =>
      rw [State.showSlot, Slot.scanned, Counters.shown, hfresh.trans (decide_eq_true hi), hx]
      rfl
    · next hi => exact State.showAgain_eq hk (hfresh.trans (decide_eq_false hi)) time

/-- The counts of the scan of one index. -/
def Counters.scanned (num : Half) (run : Bool) (x : Slot) (c : Counters) : Counters :=
  (if x.isPassed num then c.add cSliceLate 1 else c).shown num run (x.freed num)

/-- The scan of one index, but for the going on: slot and place of the index alone, and the counts. -/
theorem State.showIndex_freePassedOver {k : Nat} (hk : k < s.sliceHeadset.slots.length) (num : Half) (time : Nat) :
    let x := s.sliceHeadset.slot k
    (s.freePassedOver num k).showIndex num k time = { s with
      sliceHeadset := { s.sliceHeadset with
        slots := s.sliceHeadset.slots.set k ((x.freed num).scanned num time)
        panel := s.sliceHeadset.panel.set k (((x.freed num).scanned num time).held.map HeldSlice.bytes)
        notFresh := if x.isFresh num then s.sliceHeadset.notFresh else s.sliceHeadset.notFresh + 1 }
      counters := s.counters.scanned num s.running x } := by
  intro x
  obtain ⟨u, hu⟩ : ∃ u, s.freePassedOver num k = u := ⟨_, rfl⟩
  have heq := State.freePassedOver_eq hk num
  rw [hu] at heq
  have hslot : u.sliceHeadset.slot k = x.freed num := by rw [heq]; exact SliceHeadset.slot_set_self hk _
  have hk' : k < u.sliceHeadset.slots.length := by
    rw [heq]
    exact (List.length_set (as := s.sliceHeadset.slots)).symm ▸ hk
  rw [hu, State.showIndex_eq hk', hslot, State.showSlot, Slot.freed_isFresh, heq]
  simp only [SliceHeadset.setSlot, List.set_set]
  rfl

/-- What each of the counts makes of the scan of one index. -/
theorem Counters.scanned_picture (num : Half) (run : Bool) (x : Slot) (c : Counters) :
    let d := (c.scanned num run x).picture
    (x.isFresh num = true → d[0]? = (c.picture[0]?).map (fun v => min (v + 1) 65535)) ∧
    (x.isFresh num = false → d[0]? = c.picture[0]?) ∧
    (x.isPassed num = true → d[1]? = (c.picture[1]?).map (fun v => min (v + 1) 65535)) ∧
    (x.isPassed num = false → d[1]? = c.picture[1]?) ∧
    (x.isFresh num = false → x.held ≠ none → run = true → d[4]? = (c.picture[4]?).map (fun v => min (v + 1) 65535)) ∧
    d[6]? = c.picture[6]? := by
  intro d
  obtain ⟨b, hb⟩ : ∃ b, b = if x.isPassed num then c.add cSliceLate 1 else c := ⟨_, rfl⟩
  have hlate : (x.isPassed num = true → b.picture[1]? = (c.picture[1]?).map (fun v => min (v + 1) 65535)) ∧
      (x.isPassed num = false → b.picture[1]? = c.picture[1]?) ∧ ∀ i, i ≠ 1 → b.picture[i]? = c.picture[i]? := by
    refine ⟨fun h => ?_, fun h => ?_, fun i hi => ?_⟩
    · rw [hb, if_pos h]
      exact Counters.add_picture_self 1 c
    · rw [hb, h, if_neg Bool.false_ne_true]
    · rw [hb]
      split
      · exact Counters.add_picture_ne (Ne.symm hi) 1 c
      · rfl
  obtain ⟨hpassed, hnot, hother⟩ := hlate
  have hd : d = (if x.isFresh num then b.add cShown 1 else if run && x.held.isSome then b.add cRepeated 1 else b).picture := by
    show (Counters.shown num run (x.freed num) (if x.isPassed num then c.add cSliceLate 1 else c)).picture = _
    rw [← hb, Counters.shown, Slot.freed_isFresh]
    rfl
  have hshown : ∀ i, i ≠ 0 → i ≠ 4 → d[i]? = b.picture[i]? := fun i h0 h4 => by
    rw [hd]
    split
    · exact Counters.add_picture_ne (Ne.symm h0) 1 b
    · split
      · exact Counters.add_picture_ne (Ne.symm h4) 1 b
      · rfl
  refine ⟨fun h => ?_, fun h => ?_, fun h => ?_, fun h => ?_, fun h hheld hrun => ?_, ?_⟩
  · rw [hd, if_pos h, ← hother 0 (by decide)]
    exact Counters.add_picture_self 0 b
  · rw [hd, h, if_neg Bool.false_ne_true, ← hother 0 (by decide)]
    split
    · exact Counters.add_picture_ne (by decide) 1 b
    · rfl
  · rw [hshown 1 (by decide) (by decide), hpassed h]
  · rw [hshown 1 (by decide) (by decide), hnot h]
  · rw [hd, h, if_neg Bool.false_ne_true, hrun, Option.isSome_iff_ne_none.2 hheld, Bool.true_and, if_pos rfl,
      ← hother 4 (by decide)]
    exact Counters.add_picture_self 4 b
  · rw [hshown 6 (by decide) (by decide), hother 6 (by decide)]

/-! ## Where the scan goes on (R118, R127) -/

theorem State.makeFrameShown_headset (s : State) (n time repeated : Nat) :
    (s.makeFrameShown n time repeated).sliceHeadset = s.sliceHeadset := by
  unfold State.makeFrameShown
  split <;> rfl

theorem State.nextScan_headset (s : State) (a n k : Nat) : (s.nextScan a n k).sliceHeadset =
    if k = 11 then { s.sliceHeadset with frame := n + 1, index := 0, notFresh := 0 } else { s.sliceHeadset with index := k + 1 } := by
  unfold State.nextScan
  split
  · dsimp only
    rw [State.makeFrameShown_headset]
  · rfl

theorem State.nextScan_on {k : Nat} (hk : k ≠ 11) (a n : Nat) :
    (s.nextScan a n k).lanes = s.lanes ∧ (s.nextScan a n k).counters = s.counters := by
  rw [State.nextScan, if_neg hk]
  exact ⟨rfl, rfl⟩

/-- The frame-shown record of the frame just scanned (R127). -/
def State.shownRecord (a n : Nat) (s : State) : Packet := makePacket .frameShown
  (leBytes 2 (n % 65536) ++ leBytes 4 (a + n * framePeriod s.straps.refresh120) ++ [BitVec.ofNat 8 s.sliceHeadset.notFresh])

/-- After index 11 in RUNNING the record is offered up the lane. -/
theorem State.nextScan_sent (h : s.agree.state = .running) (a n : Nat) :
    (s.nextScan a n 11).lanes = { s.lanes with upTx := s.lanes.upTx.offer (s.shownRecord a n) s.clock.now } ∧
    (s.nextScan a n 11).counters = s.counters := by
  have htime : scanTime a s.straps.refresh120 n 0 = a + n * framePeriod s.straps.refresh120 := by
    rw [scanTime, Nat.zero_mul, Nat.zero_div, Nat.add_zero]
  have hrun : s.running = true := decide_eq_true h
  rw [State.nextScan, if_pos rfl, State.makeFrameShown, if_pos hrun, htime]
  exact ⟨rfl, rfl⟩

/-- Outside it the record is dropped and counted. -/
theorem State.nextScan_unsent (h : s.agree.state ≠ .running) (a n : Nat) :
    (s.nextScan a n 11).lanes = s.lanes ∧ (s.nextScan a n 11).counters = s.counters.add cFrameUnsent 1 := by
  have hrun : ¬ s.running = true := by rw [State.running, decide_eq_false h]; decide
  rw [State.nextScan, if_pos rfl, State.makeFrameShown, if_neg hrun]
  exact ⟨rfl, rfl⟩

/-- No other count than FRAME_UNSENT is touched where the scan goes on. -/
theorem State.nextScan_picture (s : State) (a n k : Nat) {i : Nat} (hi : i ≠ 6) :
    (s.nextScan a n k).counters.picture[i]? = s.counters.picture[i]? := by
  by_cases hk : k = 11
  · subst hk
    by_cases hrun : s.agree.state = .running
    · rw [(State.nextScan_sent hrun a n).2]
    · rw [(State.nextScan_unsent hrun a n).2]
      exact Counters.add_picture_ne (Ne.symm hi) 1 _
  · rw [(State.nextScan_on hk a n).2]

/-! ## The scan of one index -/

/-- SLICE_SCAN sets the tether time to the scan time, or leaves it where it is later. -/
theorem exec_sliceScan {a : Nat} (hp : s.powered = true) (ha : s.sliceHeadset.anchor = some a) (hmax : s.nextScanTime a ≤ tetherMax) :
    exec .sliceScan s = .next ((s.advance (s.nextScanTime a - s.clock.tether)).scanIndex a) := by
  have hreached : s.nextScanTime a ≤ (s.advanceToTether (s.nextScanTime a)).clock.tether :=
    Nat.le_min.2 ⟨by omega, hmax⟩
  rw [show exec .sliceScan s = execSliceScan s from rfl, execSliceScan, whilePowered_on hp, ha]
  exact congrArg _ (if_pos hreached)

/-- The slot at the scan position after the scan: what it holds is what is shown. -/
def State.scannedSlot (a : Nat) (s : State) : Slot :=
  ((s.sliceHeadset.slot s.sliceHeadset.index).freed (BitVec.ofNat 16 s.sliceHeadset.frame)).scanned
    (BitVec.ofNat 16 s.sliceHeadset.frame) (s.nextScanTime a)

/-- The index at the scan position shown, before the scan goes on. -/
def State.indexShown (a : Nat) (s : State) : State :=
  let num : Half := BitVec.ofNat 16 s.sliceHeadset.frame
  let k := s.sliceHeadset.index
  let x := s.sliceHeadset.slot k
  { s with
    sliceHeadset := { s.sliceHeadset with
      slots := s.sliceHeadset.slots.set k (s.scannedSlot a)
      panel := s.sliceHeadset.panel.set k ((s.scannedSlot a).held.map HeldSlice.bytes)
      notFresh := if x.isFresh num then s.sliceHeadset.notFresh else s.sliceHeadset.notFresh + 1 }
    counters := s.counters.scanned num s.running x }

theorem State.scanIndex_eq (hk : s.sliceHeadset.index < s.sliceHeadset.slots.length) (a : Nat) :
    s.scanIndex a = (s.indexShown a).nextScan a s.sliceHeadset.frame s.sliceHeadset.index :=
  congrArg (State.nextScan a s.sliceHeadset.frame s.sliceHeadset.index)
    (State.showIndex_freePassedOver hk (BitVec.ofNat 16 s.sliceHeadset.frame) (s.nextScanTime a))

/-- Slot and place of the index alone are written. -/
theorem State.scanIndex_buffer (h : s.sliceHeadset.Sized) (a : Nat) :
    let k := s.sliceHeadset.index
    let t := s.scanIndex a
    t.sliceHeadset.slot k = s.scannedSlot a ∧
    t.sliceHeadset.panel[k]? = some ((s.scannedSlot a).held.map HeldSlice.bytes) ∧
    (∀ j, j ≠ k → t.sliceHeadset.slot j = s.sliceHeadset.slot j ∧ t.sliceHeadset.panel[j]? = s.sliceHeadset.panel[j]?) ∧
    t.sliceHeadset.panel.length = 12 ∧ t.sliceHeadset.anchor = s.sliceHeadset.anchor := by
  intro k t
  have hplace : k < s.sliceHeadset.panel.length := by rw [h.panel]; exact Nat.lt_succ_of_le h.index
  have hwritten : t.sliceHeadset.slots = s.sliceHeadset.slots.set k (s.scannedSlot a) ∧
      t.sliceHeadset.panel = s.sliceHeadset.panel.set k ((s.scannedSlot a).held.map HeldSlice.bytes) ∧
      t.sliceHeadset.anchor = s.sliceHeadset.anchor := by
    rw [show t = _ from State.scanIndex_eq h.index_lt a, State.nextScan_headset]
    split <;> exact ⟨rfl, rfl, rfl⟩
  obtain ⟨hslots, hpanel, hanchor⟩ := hwritten
  unfold SliceHeadset.slot
  rw [hslots, hpanel]
  exact ⟨SliceHeadset.slot_set_self h.index_lt _, List.getElem?_set_self hplace,
    fun j hj => ⟨SliceHeadset.slot_set_ne hj _ _, List.getElem?_set_ne (Ne.symm hj)⟩, List.length_set.trans h.panel, hanchor⟩

/-- One more index has been shown that was not fresh, or not (R127). -/
theorem State.indexShown_notFresh (s : State) (a shown : Nat) :
    let fresh := (s.sliceHeadset.slot s.sliceHeadset.index).isFresh (BitVec.ofNat 16 s.sliceHeadset.frame)
    (fresh = true → shown = s.sliceHeadset.notFresh) → (fresh = false → shown = s.sliceHeadset.notFresh + 1) →
    (s.indexShown a).sliceHeadset.notFresh = shown := by
  intro fresh hsame hmore
  show (if fresh then s.sliceHeadset.notFresh else s.sliceHeadset.notFresh + 1) = shown
  cases hfresh : fresh
  · exact (hmore hfresh).symm
  · exact (hsame hfresh).symm

/-- The scan goes on to the next index, or after index 11 to the next frame, with the record of what was shown. -/
theorem State.scanIndex_goesOn (hk : s.sliceHeadset.index < s.sliceHeadset.slots.length) (a : Nat) :
    let n := s.sliceHeadset.frame
    let k := s.sliceHeadset.index
    let t := s.scanIndex a
    (k < 11 → t.sliceHeadset.frame = n ∧ t.sliceHeadset.index = k + 1 ∧
      t.sliceHeadset.notFresh = (s.indexShown a).sliceHeadset.notFresh ∧ t.lanes = s.lanes) ∧
    (k = 11 → t.sliceHeadset.frame = n + 1 ∧ t.sliceHeadset.index = 0 ∧ t.sliceHeadset.notFresh = 0 ∧
      (s.agree.state ≠ .running → t.lanes = s.lanes ∧ t.counters = (s.indexShown a).counters.add cFrameUnsent 1) ∧
      (s.agree.state = .running → t.lanes =
        { s.lanes with upTx := s.lanes.upTx.offer ((s.indexShown a).shownRecord a n) s.clock.now })) := by
  intro n k t
  have ht : t = (s.indexShown a).nextScan a n k := State.scanIndex_eq hk a
  have hheadset := (s.indexShown a).nextScan_headset a n k
  rw [← ht] at hheadset
  refine ⟨fun hlt => ?_, fun h11 => ?_⟩
  · have hne : k ≠ 11 := Nat.ne_of_lt hlt
    rw [if_neg hne] at hheadset
    rw [hheadset, ht]
    exact ⟨rfl, rfl, rfl, (State.nextScan_on hne a n).1⟩
  · rw [if_pos h11] at hheadset
    rw [h11] at ht
    rw [hheadset, ht]
    exact ⟨rfl, rfl, rfl, fun hrun => State.nextScan_unsent (s := s.indexShown a) hrun a n,
      fun hrun => (State.nextScan_sent (s := s.indexShown a) hrun a n).1⟩

theorem State.scanIndex_picture (hk : s.sliceHeadset.index < s.sliceHeadset.slots.length) (a : Nat) {i : Nat} (hi : i ≠ 6) :
    (s.scanIndex a).counters.picture[i]? = (s.indexShown a).counters.picture[i]? := by
  rw [State.scanIndex_eq hk, State.nextScan_picture _ _ _ _ hi]

/-- What the panel gives at one place (R78, R125). -/
theorem State.panelPort_getElem? (h : s.loads.current.panel ≠ 0) (j : Nat) :
    s.panelPort[j]? = (s.sliceHeadset.panel[j]?).map (Option.map (fun bytes => (s.loads.current.panel, bytes))) := by
  rw [State.panelPort, List.getElem?_map]
  simp only [if_neg h]

theorem Slot.scanned_fresh {num : Half} {time : Nat} {x : Slot} {i : HeldSlice} (hi : x.incoming = some i) (hnum : i.frame = num) :
    (x.freed num).scanned num time = ⟨some i, none⟩ := by
  have hfresh : x.isFresh num = true := (x.isFresh_iff num).2 ⟨i, hi, hnum⟩
  rw [Slot.freed_of_fresh hfresh, Slot.scanned, hfresh, if_pos rfl, hi]

theorem Slot.scanned_again {num : Half} {x : Slot} (h : x.isFresh num = false) (time : Nat) : (x.freed num).scanned num time =
    ⟨x.held.map (fun h => ⟨num, time, h.bytes⟩), if x.isPassed num then none else x.incoming⟩ := by
  rw [Slot.scanned, Slot.freed_isFresh, h, if_neg Bool.false_ne_true]
  rfl

/-- Settles O47: the arriving slice, then the scan of one index. -/
theorem sliceBufferIsFilledAndScanned : Obligations.SliceBufferIsFilledAndScanned := by
  refine ⟨fun s f k pt b => ?_, fun s hp hnone => ?_, fun s a hp ha hsized => ?_⟩
  · intro x t counted stored
    refine ⟨State.sliceArrives_late, fun h ⟨i, hi, hlater⟩ => State.sliceArrives_stale h hi hlater, fun h hheld => ?_⟩
    have hjudged : t = _ := State.sliceArrives_judged h hheld
    refine ⟨fun hnone => ?_, fun i hi => ⟨fun hlater => ?_, fun hlater => ?_⟩⟩
    · rw [show (s.sliceHeadset.slot k).incoming = none from hnone] at hjudged
      exact hjudged
    all_goals rw [show (s.sliceHeadset.slot k).incoming = some i from hi] at hjudged
    · exact hjudged.trans (if_pos hlater)
    · exact hjudged.trans (if_neg (Bool.eq_false_iff.1 hlater))
  · rw [show exec .sliceScan s = execSliceScan s from rfl, execSliceScan, whilePowered_on hp, hnone]
  · intro n k p time num x fresh passed hmax
    obtain ⟨c, hc⟩ : ∃ c, s.advance (time - s.clock.tether) = { s with clock := c } := ⟨_, rfl⟩
    have hexec : exec .sliceScan s = .next ((s.advance (time - s.clock.tether)).scanIndex a) := exec_sliceScan hp ha hmax
    obtain ⟨hslot, hat, hothers, hlength, hanchor⟩ := State.scanIndex_buffer (s := { s with clock := c }) hsized a
    obtain ⟨hon, hend⟩ := State.scanIndex_goesOn (s := { s with clock := c }) hsized.index_lt a
    have hpicture := fun i hi => State.scanIndex_picture (s := { s with clock := c }) hsized.index_lt a (i := i) hi
    have honly : ({ s with clock := c } : State).OnlyPicture (({ s with clock := c } : State).scanIndex a) := .scanIndex a
    obtain ⟨hshown, hnotShown, hpassed, hnotPassed, hrepeated, hunsent⟩ := s.counters.scanned_picture num s.running x
    rw [hc] at hexec ⊢
    generalize ({ s with clock := c } : State).scanIndex a = t at *
    have hclock : t.clock = c := by rw [honly]
    have hloads : t.loads = s.loads := by rw [honly]
    have hfresh : x.isFresh num = true ↔ fresh := x.isFresh_iff num
    have hpass : x.isPassed num = true ↔ passed := x.isPassed_iff num
    have hnotFresh : x.isFresh num = false ↔ ¬ fresh := Bool.eq_false_iff.trans (not_congr hfresh)
    have hnotPass : x.isPassed num = false ↔ ¬ passed := Bool.eq_false_iff.trans (not_congr hpass)
    have hagain : ¬ fresh → ({ s with clock := c } : State).scannedSlot a =
        ⟨x.held.map (fun h => ⟨num, time, h.bytes⟩), if x.isPassed num then none else x.incoming⟩ :=
      fun h => Slot.scanned_again (hnotFresh.2 h) time
    have hnow : ∀ shown, (fresh → shown = s.sliceHeadset.notFresh) → (¬ fresh → shown = s.sliceHeadset.notFresh + 1) →
        (({ s with clock := c } : State).indexShown a).sliceHeadset.notFresh = shown := fun shown hsame hmore =>
      State.indexShown_notFresh _ a shown (fun h => hsame (hfresh.1 h)) (fun h => hmore (hnotFresh.1 h))
    refine ⟨t, hexec, hclock, fun i hi hnum => ?_, fun hno => ⟨fun h => ?_, fun h => ?_, fun h hheld => ?_, fun hheld => ?_⟩,
      hothers, fun shown hsame hmore => ⟨fun hlt => ?_, fun h11 => ?_⟩, fun h => ?_, fun h => ?_, fun h => ?_,
      fun h => ?_, fun h hheld hrun => ?_, fun h j hj => ?_, fun h j => ?_, hanchor, ?_⟩
    · have hscanned : ({ s with clock := c } : State).scannedSlot a = ⟨some i, none⟩ := Slot.scanned_fresh hi hnum
      rw [hslot, hat, hscanned]
      exact ⟨rfl, rfl⟩
    · rw [hslot, hagain hno]
      exact if_pos (hpass.2 h)
    · rw [hslot, hagain hno]
      exact if_neg (mt hpass.1 h)
    · rw [hslot, hat, hagain hno, hheld]
      exact ⟨rfl, rfl⟩
    · rw [hslot, hat, hagain hno, hheld]
      exact ⟨rfl, rfl⟩
    · obtain ⟨hframe, hindex, hcount, hlanes⟩ := hon hlt
      exact ⟨hframe, hindex, hcount.trans (hnow shown hsame hmore), hlanes⟩
    · obtain ⟨hframe, hindex, hcount, hdropped, hsent⟩ := hend h11
      refine ⟨hframe, hindex, hcount, fun hrun => ?_, fun hrun => ?_⟩
      · obtain ⟨hlanes, hcounters⟩ := hdropped hrun
        refine ⟨hlanes, ?_⟩
        rw [hcounters, ← hunsent]
        exact Counters.add_picture_self 6 _
      · rw [hsent hrun, hclock, State.shownRecord, hnow shown hsame hmore]
        rfl
    · rw [hpicture 0 (by decide)]; exact hshown (hfresh.2 h)
    · rw [hpicture 0 (by decide)]; exact hnotShown (hnotFresh.2 h)
    · rw [hpicture 1 (by decide)]; exact hpassed (hpass.2 h)
    · rw [hpicture 1 (by decide)]; exact hnotPassed (hnotPass.2 h)
    · rw [hpicture 4 (by decide)]; exact hrepeated (hnotFresh.2 h) hheld (decide_eq_true hrun)
    · rw [t.panelPort_dark (hloads ▸ h), hlength, List.getElem?_replicate, if_pos hj]
    · rw [State.panelPort_getElem? (hloads ▸ h), hloads]
    · rw [hclock]
      exact honly

end Sys2Proof.Machine
end

section
/-! SUPPORT. A receiver's change (R111): the entry into RUNNING that completes TRAINING (R104, R118) and the loss that opens a round (R96).
Settles O42. -/

namespace Sys2Proof.Machine

variable {s t u : State}

/-! ## Frames -/

theorem State.changeAgree_pathFrame (s : State) (st : AgreeState) (g : Option Grade) (r : Reason) : s.PathFrame (s.changeAgree st g r) := by
  obtain ⟨l, m, -, -, h⟩ := s.changeAgree_frame st g r
  rw [h]
  rfl

/-- The anchor is written at the slice controller and in the self entry, and nothing else (R118). -/
theorem State.setAnchor_frame (s : State) : s.setAnchor = { s with
    sliceHeadset := s.setAnchor.sliceHeadset
    roster := { s.roster with self := { s.roster.self with anchor := s.setAnchor.roster.self.anchor } } } := by
  unfold State.setAnchor
  split <;> rfl

theorem State.setAnchor_kept (h : s.role ≠ .headset ∨ s.sliceHeadset.anchor ≠ none) : s.setAnchor = s := by
  refine if_neg fun ⟨hr, hnone⟩ => ?_
  exact h.elim (fun h => h hr) (fun h => h (Option.isNone_iff_eq_none.1 hnone))

/-- The first anchor stands two frame periods ahead. -/
theorem State.setAnchor_first (hr : s.role = .headset) (h : s.sliceHeadset.anchor = none) :
    let a := s.clock.tether + 2 * framePeriod s.straps.refresh120
    s.setAnchor.sliceHeadset.anchor = some a ∧ s.setAnchor.roster.self.anchor = some ⟨a, s.straps.refresh120⟩ := by
  rw [State.setAnchor, if_pos ⟨hr, Option.isNone_iff_eq_none.2 h⟩]
  exact ⟨rfl, rfl⟩

/-! ## Entry into RUNNING (R104) -/

/-- The counts at 0, and MODE_CHANGED where the grade is a new one. -/
def State.runReady (s : State) : State := { s with
  agree := { s.agree with failures := 0, laneFaults := 0, lastRun := s.agree.chosen }
  host := if s.agree.lastRun = s.agree.chosen then s.host else (s.raise .modeChanged).host }

/-- RUNNING at the chosen grade, before a HEADSET sets its anchor. -/
def State.startRun (s : State) : State := s.runReady.changeAgree .running s.agree.chosen s.agree.reason

theorem State.enterRunning_eq (s : State) : s.enterRunning = s.startRun.setAnchor := by
  unfold State.enterRunning State.startRun State.runReady
  dsimp only
  split <;> rfl

theorem State.startRun_agree (s : State) : s.startRun.agree = { s.agree with
    state := .running, failures := 0, laneFaults := 0, lastRun := s.agree.chosen, stepFrom := none } :=
  State.changeAgree_agree ..

theorem State.startRun_pathFrame (s : State) : s.PathFrame s.startRun := by
  refine State.PathFrame.trans (t := s.runReady) ?_ (State.changeAgree_pathFrame ..)
  unfold State.runReady
  split <;> rfl

/-- Time and the HEADSET's slice side stand; of the host port MODE_CHANGED alone may be set. -/
theorem State.startRun_stands (s : State) : s.startRun.clock = s.clock ∧ s.startRun.sliceHeadset = s.sliceHeadset ∧
    s.startRun.host = if s.agree.lastRun = s.agree.chosen then s.host else (s.raise .modeChanged).host := by
  obtain ⟨l, m, -, -, h⟩ := s.runReady.changeAgree_frame .running s.agree.chosen s.agree.reason
  rw [State.startRun, h]
  exact ⟨rfl, rfl, rfl⟩

theorem State.startRun_parked (s : State) : s.startRun.parked = s.parked := by
  have hframe := s.startRun_pathFrame
  have hpower : s.startRun.power = s.power := State.changeAgree_power ..
  refine (State.cap_congr (by rw [hframe]) (by rw [hframe]) ?_ ?_ ?_ ?_).1 <;> rw [hpower]

/-- What the data blocks and a RELAY's doze are told of the entry (R115, R141). -/
theorem State.startRun_told (s : State) (h : s.running = false) :
    (s.role = .headset → s.startRun.motionHeadset.fallbackFrom = none) ∧
    (s.role = .relay → s.parked = false → s.startRun.lanes.dozing = false ∧ s.startRun.lanes.dozeFrom = some s.clock.now) := by
  obtain ⟨l, m, -, -, hframe⟩ := s.runReady.changeAgree_frame .running s.agree.chosen s.agree.reason
  have hrun : s.runReady.running = false := h
  rw [State.startRun, hframe]
  refine ⟨fun hr => ?_, fun hr hparked => ⟨rfl, ?_⟩⟩
  · dsimp only
    rw [if_pos (show s.runReady.role = .headset from hr), hrun]
    rfl
  · obtain ⟨v, hv⟩ : ∃ v : State, v = { s.runReady with agree := { s.runReady.agree with
      state := .running, chosen := s.agree.chosen, reason := s.agree.reason, stepFrom := none } } := ⟨_, rfl⟩
    obtain ⟨-, -, -, hdoze⟩ := v.orderLanes_lanes
    have hrunning : v.laneOrder = .running ∧ v.role = .relay := by
      rw [State.laneOrder, hv]
      exact ⟨if_neg (show ¬ s.parked = true by rw [hparked]; decide), hr⟩
    rw [if_pos hrunning, hv] at hdoze
    exact hdoze

/-- An entry into RUNNING that leaves the lane as ordered has handed on what R95 says. -/
theorem State.LaneOrdered.handedOn_entered (h : t.LaneOrdered) (hs : s.running = false) (ht : t.running = true)
    (htimer : t.role = .headset → t.motionHeadset.fallbackFrom = none)
    (hdoze : t.role = .relay → t.parked = false → t.lanes.dozing = false ∧ t.lanes.dozeFrom = some t.clock.now) : s.HandedOn t := by
  unfold State.HandedOn
  dsimp only
  rw [← orderedTx_eq, ← Agree.summary_eq, ← State.pinnedLane_eq]
  refine ⟨h.tx, h.rx, h.grade, h.summary, h.level, h.doze, fun hrun => ?_, fun _ _ => ⟨htimer, hdoze⟩, fun hsame => ?_⟩
  · rw [hs] at hrun
    cases hrun
  · rw [hs, ht] at hsame
    cases hsame

theorem State.enterRunning_ordered (s : State) : s.enterRunning.LaneOrdered := by
  have hordered : s.startRun.LaneOrdered := s.runReady.changeAgree_ordered .running s.agree.chosen s.agree.reason
  have hframe := s.startRun.setAnchor_frame
  rw [State.enterRunning_eq]
  refine hordered.congr ?_ ?_ ?_ ?_ ?_ ?_ <;> rw [hframe]
  rfl

/-- All of an entry into RUNNING (R95, R104, R118). -/
structure State.RunningEntered (s t : State) : Prop where
  clock   : t.clock = s.clock
  frame   : s.PathFrame t
  handed  : s.HandedOn t
  agree   : t.agree = { s.agree with
    state := .running, failures := 0, laneFaults := 0, lastRun := s.agree.chosen, stepFrom := none }
  marked  : s.agree.lastRun ≠ s.agree.chosen → t.sticky .modeChanged = true
  same    : s.agree.lastRun = s.agree.chosen → t.host = s.host
  tx      : s.parked = false → ∀ l, ownsTx s.role l = true → (t.lanes.tx l).state = .running
  first   : s.role = .headset → s.sliceHeadset.anchor = none →
    let a := s.clock.tether + 2 * framePeriod s.straps.refresh120
    t.sliceHeadset.anchor = some a ∧ t.roster.self.anchor = some ⟨a, s.straps.refresh120⟩
  kept    : s.role ≠ .headset ∨ s.sliceHeadset.anchor ≠ none → t.sliceHeadset = s.sliceHeadset

theorem State.enterRunning_entered (h : s.running = false) : s.RunningEntered s.enterRunning := by
  have hordered := s.enterRunning_ordered
  have hagree := s.startRun_agree
  have hpath := s.startRun_pathFrame
  obtain ⟨hclock, hslices, hhost⟩ := s.startRun_stands
  have hparked := s.startRun_parked
  obtain ⟨htimer, hdoze⟩ := s.startRun_told h
  have hstraps : s.startRun.straps = s.straps := by rw [hpath]
  have hrole : s.startRun.role = s.role := congrArg Straps.role hstraps
  have hanchor := s.startRun.setAnchor_frame
  have hfirst := State.setAnchor_first (s := s.startRun)
  have hkept := State.setAnchor_kept (s := s.startRun)
  rw [State.enterRunning_eq] at hordered ⊢
  rw [hrole, hslices, hclock, hstraps] at hfirst
  rw [hrole, hslices] at hkept
  generalize s.startRun.setAnchor = t at *
  have hview : t.agree = s.startRun.agree ∧ t.clock = s.startRun.clock ∧ t.role = s.startRun.role ∧ t.parked = s.startRun.parked ∧
      t.lanes = s.startRun.lanes ∧ t.motionHeadset = s.startRun.motionHeadset ∧ t.host = s.startRun.host := by
    rw [hanchor]
    exact ⟨rfl, rfl, rfl, rfl, rfl, rfl, rfl⟩
  obtain ⟨htagree, htclock, htrole, htparked, htlanes, htmotion, hthost⟩ := hview
  have hrun : t.running = true := by rw [State.running, htagree, hagree]; rfl
  refine ⟨htclock.trans hclock, hpath.trans (by rw [hanchor]; rfl), hordered.handedOn_entered h hrun ?_ ?_, htagree.trans hagree,
    fun hne => ?_, fun heq => ?_, fun hp l hown => ?_, hfirst, fun hno => ?_⟩
  · rw [htrole, htmotion, hrole]
    exact htimer
  · rw [htrole, htparked, htlanes, htclock, hrole, hparked, hclock]
    exact hdoze
  · rw [State.sticky, hthost, hhost, if_neg hne]
    exact State.raise_sticky .modeChanged
  · rw [hthost, hhost, if_pos heq]
  · have horder : t.laneOrder = .running := by
      rw [State.laneOrder, htparked, hparked, hp, htagree, hagree]
      rfl
    rw [(hordered.tx l (by rw [htrole, hrole]; exact hown)).1, horder]
    rfl
  · rw [hkept hno, hslices]

/-! ## The commands (R111, R115) -/

section commands

variable {lane : Lane} (hp : s.powered = true)
include hp

/-- The receiver's state and the lock are all that is read, but for doze. -/
theorem exec_receiverStateChange (locks : Bool) : exec (.receiverStateChange lane locks) s = .next
    (if ownsRx s.role lane then
      match s.lanes.rx lane, locks with
      | .seeking, true => (s.setReceiver lane .locked).receiverReported
      | .locked, false => if s.dozesOn lane then s else (s.setReceiver lane .seeking).receiverReported
      | _, _ => s
    else s) :=
  whilePowered_on hp _

theorem exec_receiverStateChange_absent (h : ownsRx s.role lane = false ∨ s.lanes.rx lane = .off) (locks : Bool) :
    exec (.receiverStateChange lane locks) s = .next s := by
  rw [exec_receiverStateChange hp]
  rcases h with h | h
  · rw [h, if_neg Bool.false_ne_true]
  · rw [h]
    exact congrArg _ (ite_self s)

theorem exec_receiverStateChange_seeking (h : s.lanes.rx lane = .seeking) : exec (.receiverStateChange lane false) s = .next s := by
  rw [exec_receiverStateChange hp, h]
  exact congrArg _ (ite_self s)

theorem exec_receiverStateChange_locked (h : s.lanes.rx lane = .locked) : exec (.receiverStateChange lane true) s = .next s := by
  rw [exec_receiverStateChange hp, h]
  exact congrArg _ (ite_self s)

variable (howns : ownsRx s.role lane = true)
include howns

theorem exec_receiverStateChange_locks (h : s.lanes.rx lane = .seeking) :
    exec (.receiverStateChange lane true) s = .next (s.setReceiver lane .locked).receiverReported := by
  rw [exec_receiverStateChange hp, h, if_pos howns]

theorem exec_receiverStateChange_loses (h : s.lanes.rx lane = .locked) : exec (.receiverStateChange lane false) s = .next
    (if s.dozesOn lane then s else (s.setReceiver lane .seeking).receiverReported) := by
  rw [exec_receiverStateChange hp, h, if_pos howns]

end commands

/-! ## What is reported (R96, R104) -/

theorem State.receiverReported_training (h : s.agree.state = .training) :
    s.receiverReported = if s.locked then s.enterRunning else s := by
  rw [State.receiverReported, h]

theorem State.receiverReported_lost (h : s.agree.state = .running) (hlost : s.locked = false) :
    s.receiverReported = s.openRound .lockLost := by
  rw [State.receiverReported, h]
  exact if_neg (Bool.eq_false_iff.1 hlost)

/-- Outside RUNNING nothing follows, but for the lock that completes TRAINING. -/
theorem State.receiverReported_none (hrun : s.agree.state ≠ .running) (h : s.agree.state ≠ .training ∨ s.locked = false) :
    s.receiverReported = s := by
  unfold State.receiverReported
  split
  · next ht => exact if_neg (Bool.eq_false_iff.1 (h.resolve_left (not_not.2 ht)))
  · next hr => exact absurd hr hrun
  · rfl

/-- An owned receiver that seeks leaves the node unlocked (R94). -/
theorem State.locked_setReceiver_seeking {lane : Lane} (howns : ownsRx s.role lane = true) :
    (s.setReceiver lane .seeking).locked = false := by
  have hrole : (s.setReceiver lane .seeking).role = s.role := rfl
  unfold State.locked
  rw [hrole]
  cases lane
  · rw [howns]; rfl
  · rw [howns, Bool.and_comm]; rfl

/-- The round that a lost lock opens, the lane at rest (R95, R96). -/
theorem State.lockLost_opened (hc : u.roster.chainComplete = true) (hm : u.power.modeSet ≠ []) :
    let t := u.openRound .lockLost
    t.clock = u.clock ∧ u.PathFrame t ∧ u.HandedOn t ∧
    t.agree = { u.agree with
      state := .settle, round := u.agree.round + 1, chosen := none, reason := .lockLost, stepFrom := some t.clock.now } ∧
    ∀ l, (ownsTx u.role l = true → (t.lanes.tx l).state = .off ∧ (t.lanes.tx l).sending = none) ∧
      (ownsRx u.role l = true → t.lanes.rx l = .off) := by
  intro t
  have hhanded : u.Handed .baseForced t := .openRound u _
  have hrests : t.LaneRests := u.openRound_rests _
  refine ⟨hhanded.clock, hhanded.frame.pathFrame (by simp [t]) (by simp [t]), hrests.handedOn hhanded, ?_, fun l => ⟨fun hown => ?_,
    fun hown => hrests.rx l (hhanded.role ▸ hown)⟩⟩
  · rw [hhanded.clock, show t.agree = _ from u.openRound_agree _, Agree.opened_settle hc hm]
  · obtain ⟨hstate, hsending, -⟩ := hrests.tx l (hhanded.role ▸ hown)
    exact ⟨hstate, hsending⟩

/-- Settles O42: no change, the lock, and the loss. -/
theorem receiversDriveTheRound : Obligations.ReceiversDriveTheRound := by
  intro s lane hp seen
  refine ⟨fun b h => exec_receiverStateChange_absent hp h b, exec_receiverStateChange_seeking hp, exec_receiverStateChange_locked hp,
    fun howns hseeking hrun => ?_, fun howns hlocked => ?_⟩
  · have hexec := exec_receiverStateChange_locks hp howns hseeking
    refine ⟨fun h => ?_, fun htraining hlock => ?_⟩
    · exact hexec.trans (congrArg _ (State.receiverReported_none (s := seen .locked) hrun h))
    · have hreported : (s.setReceiver lane .locked).receiverReported = (seen .locked).enterRunning :=
        (State.receiverReported_training (s := seen .locked) htraining).trans (if_pos hlock)
      have hentered : (seen .locked).RunningEntered (seen .locked).enterRunning :=
        State.enterRunning_entered (decide_eq_false hrun)
      rw [hreported] at hexec
      exact ⟨_, hexec, hentered.clock, State.PathFrame.trans (t := seen .locked) rfl hentered.frame,
        hentered.handed.of_before rfl rfl rfl, hentered.agree, hentered.marked, hentered.same, hentered.tx, hentered.first,
        hentered.kept⟩
  · have hexec := exec_receiverStateChange_loses hp howns hlocked
    refine ⟨fun hd hlane => ?_, fun hawake => ?_⟩
    · have hdoze : s.dozesOn lane = true := by rw [State.dozesOn, hd, hlane]; rfl
      rw [hexec, if_pos hdoze]
    · rw [State.dozesOn_false hawake, if_neg Bool.false_ne_true] at hexec
      have hlost : (seen .seeking).locked = false := State.locked_setReceiver_seeking howns
      refine ⟨fun hrun => ?_, fun hrun hc hm => ?_⟩
      · exact hexec.trans (congrArg _ (State.receiverReported_none (s := seen .seeking) hrun (.inr hlost)))
      · obtain ⟨hclock, hframe, hhanded, hagree, hoff⟩ := State.lockLost_opened (u := seen .seeking) hc hm
        exact ⟨_, hexec.trans (congrArg _ (State.receiverReported_lost (s := seen .seeking) hrun hlost)), hclock,
          State.PathFrame.trans (t := seen .seeking) rfl hframe, hhanded.of_before rfl rfl rfl, hagree, hoff⟩

end Sys2Proof.Machine
end

section
/-! SUPPORT. Calibration and the flags word (R137, section 11.1): the nearest whole quotient, its limits, and each flag's place. Settles
O50. -/

namespace Sys2Proof.Machine

/-! ## The calibrated value (R137) -/

/-- The quotient lies within half of 16,384, and at a half the one farther from zero is taken. -/
theorem roundedGain_nearest (p : Int) :
    2 * (16384 * roundedGain p - p).natAbs ≤ 16384 ∧
      (2 * (16384 * roundedGain p - p).natAbs = 16384 → p.natAbs ≤ (16384 * roundedGain p).natAbs) := by
  unfold roundedGain
  split <;> omega

/-- The 16-bit value is the quotient held between its limits. -/
theorem calibrate_value (raw : Half) (offset : Int) (scale : Nat) :
    (calibrate raw offset scale).1.toInt = max (-32768) (min (roundedGain ((raw.toInt - offset) * scale)) 32767) := by
  unfold calibrate
  dsimp only
  split
  · next hlow => rw [show (BitVec.ofInt 16 (-32768)).toInt = -32768 from rfl]; omega
  · split
    · next hhigh => rw [show (BitVec.ofInt 16 32767).toInt = 32767 from rfl]; omega
    · next hlow hhigh => rw [BitVec.toInt_ofInt, Int.bmod_eq_of_le (by omega) (by omega)]; omega

theorem calibrate_clipped (raw : Half) (offset : Int) (scale : Nat) :
    (calibrate raw offset scale).2 = true ↔
      roundedGain ((raw.toInt - offset) * scale) < -32768 ∨ 32767 < roundedGain ((raw.toInt - offset) * scale) := by
  unfold calibrate
  dsimp only
  split
  · next hlow => simp [hlow]
  · split
    · next hhigh => simp [hhigh]
    · next hlow hhigh => simp [hlow, hhigh]

/-! ## The flags' places (sections 11.1 and 11.2) -/

theorem motionFlags_lt (z : MotionRecord) : motionFlags z < 2048 := by
  have hclipped := z.clipped.isLt
  have hrate := z.rate.isLt
  unfold motionFlags
  (repeat' split) <;> omega

/-- The flags word fits the 16 bits it is sent in. -/
theorem motionFlags_toNat (z : MotionRecord) : (BitVec.ofNat 16 (motionFlags z)).toNat = motionFlags z :=
  Nat.mod_eq_of_lt ((motionFlags_lt z).trans (by decide))

theorem motionFlags_testBit (z : MotionRecord) (k : Nat) :
    (motionFlags z).testBit k = (BitVec.ofNat 16 (motionFlags z)).getLsbD k := by
  rw [← BitVec.testBit_toNat, motionFlags_toNat]

/-- One axis's clipped flag stands in its own bit alone. -/
theorem bit6_getLsbD (b : Bool) {n : Nat} (hn : n < 6) (k : Nat) : (bit6 b n).getLsbD k = (b && decide (n = k)) := by
  cases b
  · simp [bit6]
  · rw [bit6, if_pos rfl, BitVec.getLsbD_ofNat, Nat.testBit_two_pow, Bool.true_and]
    exact Bool.and_eq_right_iff_imp.2 fun h => decide_eq_true (of_decide_eq_true h ▸ hn)

theorem State.calibrateAxes_clipped (s : State) (raw : Axes) (k : Nat) : (s.calibrateAxes raw).2.getLsbD k =
    ((s.calibrateAxis 0 raw.ax).2 && decide (0 = k) || (s.calibrateAxis 1 raw.ay).2 && decide (1 = k) ||
      (s.calibrateAxis 2 raw.az).2 && decide (2 = k) || (s.calibrateAxis 3 raw.rx).2 && decide (3 = k) ||
      (s.calibrateAxis 4 raw.ry).2 && decide (4 = k) || (s.calibrateAxis 5 raw.rz).2 && decide (5 = k)) := by
  simp only [State.calibrateAxes, BitVec.getLsbD_or, bit6_getLsbD, Nat.reduceLT]

/-- Settles O50: the quotient of one axis, the word of one record, the clipped flags of one sample. -/
theorem calibrationIsNearest : Obligations.CalibrationIsNearest := by
  refine ⟨fun raw offset scale => ?_, fun z => ?_, fun s raw => ?_⟩
  · intro p
    obtain ⟨hnear, hhalf⟩ := roundedGain_nearest p
    refine ⟨roundedGain p, hnear, hhalf, calibrate_value raw offset scale, calibrate_clipped raw offset scale, fun hzero => ?_⟩
    rw [show p = 0 by simp only [p, hzero, Nat.cast_zero, mul_zero]]
    rfl
  · obtain ⟨hclipped, hrange, hchanged, hfallback, hrate⟩ := motionFlags_read z
    have hlt := motionFlags_lt z
    refine ⟨hlt, fun k hk => ?_, ?_, ?_, ?_, ?_⟩
    · rw [motionFlags_testBit, ← congrArg (·.getLsbD k) hclipped]
      simp [hk]
    · rw [motionFlags_testBit, hrange]
    · rw [motionFlags_testBit, hchanged]
    · rw [motionFlags_testBit, hfallback]
    · rw [← congrArg BitVec.toNat hrate, BitVec.extractLsb'_toNat, motionFlags_toNat, Nat.shiftRight_eq_div_pow]
      omega
  · intro flag f
    have hf : ∀ k, f.getLsbD k = _ := s.calibrateAxes_clipped raw
    refine ⟨(hf 0).trans ?_, (hf 1).trans ?_, (hf 2).trans ?_, (hf 3).trans ?_, (hf 4).trans ?_, (hf 5).trans ?_⟩ <;>
      simp <;> rfl

end Sys2Proof.Machine
end

section
/-! SUPPORT. The motion queue of the SOURCE: a record judged by sequence and stamp (R143), queued (R144) and drained (R145, R176). Settles
O51. -/

namespace Sys2Proof.Machine

variable {s t u : State} {r : MotionRecord}

/-! ## A record queued (R144) -/

/-- A record's arrival reaches the motion queue, the counters and the sticky flags. -/
def State.QueueFrame (s t : State) : Prop :=
  t = { s with motionSource := t.motionSource, counters := t.counters, host := { s.host with sticky := t.host.sticky } }

theorem State.QueueFrame.trans (h : s.QueueFrame t) (h' : t.QueueFrame u) : s.QueueFrame u := by
  rw [State.QueueFrame, h', h]

theorem State.queueRecord_room (r : MotionRecord) (h : s.motionSource.queue.length < 64) :
    s.queueRecord r = { s with motionSource := ⟨s.motionSource.queue ++ [r], some (r.sequence, r.stamp)⟩ } :=
  if_neg (Nat.not_le.2 h)

theorem State.queueRecord_full (r : MotionRecord) (h : 64 ≤ s.motionSource.queue.length) : s.queueRecord r =
    (({ s with motionSource := ⟨s.motionSource.queue.drop 1 ++ [r], some (r.sequence, r.stamp)⟩ } : State).bump
      cMotionOverrun).raise .motionOverrun :=
  if_pos h

theorem State.queueRecord_frame (s : State) (r : MotionRecord) : s.QueueFrame (s.queueRecord r) := by
  rcases Nat.lt_or_ge s.motionSource.queue.length 64 with hroom | hfull
  · rw [State.queueRecord_room r hroom]; rfl
  · rw [State.queueRecord_full r hfull]; rfl

/-! ## A record judged (R143) -/

theorem State.emptyMotionQueue_nil (h : s.motionSource.queue = []) :
    s.emptyMotionQueue = { s with motionSource := { s.motionSource with queue := [] } } := by
  rw [State.emptyMotionQueue, h]
  rfl

theorem State.emptyMotionQueue_ne_nil (h : s.motionSource.queue ≠ []) : s.emptyMotionQueue =
    (({ s with motionSource := { s.motionSource with queue := [] } } : State).count cMotionOverrun
      s.motionSource.queue.length).raise .motionOverrun :=
  if_neg (mt List.length_eq_zero_iff.1 h)

theorem State.emptyMotionQueue_frame (s : State) : s.QueueFrame s.emptyMotionQueue := by
  by_cases hq : s.motionSource.queue = []
  · rw [State.emptyMotionQueue_nil hq]; rfl
  · rw [State.emptyMotionQueue_ne_nil hq]; rfl

@[simp] theorem State.emptyMotionQueue_queue (s : State) : s.emptyMotionQueue.motionSource.queue = [] := by
  by_cases hq : s.motionSource.queue = []
  · rw [State.emptyMotionQueue_nil hq]
  · rw [State.emptyMotionQueue_ne_nil hq]; rfl

/-- A resumption leaves the new record alone in the queue. -/
theorem State.resume_eq (s : State) (r : MotionRecord) : s.emptyMotionQueue.queueRecord r =
    { s.emptyMotionQueue with motionSource := ⟨[r], some (r.sequence, r.stamp)⟩ } := by
  rw [State.queueRecord_room r (by simp), State.emptyMotionQueue_queue]
  rfl

/-- The first record of all and every later one is in order. -/
theorem State.recordArrives_accepted (h : s.motionSource.newest = none ∨
    ∃ seq stamp, s.motionSource.newest = some (seq, stamp) ∧ later r.sequence seq = true) :
    s.recordArrives r = s.queueRecord r := by
  unfold State.recordArrives
  obtain hnone | ⟨seq, stamp, hnewest, hlater⟩ := h
  · rw [hnone]
  · rw [hnewest]
    exact if_pos hlater

section earlier

variable {seq : Half} {stamp : Nat} (hnewest : s.motionSource.newest = some (seq, stamp)) (hearlier : later r.sequence seq = false)
include hnewest hearlier

theorem State.recordArrives_resumed (h : stamp + 2000 < r.stamp) : s.recordArrives r = s.emptyMotionQueue.queueRecord r := by
  rw [State.recordArrives, hnewest]
  dsimp only
  rw [hearlier, if_neg Bool.false_ne_true, if_pos h]

theorem State.recordArrives_dropped (h : r.stamp ≤ stamp + 2000) : s.recordArrives r = s.bump cOutOfOrder := by
  rw [State.recordArrives, hnewest]
  dsimp only
  rw [hearlier, if_neg Bool.false_ne_true, if_neg (Nat.not_lt.2 h)]

end earlier

theorem State.recordArrives_frame (s : State) (r : MotionRecord) : s.QueueFrame (s.recordArrives r) := by
  unfold State.recordArrives
  (repeat' split)
  · exact s.queueRecord_frame r
  · exact s.queueRecord_frame r
  · exact s.emptyMotionQueue_frame.trans (State.queueRecord_frame _ r)
  · rfl

/-! ## The drain (R145, R176) -/

theorem drainBytes_length (r : MotionRecord) : (drainBytes r).length = 22 := by
  simp [drainBytes, axesBytes, leBytes_length]

theorem flatMap_drainBytes_length (l : List MotionRecord) : (l.flatMap drainBytes).length = 22 * l.length := by
  induction l with
  | nil => rfl
  | cons r l ih =>
    rw [List.flatMap_cons, List.length_append, drainBytes_length, ih, List.length_cons]
    omega

section drain

variable {count : Byte} (hp : s.powered = true) (ht : s.host.taken = false)
include hp ht

theorem exec_motionDrain_badCount (h : count.toNat = 0 ∨ 8 < count.toNat) :
    exec (.motionDrain count) s = .next (s.withReply .badArgument []) := by
  rw [show exec (.motionDrain count) s = execMotionDrain count s from rfl, execMotionDrain, onRequest_next _ hp ht]
  exact congrArg _ (if_pos h)

theorem exec_motionDrain_noQueue (hcount : ¬ (count.toNat = 0 ∨ 8 < count.toNat)) (hr : s.role ≠ .source) :
    exec (.motionDrain count) s = .next (s.withReply .ok [0, 0]) := by
  rw [show exec (.motionDrain count) s = execMotionDrain count s from rfl, execMotionDrain, onRequest_next _ hp ht]
  exact congrArg _ ((if_neg hcount).trans (if_neg hr))

theorem exec_motionDrain_source (hcount : ¬ (count.toNat = 0 ∨ 8 < count.toNat)) (hr : s.role = .source) :
    exec (.motionDrain count) s = .next
      (({ s with motionSource := { s.motionSource with queue := s.motionSource.queue.drop count.toNat } } : State).withReply .ok
        (BitVec.ofNat 8 (min count.toNat s.motionSource.queue.length) ::
          BitVec.ofNat 8 (s.motionSource.queue.length - count.toNat) ::
          (s.motionSource.queue.take count.toNat).flatMap drainBytes)) := by
  rw [show exec (.motionDrain count) s = execMotionDrain count s from rfl, execMotionDrain, onRequest_next _ hp ht,
    ← List.length_take, ← List.length_drop]
  exact congrArg _ ((if_neg hcount).trans (if_pos hr))

end drain

/-- Settles O51: the judgement of a record, and the drain by count and role. -/
theorem motionQueueIsServed : Obligations.MotionQueueIsServed := by
  refine ⟨fun s r hlen => ?_, fun s count hp ht => ?_⟩
  · intro q t accepted newest
    refine ⟨s.recordArrives_frame r, fun hacc hroom => ?_, fun hacc hfull => ?_, fun seq stamp hnewest hearlier => ⟨fun hlate => ?_,
      State.recordArrives_dropped hnewest hearlier⟩⟩
    · exact (State.recordArrives_accepted hacc).trans (State.queueRecord_room r hroom)
    · have ht : t = _ := (State.recordArrives_accepted hacc).trans (State.queueRecord_full r hfull.ge)
      rw [ht]
      exact ⟨rfl, rfl, State.raise_sticky _⟩
    · have ht : t = _ := (State.recordArrives_resumed hnewest hearlier hlate).trans (s.resume_eq r)
      rw [ht]
      refine ⟨rfl, fun hnil => ?_, fun hsome => ?_⟩
      · rw [State.emptyMotionQueue_nil hnil]
        exact ⟨rfl, rfl⟩
      · rw [State.emptyMotionQueue_ne_nil hsome]
        exact ⟨rfl, State.raise_sticky (s := s.count cMotionOverrun q.length) .motionOverrun⟩
  · intro n q
    have hcount (h1 : 1 ≤ n) (h8 : n ≤ 8) : ¬ (n = 0 ∨ 8 < n) := by omega
    refine ⟨exec_motionDrain_badCount hp ht, fun h1 h8 hr => exec_motionDrain_noQueue hp ht (hcount h1 h8) hr, fun h1 h8 hr => ?_⟩
    refine ⟨?_, exec_motionDrain_source hp ht (hcount h1 h8) hr⟩
    exact (flatMap_drainBytes_length _).trans (by rw [List.length_take])

end Sys2Proof.Machine
end

section
/-! SUPPORT. The sample at a HEADSET (R133 to R141): the record of a completed read and what becomes of it, and the fallback. Settles O49. -/

namespace Sys2Proof.Machine

variable {s : State} {r : MotionRecord}

/-! ## The record (R137 to R139) -/

theorem outOfRange_iff (v : Half) (limit : Nat) : outOfRange v limit = true ↔ limit < v.toInt.natAbs := decide_eq_true_iff

/-- RANGE: an acceleration or a rate of a magnitude past its group's limit. -/
theorem State.axesOutOfRange_iff (s : State) (a : Axes) : s.axesOutOfRange a = true ↔
    s.item 24 < a.ax.toInt.natAbs ∨ s.item 24 < a.ay.toInt.natAbs ∨ s.item 24 < a.az.toInt.natAbs ∨
      s.item 25 < a.rx.toInt.natAbs ∨ s.item 25 < a.ry.toInt.natAbs ∨ s.item 25 < a.rz.toInt.natAbs := by
  simp only [State.axesOutOfRange, outOfRange_iff, Bool.or_eq_true, or_assoc]
  rfl

/-- A record out of range is counted and raises MOTION_RANGE (R138). -/
theorem State.noteRange_eq (s : State) (r : MotionRecord) : s.noteRange r = { s with
    counters := if r.range then s.counters.add cRange 1 else s.counters
    host := { s.host with sticky := if r.range then (s.raise .motionRange).host.sticky else s.host.sticky } } := by
  unfold State.noteRange
  split <;> rfl

/-! ## The record carried (R140) -/

theorem Transmitter.waits_iff (x : Transmitter) (k : PacketKind) : x.waits k = true ↔ ∃ w ∈ x.waiting, w.kind = k := by
  simp [Transmitter.waits]

/-- A record is UNSENT outside RUNNING, and when it waits behind a packet being sent and a newer one takes its place. -/
abbrev State.MotionUnsent (s : State) : Prop :=
  s.running = false ∨ (s.lanes.upTx.sending ≠ none ∧ ∃ q ∈ s.lanes.upTx.waiting, q.kind = .motion)

theorem State.countReplaced_motion (s : State) (c : Counter) :
    s.countReplaced .up .motion c = if s.lanes.upTx.sending ≠ none ∧ ∃ q ∈ s.lanes.upTx.waiting, q.kind = .motion then s.bump c else s := by
  refine if_congr ?_ rfl rfl
  rw [Bool.and_eq_true, Transmitter.waits_iff, Option.isSome_iff_ne_none]
  rfl

/-- In RUNNING the record is offered up the lane, and in every state it stays as the most recent one. -/
theorem State.carryRecord_eq (s : State) (r : MotionRecord) : s.carryRecord r = { s with
    motionHeadset := { s.motionHeadset with lastRecord := some (r, s.running) }
    lanes := if s.running then
      s.lanes.setTx .up (s.lanes.upTx.offer (makePacket .motion (motionPayload r)) s.clock.now) else s.lanes
    counters := if s.MotionUnsent then s.counters.add cRecordUnsent 1 else s.counters } := by
  unfold State.carryRecord State.MotionUnsent
  dsimp only
  rw [State.countReplaced_motion]
  by_cases hrun : s.running = true
  · simp only [hrun, if_true, Bool.true_eq_false, false_or]
    split <;> rfl
  · rw [if_neg hrun, if_neg hrun, if_pos (Or.inl (Bool.eq_false_iff.2 hrun))]
    rfl

/-! ## The end of the read (R131 to R133) -/

/-- The next sequence number stands, and a level change noted starts its write. -/
def MotionHeadset.readOver (m : MotionHeadset) (level : Nat) : MotionHeadset :=
  let done : MotionHeadset := { m with reading := none, sequence := m.sequence + 1, rateChanged := false }
  if m.again then { done with port := .setting, writing := level, again := false, stallFrom := none, stalled := false } else done

@[simp] theorem MotionHeadset.readOver_lastRecord (m : MotionHeadset) (level : Nat) :
    (m.readOver level).lastRecord = m.lastRecord := by
  unfold MotionHeadset.readOver
  dsimp only
  split <;> rfl

theorem State.endRead_eq (s : State) :
    s.endRead = { s with motionHeadset := s.motionHeadset.readOver s.loads.current.motion } := by
  unfold State.endRead MotionHeadset.readOver
  dsimp only
  split <;> rfl

/-- All that a completed read does, its record given. -/
theorem State.completeRead_eq {d : SensorRead} {raw : Axes} (h : s.sampleRecord d raw = r) : s.completeRead d raw = { s with
    motionHeadset := ({ s.motionHeadset with lastRecord := some (r, s.running) } : MotionHeadset).readOver s.loads.current.motion
    lanes := if s.running then
      s.lanes.setTx .up (s.lanes.upTx.offer (makePacket .motion (motionPayload r)) s.clock.now) else s.lanes
    counters :=
      let noted := if r.range then s.counters.add cRange 1 else s.counters
      (if s.MotionUnsent then noted.add cRecordUnsent 1 else noted).add cSamples 1
    host := { s.host with sticky := if r.range then (s.raise .motionRange).host.sticky else s.host.sticky } } := by
  rw [State.completeRead, h, State.noteRange_eq, State.carryRecord_eq, State.endRead_eq]
  rfl

theorem exec_sensorReadComplete_none (hp : s.powered = true) (h : s.motionHeadset.reading = none) (raw : Axes) :
    exec (.sensorReadComplete raw) s = .next s := by
  rw [show exec (.sensorReadComplete raw) s = execSensorReadComplete raw s from rfl, execSensorReadComplete, whilePowered_on hp, h]

theorem exec_sensorReadComplete (hp : s.powered = true) {d : SensorRead} (h : s.motionHeadset.reading = some d) (raw : Axes) :
    exec (.sensorReadComplete raw) s = .next (s.completeRead d raw) := by
  rw [show exec (.sensorReadComplete raw) s = execSensorReadComplete raw s from rfl, execSensorReadComplete, whilePowered_on hp, h]

/-! ## The fallback (R141) -/

theorem exec_motionFallbackExpiry (hp : s.powered = true) {t0 : Nat} (h : s.motionHeadset.fallbackFrom = some t0) :
    exec .motionFallbackExpiry s = .next (({ s.advanceTo (t0 + 50000) with
      motionHeadset := { s.motionHeadset with fallbackFrom := some (t0 + 50000) } } : State).offerFallback) := by
  rw [show exec .motionFallbackExpiry s = execMotionFallbackExpiry s from rfl, execMotionFallbackExpiry, whilePowered_on hp,
    runOut_running h]
  rfl

/-- Nothing is offered by a listen-only node, or of a record already offered. -/
theorem State.offerFallback_none (h : s.roster.join = .listenOnly ∨ ∀ z, s.motionHeadset.lastRecord ≠ some (z, false)) :
    s.offerFallback = s := by
  unfold State.offerFallback
  split
  · next z hlast => exact if_pos (h.resolve_right fun hno => hno z hlast)
  · rfl

theorem State.offerFallback_some (hjoin : s.roster.join ≠ .listenOnly) (h : s.motionHeadset.lastRecord = some (r, false)) :
    s.offerFallback = (({ s with motionHeadset := { s.motionHeadset with lastRecord := some (r, true) } } : State).bump
      cFallbackSent).offerBurst .motion (motionPayload { r with fallback := true }) := by
  rw [State.offerFallback, h]
  exact if_neg hjoin

/-! ## The statement -/

/-- Settles O49. -/
theorem sampleBecomesRecord : Obligations.SampleBecomesRecord := by
  intro s hp m
  refine ⟨fun raw hnone => exec_sensorReadComplete_none hp hnone raw, fun raw d hread => ?_, fun t0 ht => ?_⟩
  · intro cal big
    obtain ⟨z, hz⟩ : ∃ z, s.sampleRecord d raw = z := ⟨_, rfl⟩
    have hexec := exec_sensorReadComplete hp hread raw
    rw [State.completeRead_eq hz] at hexec
    refine ⟨_, z, hexec, ?_, ?_, ?_, ?_, ?_, ?_, ?_, ?_, fun hrange => ?_, by rw [MotionHeadset.readOver_lastRecord],
      fun hrun => if_pos hrun, fun hrun => if_neg (Bool.eq_false_iff.1 hrun), rfl, rfl, rfl⟩
    case refine_8 => subst hz; exact s.axesOutOfRange_iff _
    case refine_9 => rw [State.sticky, if_pos hrange]; exact State.raise_sticky .motionRange
    all_goals subst hz; rfl
  · intro u
    have hexec := exec_motionFallbackExpiry hp ht
    exact ⟨fun hno => hexec.trans (congrArg _ (State.offerFallback_none (s := u) hno)),
      fun hjoin z hlast => hexec.trans (congrArg _ (State.offerFallback_some (s := u) hjoin hlast))⟩

end Sys2Proof.Machine
end

section
/-! SUPPORT. The sensor port (R131 to R134): a changed motion level handed on, the write, the edge and the stall. Settles O48. -/

namespace Sys2Proof.Machine

variable {s t : State}

/-! ## A motion level handed on (R131) -/

/-- What a change of the loads makes of the sensor port: nothing where the motion level stands; at a HEADSET a changed level is noted
during a write or a read, else its write starts. -/
def State.SensorFollows (s t : State) : Prop :=
  let m := s.motionHeadset
  let level := t.loads.current.motion
  (s.role ≠ .headset ∨ level = s.loads.current.motion → t.motionHeadset = m) ∧
  (s.role = .headset → level ≠ s.loads.current.motion →
    (m.port = .setting ∨ m.reading ≠ none → t.motionHeadset = { m with again := true }) ∧
    (m.port ≠ .setting → m.reading = none → t.motionHeadset = { m with
      port := .setting, writing := level, again := false, stallFrom := none, stalled := false }))

/-- Loads written with the motion level they had leave the port. -/
theorem State.SensorFollows.of_same (hlevel : t.loads.current.motion = s.loads.current.motion)
    (hm : t.motionHeadset = s.motionHeadset) : s.SensorFollows t :=
  ⟨fun _ => hm, fun _ hne => absurd hlevel hne⟩

/-- The levels handed on once the loads are written. -/
theorem State.sensorFollows_handLevels (s : State) (l : Loads) :
    s.SensorFollows (({ s with loads := l } : State).handLevels s.loads.current) := by
  have hloads := State.handLevels_loads (s := { s with loads := l }) s.loads.current
  unfold State.SensorFollows
  rw [hloads, State.handLevels_eq]
  refine ⟨fun hsame => ?_, fun hr hne => ⟨fun hbusy => ?_, fun hport hread => ?_⟩⟩
  · rw [if_neg fun ⟨hr, hne⟩ => hsame.elim (fun h => h hr) hne]
  · rw [if_pos ⟨hr, hne⟩]
    exact if_pos (hbusy.imp_right Option.isSome_iff_ne_none.2)
  · rw [if_pos ⟨hr, hne⟩]
    refine if_neg (not_or.2 ⟨hport, ?_⟩)
    rw [hread]
    exact Bool.false_ne_true

theorem State.sensorFollows_plan (s : State) : s.SensorFollows s.plan := by
  unfold State.plan
  split
  · exact s.sensorFollows_handLevels _
  · exact .of_same rfl rfl

theorem Loads.setTimer_current (l : Loads) (k : Load) (t : Option Nat) : (l.setTimer k t).current = l.current := by
  cases k <;> rfl

theorem State.sensorFollows_raiseLoad (s : State) (k : Load) : s.SensorFollows (s.raiseLoad k) := by
  unfold State.raiseLoad
  split
  · exact s.sensorFollows_handLevels _
  · exact .of_same (congrArg Levels.motion (Loads.setTimer_current ..)) rfl

/-! ## The commands (R131 to R134) -/

/-- The rate level is that of the write, and a changed rate is marked (R132). -/
def MotionHeadset.rateWritten (m : MotionHeadset) : MotionHeadset :=
  { m with rateLevel := some m.writing, rateChanged := m.rateChanged || decide (m.rateLevel ≠ some m.writing) }

section commands

variable (hp : s.powered = true)
include hp

theorem exec_sensorWriteComplete_idle (h : s.motionHeadset.port ≠ .setting) : exec .sensorWriteComplete s = .next s := by
  rw [show exec .sensorWriteComplete s = execSensorWriteComplete s from rfl, execSensorWriteComplete, whilePowered_on hp, if_neg h]

/-- A level noted starts its write; else the port stops or samples, as the level written says. -/
theorem exec_sensorWriteComplete (h : s.motionHeadset.port = .setting) :
    let written := s.motionHeadset.rateWritten
    exec .sensorWriteComplete s = .next (
      if s.motionHeadset.again then ({ s with motionHeadset := written } : State).startSensorWrite
      else if s.motionHeadset.writing = 0 then { s with motionHeadset := { written with port := .off } }
      else { s with motionHeadset := { written with port := .sampling, stallFrom := some s.clock.now } }) := by
  intro written
  rw [show exec .sensorWriteComplete s = execSensorWriteComplete s from rfl, execSensorWriteComplete, whilePowered_on hp, if_pos h]
  rfl

theorem exec_dataReadyEdge_ignored (h : s.motionHeadset.port ≠ .sampling) : exec .dataReadyEdge s = .next s := by
  rw [show exec .dataReadyEdge s = execDataReadyEdge s from rfl, execDataReadyEdge, whilePowered_on hp, if_neg h]

/-- The read under way goes on; where there is none one starts at the edge. -/
theorem exec_dataReadyEdge (h : s.motionHeadset.port = .sampling) :
    exec .dataReadyEdge s = .next { s with motionHeadset := { s.motionHeadset with
      stallFrom := some s.clock.now, stalled := false
      reading := some (s.motionHeadset.reading.getD ⟨s.clock.tether, s.item itemGroupDelay⟩) } } := by
  rw [show exec .dataReadyEdge s = execDataReadyEdge s from rfl, execDataReadyEdge, whilePowered_on hp, if_pos h]
  cases s.motionHeadset.reading <;> rfl

theorem exec_sensorStall {t0 level : Nat} (hstall : s.motionHeadset.stallFrom = some t0)
    (hlevel : s.motionHeadset.rateLevel = some level) : exec .sensorStall s = .next
      (({ s.advanceTo (t0 + 4 * samplePeriod level) with
        motionHeadset := { s.motionHeadset with stallFrom := none, stalled := true } } : State).raise .sensorStall) := by
  rw [show exec .sensorStall s = execSensorStall s from rfl, execSensorStall, whilePowered_on hp, runOut_running hstall, hlevel]
  rfl

end commands

/-- Four sample periods at each rate level (R131, R134). -/
theorem four_samplePeriod (level : Nat) :
    4 * samplePeriod level = if level = 1 then 8000 else if level = 2 then 4000 else 2000 := by
  unfold samplePeriod
  (repeat' split) <;> rfl

/-- Settles O48: the level followed, the write completed, the edge, and the stall. -/
theorem sensorPortIsDriven : Obligations.SensorPortIsDriven := by
  intro s hp m with' written follows
  refine ⟨⟨s.sensorFollows_plan, ?_⟩, fun k t0 ht => ?_, exec_sensorWriteComplete_idle hp, fun hport hagain => ?_,
    fun hport hagain hzero => ?_, fun hport hagain hlevel => ?_, exec_dataReadyEdge_ignored hp, exec_dataReadyEdge hp,
    fun t0 level hstall hlevel _ _ => ?_⟩
  · obtain ⟨l, m', hplan, -, -⟩ := s.plan_frame
    rw [hplan]
  · exact ⟨_, exec_raiseTimerExpiry hp ht, (s.advanceTo (t0 + raiseTime)).sensorFollows_raiseLoad k⟩
  · exact (exec_sensorWriteComplete hp hport).trans (congrArg _ (if_pos hagain))
  · refine (exec_sensorWriteComplete hp hport).trans (congrArg _ ((if_neg ?_).trans (if_pos hzero)))
    exact Bool.eq_false_iff.1 hagain
  · refine (exec_sensorWriteComplete hp hport).trans (congrArg _ ((if_neg ?_).trans (if_neg hlevel)))
    exact Bool.eq_false_iff.1 hagain
  · refine ⟨_, exec_sensorStall hp hstall hlevel, State.raise_sticky _, ?_, rfl⟩
    rw [four_samplePeriod]
    rfl

end Sys2Proof.Machine
end

section
/-! SUPPORT. The output arithmetic (R155, R158): a scaling toward zero stays between 0 and its input. Settles O55. -/

namespace Sys2Proof.Machine

/-- `y` lies between 0 and `x`. -/
def ShrunkTo (x y : Int) : Prop := 0 ≤ y ∧ y ≤ x ∨ x ≤ y ∧ y ≤ 0

namespace ShrunkTo

variable {x y z : Int}

theorem refl (x : Int) : ShrunkTo x x := by unfold ShrunkTo; omega

theorem zero (x : Int) : ShrunkTo x 0 := by unfold ShrunkTo; omega

theorem trans (h : ShrunkTo x y) (h' : ShrunkTo y z) : ShrunkTo x z := by unfold ShrunkTo at *; omega

theorem natAbs_le (h : ShrunkTo x y) : y.natAbs ≤ x.natAbs := by unfold ShrunkTo at h; omega

/-- A factor of at most the divisor shrinks, whatever the sign. -/
theorem mul_tdiv (x : Int) {n d : Nat} (h : n ≤ d) : ShrunkTo x ((x * n).tdiv d) := by
  have hnat (m : Nat) : (((m : Int) * n).tdiv d) = ((m * n / d : Nat) : Int) := by
    rw [← Int.natCast_mul, ← Int.ofNat_tdiv]
  have hle (m : Nat) : m * n / d ≤ m := Nat.div_le_of_le_mul (by rw [Nat.mul_comm d]; exact Nat.mul_le_mul_left m h)
  obtain ⟨m, rfl | rfl⟩ := x.eq_nat_or_neg
  · rw [hnat]
    exact .inl ⟨Int.natCast_nonneg _, Int.ofNat_le.2 (hle m)⟩
  · rw [Int.neg_mul, Int.neg_tdiv, hnat]
    exact .inr ⟨Int.neg_le_neg (Int.ofNat_le.2 (hle m)), Int.neg_nonpos_of_nonneg (Int.natCast_nonneg _)⟩

/-- A division alone is one by the factor 1. -/
theorem tdiv (x : Int) {d : Nat} (h : 1 ≤ d) : ShrunkTo x (x.tdiv d) := by
  have := mul_tdiv x h
  rwa [Nat.cast_one, Int.mul_one] at this

/-- What a sample shrinks to is a sample. -/
theorem toInt_ofInt {v : Half} (h : ShrunkTo v.toInt y) : (BitVec.ofInt 16 y).toInt = y := by
  have hlow := v.le_toInt
  have hhigh := v.toInt_lt
  unfold ShrunkTo at h
  exact BitVec.toInt_ofInt_eq_self (by decide) (by omega) (by omega)

end ShrunkTo

theorem gainLimit_shrunkTo (level : Nat) (x : Int) : ShrunkTo x (gainLimit level x) := by
  unfold gainLimit
  (repeat' split)
  · exact .zero x
  · exact .tdiv x (by decide)
  · exact .tdiv x (by decide)
  · exact .refl x

section volume

variable {volume : Nat} (hvolume : volume ≤ 256) (level : Nat) (v : Half)
include hvolume

theorem scaleSample_shrunkTo : ShrunkTo v.toInt (scaleSample volume level v) :=
  (ShrunkTo.mul_tdiv v.toInt hvolume).trans (gainLimit_shrunkTo level _)

theorem outputSample_toInt : (outputSample volume level v).toInt = scaleSample volume level v :=
  (scaleSample_shrunkTo hvolume level v).toInt_ofInt

theorem rampSample_toInt (j : Nat) :
    (rampSample volume level j v).toInt = (scaleSample volume level v * ((48 - j : Nat) : Int)).tdiv 48 :=
  ((scaleSample_shrunkTo hvolume level v).trans (.mul_tdiv _ (Nat.sub_le 48 j))).toInt_ofInt

end volume

theorem outputSample_mute (volume : Nat) (v : Half) : outputSample volume 0 v = 0 := rfl

/-- The 48th ramp frame is silent (R155). -/
theorem rampSample_last (volume level : Nat) (v : Half) : rampSample volume level 48 v = 0 := by
  rw [rampSample, Nat.sub_self, Nat.cast_zero, Int.mul_zero]
  rfl

/-- Settles O55. -/
theorem outputArithmeticIsExact : Obligations.OutputArithmeticIsExact := by
  intro volume level j v hvolume hj stage1 stage2
  have hstage : scaleSample volume level v = stage2 := rfl
  refine ⟨outputSample_toInt hvolume level v, (scaleSample_shrunkTo hvolume level v).natAbs_le, ?_, ?_, rampSample_last volume level v⟩
  · rw [rampSample_toInt hvolume, Nat.cast_sub hj, hstage]
    rfl
  · rintro rfl
    exact outputSample_mute volume v

end Sys2Proof.Machine
end

section
/-! SUPPORT. The audio output of a HEADSET (R153 to R156): one frame period in each state, the start, and the slip event. Settles O54. -/

namespace Sys2Proof.Machine

variable {s : State}

/-! ## The head of the playback queue (R153, R154) -/

/-- The late blocks have left the queue and are counted. -/
def State.lateDropped (s : State) : State :=
  let r := dropLate s.clock.tether s.audioHeadset.queue
  { s with
    audioHeadset := { s.audioHeadset with queue := r.2 }
    counters := if r.1 = 0 then s.counters else s.counters.add cBlockLate r.1 }

/-- Judging at the head: the late blocks leave, then playback may start. -/
theorem State.judgeHead_eq (s : State) : s.judgeHead = s.lateDropped.startIfDue := by
  obtain ⟨late, hqueue, hlate, -, -⟩ := dropLate_splits s.clock.tether s.audioHeadset.queue
  unfold State.judgeHead State.lateDropped
  dsimp only
  by_cases h0 : (dropLate s.clock.tether s.audioHeadset.queue).1 = 0
  · have hkept : (dropLate s.clock.tether s.audioHeadset.queue).2 = s.audioHeadset.queue := by
      rw [List.length_eq_zero_iff.1 (hlate.trans h0), List.nil_append] at hqueue
      exact hqueue.symm
    rw [if_pos h0, if_pos h0, hkept]
  · rw [if_neg h0, if_neg h0]
    rfl

/-- An output that does not wait goes on. -/
theorem State.judgeHead_started (h : s.audioHeadset.output ≠ .waiting) : s.judgeHead = s.lateDropped :=
  s.judgeHead_eq.trans (startIfDue_idle (s := s.lateDropped) h)

section head

variable {b : PlayBlock} {rest : List PlayBlock} {f : Half × Half} (hq : s.audioHeadset.queue = b :: rest)
include hq

theorem State.removeHeadFrame_more {fs : List (Half × Half)} (hf : b.frames = f :: fs) (hfs : fs ≠ []) :
    s.removeHeadFrame = s.mapAudio (fun a => { a with queue := { b with frames := fs } :: rest }) := by
  obtain ⟨g, gs, rfl⟩ := List.exists_cons_of_ne_nil hfs
  simp only [State.removeHeadFrame, hq, hf]

theorem State.removeHeadFrame_last (hf : b.frames = [f]) :
    s.removeHeadFrame = (s.mapAudio (fun a => { a with queue := rest })).judgeHead := by
  simp only [State.removeHeadFrame, hq, hf]

end head

/-! ## One frame period (R154, R155) -/

theorem State.outputPeriod_waiting (h : s.audioHeadset.output = .waiting) : s.outputPeriod = s.sendFrame (0, 0) := by
  rw [State.outputPeriod, h]
  rfl

/-- The frame as it goes out and is kept as the last one. -/
def State.framePlayed (f : Half × Half) (s : State) : State :=
  (s.sendFrame (s.outputFrame f)).mapAudio (fun a => { a with lastFrame := some f })

/-- A frame marked to be played twice stays at the head (R156). -/
theorem State.playFrame_twice (f : Half × Half) (h : s.audioHeadset.twice = true) :
    s.playFrame f = (s.framePlayed f).mapAudio (fun a => { a with twice := false }) := if_pos h

section played

variable {b : PlayBlock} {rest : List PlayBlock} {f : Half × Half} (honce : s.audioHeadset.twice = false)
  (hq : s.audioHeadset.queue = b :: rest)
include honce hq

theorem State.playFrame_more {fs : List (Half × Half)} (hf : b.frames = f :: fs) (hfs : fs ≠ []) :
    s.playFrame f = (s.framePlayed f).mapAudio (fun a => { a with queue := { b with frames := fs } :: rest }) :=
  (if_neg (Bool.eq_false_iff.1 honce)).trans (State.removeHeadFrame_more (s := s.framePlayed f) hq hf hfs)

/-- The last frame of a block goes: the block leaves, and the late ones behind it. -/
theorem State.playFrame_last (hplay : s.audioHeadset.output = .playing) (hf : b.frames = [f]) :
    s.playFrame f = ((s.framePlayed f).mapAudio (fun a => { a with queue := rest })).lateDropped := by
  have hstill : s.audioHeadset.output ≠ .waiting := by rw [hplay]; decide
  calc s.playFrame f
    _ = (s.framePlayed f).removeHeadFrame := if_neg (Bool.eq_false_iff.1 honce)
    _ = ((s.framePlayed f).mapAudio (fun a => { a with queue := rest })).judgeHead :=
      State.removeHeadFrame_last (s := s.framePlayed f) hq hf
    _ = _ := State.judgeHead_started hstill

end played

theorem State.outputPeriod_playing {b : PlayBlock} {rest : List PlayBlock} {f : Half × Half} {fs : List (Half × Half)}
    (h : s.audioHeadset.output = .playing) (hq : s.audioHeadset.queue = b :: rest) (hf : b.frames = f :: fs) :
    s.outputPeriod = s.playFrame f := by
  simp only [State.outputPeriod, h, AudioHeadset.headFrame, hq, hf, List.head?_cons]

theorem State.outputPeriod_underrun (h : s.audioHeadset.output = .playing) (hq : s.audioHeadset.queue = []) :
    s.outputPeriod = s.enterRamping := by
  simp only [State.outputPeriod, h, AudioHeadset.headFrame, hq]

theorem State.outputPeriod_ramping {j : Nat} (h : s.audioHeadset.output = .ramping j) : s.outputPeriod = s.rampPeriod j := by
  simp only [State.outputPeriod, h]

/-- A last frame stands as it is; where there is none a free value takes its place (assumption 4). -/
theorem State.keepLastFrame_eq (s : State) : ∃ f n, s.keepLastFrame = { s with
      audioHeadset := { s.audioHeadset with lastFrame := some f }, freeCount := n } ∧
    (s.audioHeadset.lastFrame ≠ none → some f = s.audioHeadset.lastFrame) := by
  unfold State.keepLastFrame
  split
  · next f hf => exact ⟨f, s.freeCount, by rw [← hf], fun _ => hf.symm⟩
  · next hf => exact ⟨_, _, rfl, fun h => absurd hf h⟩

/-- An underrun is counted and flagged, and the ramp begins; the frame of this period is left open (R154, R155). -/
theorem State.enterRamping_eq (s : State) : ∃ f out n, s.enterRamping = { (s.bump cUnderrun).raise .audioUnderrun with
      audioHeadset := { s.audioHeadset with
        output := .ramping 0, slipFrom := none, twice := false, underrun := true, lastFrame := some f, frameOut := out }
      freeCount := n } ∧
    (s.audioHeadset.lastFrame ≠ none → some f = s.audioHeadset.lastFrame) := by
  obtain ⟨f, n, hkept, hlast⟩ := ((s.bump cUnderrun).raise .audioUnderrun).keepLastFrame_eq
  refine ⟨f, s.enterRamping.audioHeadset.frameOut, s.enterRamping.freeCount, ?_, hlast⟩
  rw [State.enterRamping, hkept]
  rfl

section ramp

variable {j : Nat} {f : Half × Half} (hf : s.audioHeadset.lastFrame = some f)
include hf

theorem State.rampPeriod_goes_on (hj : j < 47) :
    s.rampPeriod j = (s.sendFrame (s.rampFrame (j + 1) f)).mapAudio (fun a => { a with output := .ramping (j + 1) }) := by
  rw [State.rampPeriod, hf]
  exact if_neg (by omega)

theorem State.rampPeriod_ends (hj : j = 47) :
    s.rampPeriod j = ((s.sendFrame (s.rampFrame (j + 1) f)).mapAudio (fun a => { a with output := .waiting })).judgeHead := by
  rw [State.rampPeriod, hf]
  exact if_pos (by omega)

end ramp

/-! ## The slip event (R156) -/

theorem State.slip_empty (hq : s.audioHeadset.queue = []) : s.slip = s := by
  simp only [State.slip, hq]

section slip

variable {b : PlayBlock} {rest : List PlayBlock} (hq : s.audioHeadset.queue = b :: rest)
include hq

theorem State.slip_early (h : s.clock.tether + 42 ≤ b.headTime) :
    s.slip = (s.mapAudio (fun a => { a with twice := true })).bump cSlipAdd := by
  simp only [State.slip, hq, if_pos h]

theorem State.slip_late (h : b.headTime + 42 ≤ s.clock.tether) :
    s.slip = ((s.mapAudio (fun a => { a with twice := false })).bump cSlipDrop).removeHeadFrame := by
  have hnot : ¬ s.clock.tether + 42 ≤ b.headTime := by omega
  simp only [State.slip, hq, if_neg hnot, if_pos h]

theorem State.slip_none (hlow : s.clock.tether < b.headTime + 42) (hhigh : b.headTime < s.clock.tether + 42) : s.slip = s := by
  simp only [State.slip, hq, if_neg (Nat.not_le.2 hlow), if_neg (Nat.not_le.2 hhigh)]

end slip

/-! ## The commands -/

section commands

variable (hp : s.powered = true)
include hp

theorem exec_outputFramePeriod_other (hr : s.role ≠ .headset) : exec .outputFramePeriod s = .next s := by
  rw [show exec .outputFramePeriod s = execOutputFramePeriod s from rfl, execOutputFramePeriod, whilePowered_on hp, if_neg hr]

/-- The state at the start of the next frame period of the output. -/
def State.atOutputPeriod (s : State) : State :=
  let due := framePeriodAfter s.audioHeadset.outTaken s.clock.now
  (s.advanceTo due).mapAudio (fun a => { a with outTaken := some due })

theorem exec_outputFramePeriod (hr : s.role = .headset) : exec .outputFramePeriod s = .next s.atOutputPeriod.outputPeriod := by
  rw [show exec .outputFramePeriod s = execOutputFramePeriod s from rfl, execOutputFramePeriod, whilePowered_on hp, if_pos hr]
  rfl

theorem exec_presentationTimeReached_idle (h : s.audioHeadset.output ≠ .waiting ∨ s.audioHeadset.queue = []) :
    exec .presentationTimeReached s = .next s := by
  rw [show exec .presentationTimeReached s = execPresentationTimeReached s from rfl, execPresentationTimeReached, whilePowered_on hp]
  split
  · next hw hq => exact h.elim (absurd hw) (fun hnil => absurd (hq.symm.trans hnil) (List.cons_ne_nil _ _))
  · rfl

theorem exec_presentationTimeReached {b : PlayBlock} {rest : List PlayBlock} (hw : s.audioHeadset.output = .waiting)
    (hq : s.audioHeadset.queue = b :: rest) (hmax : b.headTime ≤ tetherMax) :
    exec .presentationTimeReached s = .next (s.advanceToTether b.headTime).enterPlaying := by
  have hreached : b.headTime ≤ (s.advanceToTether b.headTime).clock.tether :=
    Nat.le_min.2 ⟨by omega, hmax⟩
  rw [show exec .presentationTimeReached s = execPresentationTimeReached s from rfl, execPresentationTimeReached, whilePowered_on hp]
  simp only [hw, hq, if_pos hreached]

theorem exec_slipTimerExpiry {t0 : Nat} (h : s.audioHeadset.slipFrom = some t0) : exec .slipTimerExpiry s =
    .next ((s.advanceTo (t0 + 64000)).mapAudio (fun a => { a with slipFrom := some (t0 + 64000) })).slip := by
  rw [show exec .slipTimerExpiry s = execSlipTimerExpiry s from rfl, execSlipTimerExpiry, whilePowered_on hp, runOut_running h]
  rfl

end commands

/-- Settles O54: the frame period in each state of the output, then the start and the slip event. -/
theorem outputFollowsTheQueue : Obligations.OutputFollowsTheQueue := by
  intro s hp a due u volume level
  refine ⟨exec_outputFramePeriod_other hp, fun hr hw => ?_, fun hr hplay b rest f fs hq hf => ?_, fun hr hplay hq => ?_,
    fun hr j f hramp hlast => ?_, exec_presentationTimeReached_idle hp, fun b rest hw hq hmax => ?_, fun t0 hslip => ?_⟩
  · exact (exec_outputFramePeriod hp hr).trans (congrArg _ (State.outputPeriod_waiting hw))
  · intro sent
    have hexec := (exec_outputFramePeriod hp hr).trans (congrArg _ (State.outputPeriod_playing hplay hq hf))
    refine ⟨fun htwice => ?_, fun honce hfs => ?_, fun honce hfs => ?_⟩
    · exact hexec.trans (congrArg _ (State.playFrame_twice f htwice))
    · exact hexec.trans (congrArg _ (State.playFrame_more (s := s.atOutputPeriod) honce hq hf hfs))
    · obtain ⟨late, hsplit, hcount, hlate, hkept⟩ := dropLate_splits u.clock.tether rest
      refine ⟨late, hsplit.symm, fun x hx => (hlate x hx).symm, hkept, ?_⟩
      simp only [← List.length_eq_zero_iff, hcount]
      exact hexec.trans (congrArg _ (State.playFrame_last honce hq hplay (hfs ▸ hf)))
  · obtain ⟨f, out, n, hramp, hlast⟩ := s.atOutputPeriod.enterRamping_eq
    refine ⟨_, (exec_outputFramePeriod hp hr).trans (congrArg _ (State.outputPeriod_underrun hplay hq)), ?_⟩
    rw [hramp]
    exact ⟨State.raise_sticky _, rfl, hlast, Option.some_ne_none f, rfl, rfl⟩
  · intro sent
    have hexec := (exec_outputFramePeriod hp hr).trans (congrArg _ (State.outputPeriod_ramping hramp))
    exact ⟨fun hj => hexec.trans (congrArg _ (State.rampPeriod_goes_on hlast hj)),
      fun hj => hexec.trans (congrArg _ (State.rampPeriod_ends hlast hj))⟩
  · exact exec_presentationTimeReached hp hw hq hmax
  · intro w timed
    have hexec := exec_slipTimerExpiry hp hslip
    refine ⟨fun hq => hexec.trans (congrArg _ (State.slip_empty hq)), fun b rest hq => ⟨fun h => ?_, fun h => ?_, fun h h' => ?_⟩⟩
    · exact hexec.trans (congrArg _ (State.slip_early hq h))
    · exact hexec.trans (congrArg _ (State.slip_late hq h))
    · exact hexec.trans (congrArg _ (State.slip_none hq h h'))

end Sys2Proof.Machine
end

section
/-! SUPPORT. The arrival of audio blocks (R151 to R153) and the microphone queue of the SOURCE (R161). Settles O53. -/

namespace Sys2Proof.Machine

variable {s : State}

/-! ## The fill due (R152) -/

section fill

variable {a : AudioHeadset} {seq : Half}

theorem fillCount_gap {last : Half} (hlast : a.lastSeq = some last) (hlater : later seq last = true) (hq : a.queue ≠ [])
    (h1 : 1 ≤ (seq - last - 1).toNat) (h4 : (seq - last - 1).toNat ≤ 4) : fillCount a seq = (seq - last - 1).toNat := by
  rw [fillCount, hlast]
  refine if_pos ?_
  rw [hlater, List.isEmpty_eq_false_iff.2 hq, decide_eq_true ⟨h1, h4⟩]
  rfl

/-- Without a block before it in the queue, and past a gap that is none or too long, an arriving block has no fill. -/
theorem fillCount_zero (h : a.lastSeq = none ∨ a.queue = [] ∨ ∃ last, a.lastSeq = some last ∧
    (later seq last = false ∨ (seq - last - 1).toNat = 0 ∨ 4 < (seq - last - 1).toNat)) : fillCount a seq = 0 := by
  unfold fillCount
  split
  · rfl
  · next last hlast =>
    refine if_neg fun hfill => ?_
    simp only [Bool.and_eq_true, Bool.not_eq_true', List.isEmpty_eq_false_iff, decide_eq_true_eq] at hfill
    obtain ⟨⟨hlater, hq⟩, h1, h4⟩ := hfill
    obtain hnone | hnil | ⟨last', hlast', hout⟩ := h
    · rw [hlast] at hnone; cases hnone
    · exact hq hnil
    · rw [hlast, Option.some.injEq] at hlast'
      subst hlast'
      rw [hlater] at hout
      obtain hfalse | hout | hout := hout
      · cases hfalse
      · omega
      · omega

/-- The two cases together leave no other. -/
theorem fillCount_eq {k : Nat}
    (hgap : ∀ last, a.lastSeq = some last → later seq last = true → a.queue ≠ [] → 1 ≤ (seq - last - 1).toNat →
      (seq - last - 1).toNat ≤ 4 → k = (seq - last - 1).toNat)
    (hzero : (a.lastSeq = none ∨ a.queue = [] ∨ ∃ last, a.lastSeq = some last ∧
      (later seq last = false ∨ (seq - last - 1).toNat = 0 ∨ 4 < (seq - last - 1).toNat)) → k = 0) : fillCount a seq = k := by
  by_cases h : a.lastSeq = none ∨ a.queue = [] ∨ ∃ last, a.lastSeq = some last ∧
      (later seq last = false ∨ (seq - last - 1).toNat = 0 ∨ 4 < (seq - last - 1).toNat)
  · rw [fillCount_zero h, hzero h]
  · simp only [not_or, not_exists, not_and, Bool.not_eq_false, Nat.not_lt, ← ne_eq] at h
    obtain ⟨hsome, hq, hrange⟩ := h
    obtain ⟨last, hlast⟩ := Option.ne_none_iff_exists'.1 hsome
    obtain ⟨hlater, h1, h4⟩ := hrange last hlast
    have h1' : 1 ≤ (seq - last - 1).toNat := Nat.one_le_iff_ne_zero.2 h1
    rw [fillCount_gap hlast hlater hq h1' h4, hgap last hlast hlater hq h1' h4]

end fill

/-! ## A block arrives (R151, R153) -/

theorem PlayBlock.headTime_whole {b : PlayBlock} (h : b.frames.length = 48) : b.headTime = b.time := by
  rw [PlayBlock.headTime, h]
  rfl

/-- The last of a block's 48 frames is due 979 µs after its first. -/
theorem PlayBlock.isLate_iff (b : PlayBlock) (now : Nat) : b.isLate now = true ↔ b.time + 979 < now := decide_eq_true_iff

/-- A head block that is not late stays, and playback may start. -/
theorem State.judgeHead_inTime {b : PlayBlock} {rest : List PlayBlock} (hq : s.audioHeadset.queue = b :: rest)
    (hb : s.clock.tether ≤ b.time + 979) : s.judgeHead = s.startIfDue := by
  have hlate : b.isLate s.clock.tether = false :=
    Bool.eq_false_iff.2 fun h => absurd ((b.isLate_iff _).1 h) (Nat.not_lt.2 hb)
  have hdrop : dropLate s.clock.tether (b :: rest) = (0, b :: rest) := by
    rw [dropLate, hlate, Bool.and_false]
    rfl
  rw [State.judgeHead, hq, hdrop]
  rfl

/-- The block appended behind its fill. -/
def State.blockQueued (seq : Half) (pt : Nat) (frames : List (Half × Half)) (k : Nat) (s : State) : State :=
  (s.mapAudio (fun a => { a with
    queue := a.queue ++ fillBlocks pt k ++ [⟨some seq, pt, frames⟩], lastSeq := some seq })).bump cBlocks

section arrival

variable {seq : Half} {pt : Nat} {frames : List (Half × Half)} {k : Nat}

theorem State.audioArrives_late (h : pt + 979 < s.clock.tether) : s.audioArrives seq pt frames = s.bump cBlockLate :=
  if_pos ((PlayBlock.isLate_iff _ _).2 h)

variable (hlate : s.clock.tether ≤ pt + 979) (hk : fillCount s.audioHeadset seq = k)
include hlate hk

theorem State.audioArrives_overflow (h : 480 < s.audioHeadset.frameCount + 48 + 48 * k) :
    s.audioArrives seq pt frames = s.bump cOverflow := by
  subst hk
  exact (if_neg fun hl => absurd ((PlayBlock.isLate_iff _ _).1 hl) (Nat.not_lt.2 hlate)).trans (if_pos h)

/-- A block that goes into an empty queue is judged at the head, unless the output is ramping. -/
theorem State.audioArrives_fits (h : s.audioHeadset.frameCount + 48 + 48 * k ≤ 480) :
    s.audioArrives seq pt frames =
      if s.audioHeadset.queue.isEmpty && decide (s.audioHeadset.output = .waiting ∨ s.audioHeadset.output = .playing)
      then (s.blockQueued seq pt frames k).judgeHead else s.blockQueued seq pt frames k := by
  subst hk
  exact (if_neg fun hl => absurd ((PlayBlock.isLate_iff _ _).1 hl) (Nat.not_lt.2 hlate)).trans (if_neg (Nat.not_lt.2 h))

omit hk in
/-- The only block of the queue, in time: a waiting output starts once its time has come (R153). -/
theorem State.blockQueued_judged (hq : s.audioHeadset.queue = []) (hn : frames.length = 48) :
    (s.blockQueued seq pt frames 0).judgeHead =
      if s.audioHeadset.output = .waiting ∧ pt ≤ s.clock.tether then (s.blockQueued seq pt frames 0).enterPlaying
      else s.blockQueued seq pt frames 0 := by
  have hone : (s.blockQueued seq pt frames 0).audioHeadset.queue = [⟨some seq, pt, frames⟩] := by
    show s.audioHeadset.queue ++ fillBlocks pt 0 ++ _ = _
    rw [hq]
    rfl
  have hdue : (⟨some seq, pt, frames⟩ : PlayBlock).headTime = pt := PlayBlock.headTime_whole hn
  rw [State.judgeHead_inTime hone hlate]
  by_cases hw : s.audioHeadset.output = .waiting
  · by_cases hpt : pt ≤ s.clock.tether
    · rw [if_pos ⟨hw, hpt⟩]
      exact startIfDue_due hw hone (hdue.trans_le hpt)
    · rw [if_neg fun ⟨_, h⟩ => hpt h]
      refine startIfDue_early fun x l hx => ?_
      obtain ⟨rfl, -⟩ := List.cons.inj (hone.symm.trans hx)
      exact (Nat.not_le.1 hpt).trans_eq hdue.symm
  · rw [if_neg fun ⟨h, _⟩ => hw h]
    exact startIfDue_idle hw

/-- A block in time, behind its fill, with the start it may give the output. -/
theorem State.audioArrives_queued (h : s.audioHeadset.frameCount + 48 + 48 * k ≤ 480) (hn : frames.length = 48)
    (hk0 : s.audioHeadset.queue = [] → k = 0) : s.audioArrives seq pt frames =
      if s.audioHeadset.queue = [] ∧ s.audioHeadset.output = .waiting ∧ pt ≤ s.clock.tether
      then (s.blockQueued seq pt frames k).enterPlaying else s.blockQueued seq pt frames k := by
  rw [State.audioArrives_fits hlate hk h]
  by_cases hq : s.audioHeadset.queue = []
  · rw [hk0 hq, State.blockQueued_judged hlate hq hn]
    simp only [hq, List.isEmpty_nil, Bool.true_and, decide_eq_true_eq, true_and]
    by_cases hout : s.audioHeadset.output = .waiting ∨ s.audioHeadset.output = .playing
    · rw [if_pos hout]
    · rw [if_neg hout, if_neg fun ⟨hw, _⟩ => hout (.inl hw)]
  · rw [List.isEmpty_eq_false_iff.2 hq, Bool.false_and, if_neg Bool.false_ne_true, if_neg fun ⟨hnil, _⟩ => hq hnil]

end arrival

/-! ## The microphone queue (R161) -/

theorem State.micArrives_room {time : Nat} {samples : List Half} (h : s.audioSource.micCount + samples.length ≤ 960) :
    s.micArrives time samples =
      { s with audioSource := { s.audioSource with micQueue := s.audioSource.micQueue ++ [⟨time, samples⟩] } } :=
  if_neg (Nat.not_lt.2 h)

theorem State.micArrives_full {time : Nat} {samples : List Half} (h : 960 < s.audioSource.micCount + samples.length) :
    s.micArrives time samples = ({ s with audioSource := { s.audioSource with
      micQueue := s.audioSource.micQueue.drop 1 ++ [⟨time, samples⟩] } } : State).bump cMicOverrun :=
  if_pos h

theorem AudioSource.sendMic_empty {a : AudioSource} (h : a.micQueue = []) : a.sendMic = { a with micOut := 0, micTime := none } := by
  simp only [AudioSource.sendMic, h]

/-- The oldest sample goes; a block without samples left goes with it. -/
theorem AudioSource.sendMic_cons {a : AudioSource} {b : MicBlock} {rest : List MicBlock} {v : Half} {vs : List Half}
    (hq : a.micQueue = b :: rest) (hv : b.samples = v :: vs) : a.sendMic = { a with
      micOut := v, micTime := if 48 ≤ b.samples.length then some b.time else none
      micQueue := if vs = [] then rest else { b with samples := vs } :: rest } := by
  cases vs with
  | nil => simp only [AudioSource.sendMic, hq, hv, if_true]
  | cons w ws => simp only [AudioSource.sendMic, hq, hv, reduceCtorEq, if_false]

section commands

variable (hp : s.powered = true)
include hp

theorem exec_micOutputSample_other (hr : s.role ≠ .source) : exec .micOutputSample s = .next s := by
  rw [show exec .micOutputSample s = execMicOutputSample s from rfl, execMicOutputSample, whilePowered_on hp, if_neg hr]

theorem exec_micOutputSample (hr : s.role = .source) :
    let due := framePeriodAfter s.audioSource.micTaken s.clock.now
    exec .micOutputSample s = .next { s.advanceTo due with audioSource := { s.audioSource.sendMic with micTaken := some due } } := by
  rw [show exec .micOutputSample s = execMicOutputSample s from rfl, execMicOutputSample, whilePowered_on hp, if_pos hr]
  rfl

end commands

/-- Settles O53: the arriving block by the fill it has, then the microphone's block and sample. -/
theorem audioBlocksAreQueued : Obligations.AudioBlocksAreQueued := by
  refine ⟨fun s seq pt frames hn => ?_, fun s time samples => ?_, fun s hp => ?_⟩
  · intro a gap t k hgap hzero
    have hk : fillCount s.audioHeadset seq = k := fillCount_eq hgap hzero
    refine ⟨State.audioArrives_late, fun hlate => State.audioArrives_overflow hlate hk, fun hlate hfits => ?_⟩
    intro queued
    have hqueued := State.audioArrives_queued hlate hk hfits hn fun hq => hzero (.inr (.inl hq))
    rw [show t = s.audioArrives seq pt frames from rfl, hqueued]
    split <;> rfl
  · exact ⟨State.micArrives_room, State.micArrives_full⟩
  · intro a due
    refine ⟨exec_micOutputSample_other hp, fun hr hq => ?_, fun hr b rest v vs hq hv => ?_⟩
    · rw [exec_micOutputSample hp hr, AudioSource.sendMic_empty hq]
    · rw [exec_micOutputSample hp hr, AudioSource.sendMic_cons hq hv]

end Sys2Proof.Machine
end

section
/-! SUPPORT. The frame periods (R148), the audio controller's parking (R159), and the blocks built of audio input and microphone (R149,
R150, R160). Settles O52. -/

namespace Sys2Proof.Machine

variable {s v : State}

/-! ## Frame periods (R148) -/

/-- The next frame period is the first one of the millisecond that does not begin before the time, or the next millisecond's first. -/
theorem nextFramePeriod_cases (t : Nat) :
    (∃ i, i ≤ 47 ∧ nextFramePeriod t = 1000 * (t / 1000) + i * 1000 / 48 ∧ t ≤ nextFramePeriod t ∧
      ∀ j, j < i → 1000 * (t / 1000) + j * 1000 / 48 < t) ∨
    (nextFramePeriod t = 1000 * (t / 1000) + 1000 ∧ ∀ j, j ≤ 47 → 1000 * (t / 1000) + j * 1000 / 48 < t) := by
  unfold nextFramePeriod
  dsimp only
  split
  · next i hfind =>
    obtain ⟨hreached, hi, hbefore⟩ := List.find?_range_eq_some.1 hfind
    refine .inl ⟨i, Nat.le_of_lt_succ (List.mem_range.1 hi), rfl, of_decide_eq_true hreached, fun j hj => ?_⟩
    have hpassed := hbefore j hj
    rwa [Bool.not_eq_true', decide_eq_false_iff_not, Nat.not_le] at hpassed
  · next hfind =>
    refine .inr ⟨rfl, fun j hj => ?_⟩
    have hpassed := List.find?_range_eq_none.1 hfind j (Nat.lt_succ_of_le hj)
    rwa [Bool.not_eq_true', decide_eq_false_iff_not, Nat.not_le] at hpassed

theorem le_nextFramePeriod (t : Nat) : t ≤ nextFramePeriod t := by
  obtain ⟨i, -, -, h, -⟩ | ⟨h, -⟩ := nextFramePeriod_cases t
  · exact h
  · omega

theorem nextFramePeriod_begins (t : Nat) :
    ∃ i, i ≤ 47 ∧ nextFramePeriod t = 1000 * (nextFramePeriod t / 1000) + i * 1000 / 48 := by
  obtain ⟨i, hi, h, -, -⟩ | ⟨h, -⟩ := nextFramePeriod_cases t
  · exact ⟨i, hi, by omega⟩
  · exact ⟨0, by omega, by omega⟩

/-- No frame period that begins at or after the time begins before the next one. -/
theorem nextFramePeriod_least {t m i : Nat} (hi : i ≤ 47) (h : t ≤ 1000 * m + i * 1000 / 48) :
    nextFramePeriod t ≤ 1000 * m + i * 1000 / 48 := by
  have hm : t / 1000 ≤ m := by omega
  obtain ⟨k, hk, hnext, -, hbefore⟩ | ⟨hnext, hbefore⟩ := nextFramePeriod_cases t
  · obtain rfl | hlater := hm.eq_or_lt
    · have hki : k ≤ i := Nat.not_lt.1 fun hik => absurd (hbefore i hik) (Nat.not_lt.2 h)
      omega
    · omega
  · obtain rfl | hlater := hm.eq_or_lt
    · exact absurd (hbefore i hi) (Nat.not_lt.2 h)
    · omega

/-! ## Unparking (R159, R160) -/

theorem captureFrom_kept {t0 now : Nat} (h : now ≤ nextFramePeriod (t0 + 1)) : captureFrom (some t0) now = some t0 :=
  Option.filter_some_pos (decide_eq_true h)

/-- Capture starts at a frame period not yet passed. -/
theorem le_framePeriodAfter_captureFrom (taken : Option Nat) (now : Nat) :
    now ≤ framePeriodAfter (captureFrom taken now) now := by
  cases hfrom : captureFrom taken now with
  | none => exact le_nextFramePeriod now
  | some t0 => exact of_decide_eq_true (Option.filter_eq_some_iff.1 hfrom).2

/-! ## Parking (R159) -/

/-- Parked: the queue and the block being built are gone, the output waits at silence. -/
def AudioHeadset.silenced (a : AudioHeadset) : AudioHeadset := { a with
  queue := [], lastSeq := none, output := .waiting, slipFrom := none, twice := false, frameOut := (0, 0), micBuild := []
  down := true }

theorem State.syncAudioPower_same (h : s.role ≠ .headset ∨ s.parked = s.audioHeadset.down) : s.syncAudioPower = s := by
  rw [State.syncAudioPower_eq, if_pos h]

theorem State.syncAudioPower_parks (hr : s.role = .headset) (hparked : s.parked = true) (hup : s.audioHeadset.down = false) :
    s.syncAudioPower = { s with audioHeadset := s.audioHeadset.silenced } := by
  rw [State.syncAudioPower_eq, if_neg (by rw [hr, hparked, hup]; decide), if_pos hparked]
  rfl

theorem State.syncAudioPower_unparks (hr : s.role = .headset) (hparked : s.parked = false) (hdown : s.audioHeadset.down = true) :
    s.syncAudioPower = { s with audioHeadset := { s.audioHeadset with
      down := false, capTaken := captureFrom s.audioHeadset.capTaken s.clock.now } } := by
  rw [State.syncAudioPower_eq, if_neg (by rw [hr, hparked, hdown]; decide), if_neg (Bool.eq_false_iff.1 hparked)]

/-- The audio controller of a parked HEADSET, whether or not it had followed before. -/
theorem State.syncAudioPower_parked (hr : s.role = .headset) (hparked : s.parked = true) : s.syncAudioPower.audioHeadset =
    if s.audioHeadset.down then s.audioHeadset else s.audioHeadset.silenced := by
  cases hdown : s.audioHeadset.down with
  | true => rw [State.syncAudioPower_same (.inr (hparked.trans hdown.symm))]; rfl
  | false => rw [State.syncAudioPower_parks hr hparked hdown]; rfl

/-! The agreement controller and the load planner leave the audio controller to the power manager. -/

@[simp] theorem State.plan_audioHeadset : s.plan.audioHeadset = s.audioHeadset := by
  obtain ⟨l, m, h, -, -⟩ := s.plan_frame
  rw [h]
@[simp] theorem State.changeAgree_audioHeadset (st : AgreeState) (g : Option Grade) (r : Reason) :
    (s.changeAgree st g r).audioHeadset = s.audioHeadset := by
  obtain ⟨l, m, -, -, h⟩ := s.changeAgree_frame st g r
  rw [h]
  rfl
@[simp] theorem State.openRound_audioHeadset (r : Reason) : (s.openRound r).audioHeadset = s.audioHeadset := by
  unfold State.openRound State.halt State.enterSettle
  (repeat' split) <;> simp
@[simp] theorem State.ownSetChanged_audioHeadset : s.ownSetChanged.audioHeadset = s.audioHeadset := by
  unfold State.ownSetChanged State.halt
  (repeat' split) <;> simp
@[simp] theorem State.handIfChanged_audioHeadset (q : Bool) (l : List Grade) (c : Grade) :
    (s.handIfChanged q l c).audioHeadset = s.audioHeadset := by
  unfold State.handIfChanged State.handModeSet State.writeModeSet
  (repeat' split) <;> simp
@[simp] theorem State.formModeSet_audioHeadset (q : Bool) : (s.formModeSet q).audioHeadset = s.audioHeadset := by
  unfold State.formModeSet
  split <;> simp
@[simp] theorem State.handCap_audioHeadset (c : Nat) : (s.handCap c).audioHeadset = s.audioHeadset := by
  unfold State.handCap
  split <;> simp

/-- The parked condition reads nothing of what the power manager tells (R80). -/
theorem State.parked_told (hstraps : v.straps = s.straps) (hitems : v.items = s.items) (htold : s.power.Told v.power)
    (hlist : v.power.allowances = s.power.allowances) (hlost : v.power.lostActive = s.power.lostActive) : v.parked = s.parked := by
  unfold Power.Told at htold
  exact (State.cap_congr hstraps hitems hlist (by rw [htold]) (by rw [htold]) hlost).1

theorem State.reform_parked (s : State) : s.reform.parked = s.parked := by
  have hhanded : s.Handed .baseForced s.reform := .reform s
  obtain ⟨hlist, hlost, -⟩ := hhanded.supply
  exact State.parked_told hhanded.frame.straps (by rw [hhanded.frame]) s.reform_told hlist hlost

/-- What the power manager forms hands the parked condition to the audio controller (R66, R159). -/
theorem State.reform_parks (hr : s.role = .headset) (hparked : s.parked = true) : s.reform.audioHeadset =
    if s.audioHeadset.down then s.audioHeadset else s.audioHeadset.silenced := by
  obtain ⟨v, hv⟩ : ∃ v, v = (s.formModeSet false).handCap (s.formModeSet false).effectiveCap := ⟨_, rfl⟩
  have hhanded : s.Handed .baseForced v := by
    rw [hv]
    exact (State.Handed.formModeSet s false).trans (.handCap _ _)
  have hpower : v.power = (s.formModeSet false).power := by
    rw [hv]
    unfold State.handCap
    split
    · rfl
    · exact State.plan_power
  have haudio : v.audioHeadset = s.audioHeadset := by rw [hv]; simp
  have hrv : v.role = .headset := hhanded.role.trans hr
  have htether : (s.formModeSet false).tetherPowered = true := by
    rw [State.tetherPowered, (State.Handed.formModeSet (free := .baseForced) s false).role, hr]
    rfl
  have hreform : s.reform = v.syncAudioPower := by rw [hv]; exact if_pos htether
  obtain ⟨hlist, hlost, -⟩ := hhanded.supply
  have hparkedv : v.parked = true :=
    (State.parked_told hhanded.frame.straps (by rw [hhanded.frame]) (hpower ▸ s.formModeSet_told) hlist hlost).trans hparked
  rw [hreform, State.syncAudioPower_parked hrv hparkedv, haudio]

/-- The state at the end of the grace, before cap and mode set are formed (R86). -/
def State.supplyLost (c : Clock) (s : State) : State :=
  ({ s with clock := c, power := { s.power with graceFrom := none, lostActive := true } } : State).raise .supplyLost

/-- SUPPLY_LOST with the action PARK parks (R80, R84). -/
theorem State.supplyLost_parked (c : Clock) (hr : s.role = .headset) (hpark : s.item itemActionSupplyLost = 2) :
    (s.supplyLost c).parked = true := by
  have htether : (s.supplyLost c).tetherPowered = true := by
    rw [State.tetherPowered, show (s.supplyLost c).role = .headset from hr]
    rfl
  have hhold : (s.supplyLost c).parkHold = true := by
    have hitem : (s.supplyLost c).item itemActionSupplyLost = 2 := hpark
    rw [State.parkHold, State.holdOf, hitem, show (s.supplyLost c).power.lostActive = true from rfl, Bool.or_eq_true]
    exact .inr rfl
  rw [State.parked, htether, hhold, Bool.or_true]
  rfl

/-! ## A closed block goes out (R150, R160) -/

theorem State.countReplaced_eq (s : State) (lane : Lane) (k : PacketKind) (c : Counter) : s.countReplaced lane k c =
    if (s.lanes.tx lane).sending ≠ none ∧ ∃ q ∈ (s.lanes.tx lane).waiting, q.kind = k then s.bump c else s := by
  refine if_congr ?_ rfl rfl
  rw [Bool.and_eq_true, Transmitter.waits_iff, Option.isSome_iff_ne_none]

/-- A closed block's packet is offered in RUNNING, else it is counted as UNSENT. -/
def State.blockOut (lane : Lane) (k : PacketKind) (p : Packet) (s : State) : State :=
  if s.running then (s.countReplaced lane k cBlockUnsent).offerPacket lane p else s.bump cBlockUnsent

section out

variable {lane : Lane} {k : PacketKind} {p : Packet}

theorem State.blockOut_unsent (h : s.agree.state ≠ .running) : s.blockOut lane k p = s.bump cBlockUnsent :=
  if_neg fun hrun => h (of_decide_eq_true hrun)

variable (h : s.agree.state = .running)
include h

theorem State.blockOut_running : s.blockOut lane k p = (s.countReplaced lane k cBlockUnsent).offerPacket lane p :=
  if_pos (decide_eq_true h)

theorem State.blockOut_sent
    (hfree : ¬ ((s.lanes.tx lane).sending ≠ none ∧ ∃ q ∈ (s.lanes.tx lane).waiting, q.kind = k)) :
    s.blockOut lane k p = s.offerPacket lane p := by
  rw [State.blockOut_running h, State.countReplaced_eq, if_neg hfree]

/-- The block that waited is UNSENT. -/
theorem State.blockOut_replacing
    (hbusy : (s.lanes.tx lane).sending ≠ none ∧ ∃ q ∈ (s.lanes.tx lane).waiting, q.kind = k) :
    s.blockOut lane k p = (s.bump cBlockUnsent).offerPacket lane p := by
  rw [State.blockOut_running h, State.countReplaced_eq, if_pos hbusy]

end out

/-! ## Audio input at the SOURCE (R149, R150) -/

theorem State.closePlayBlock_eq (frames : List (Half × Half)) (s : State) : s.closePlayBlock frames =
    ({ s with audioSource := { s.audioSource with builder := [], sequence := s.audioSource.sequence + 1 } } : State).blockOut .down .audio
      (audioPacket s.audioSource.sequence (s.clock.tether + s.item itemAudioLead) frames) := rfl

section input

variable (hp : s.powered = true) (l r : Half)
include hp

theorem exec_audioFrameInput_other (hr : s.role ≠ .source) : exec (.audioFrameInput l r) s = .next s := by
  rw [show exec (.audioFrameInput l r) s = execAudioFrameInput l r s from rfl, execAudioFrameInput, whilePowered_on hp, if_neg hr]

variable (hr : s.role = .source)
include hr

theorem exec_audioFrameInput : exec (.audioFrameInput l r) s = .next (
    if 48 ≤ (s.audioSource.builder ++ [(l, r)]).length then s.closePlayBlock (s.audioSource.builder ++ [(l, r)])
    else { s with audioSource := { s.audioSource with builder := s.audioSource.builder ++ [(l, r)] } }) := by
  rw [show exec (.audioFrameInput l r) s = execAudioFrameInput l r s from rfl, execAudioFrameInput, whilePowered_on hp, if_pos hr]

theorem exec_audioFrameInput_builds (hn : s.audioSource.builder.length < 47) : exec (.audioFrameInput l r) s =
    .next { s with audioSource := { s.audioSource with builder := s.audioSource.builder ++ [(l, r)] } } := by
  rw [exec_audioFrameInput hp l r hr, if_neg (by rw [List.length_append, List.length_singleton]; omega)]

theorem exec_audioFrameInput_closes (hn : s.audioSource.builder.length = 47) : exec (.audioFrameInput l r) s =
    .next (s.closePlayBlock (s.audioSource.builder ++ [(l, r)])) := by
  rw [exec_audioFrameInput hp l r hr, if_pos (by rw [List.length_append, List.length_singleton]; omega)]

end input

/-! ## The microphone of a HEADSET (R160) -/

/-- The capture time of the block that a sample taken now belongs to. -/
def State.captureStart (s : State) : Nat := if s.audioHeadset.micBuild = [] then s.clock.tether else s.audioHeadset.micStart

theorem State.captureSample_builds (v : Half) (hn : s.audioHeadset.micBuild.length < 47) : s.captureSample v =
    s.mapAudio (fun a => { a with micStart := s.captureStart, micBuild := s.audioHeadset.micBuild ++ [v] }) :=
  if_neg (by rw [List.length_append, List.length_singleton]; omega)

theorem State.captureSample_closes (v : Half) (hn : s.audioHeadset.micBuild.length = 47) : s.captureSample v =
    (s.mapAudio (fun a => { a with
      micStart := s.captureStart, micBuild := [], micSequence := s.audioHeadset.micSequence + 1 })).blockOut .up .mic
        (micPacket s.audioHeadset.micSequence s.captureStart (s.audioHeadset.micBuild ++ [v])) :=
  if_pos (by rw [List.length_append, List.length_singleton]; omega)

/-- The state at the next capture, its frame period taken. -/
def State.atCapture (s : State) : State :=
  let due := framePeriodAfter s.audioHeadset.capTaken s.clock.now
  (s.advanceTo due).mapAudio (fun a => { a with capTaken := some due })

section capture

variable (hp : s.powered = true) (v : Half)
include hp

theorem exec_micCapture_other (h : s.role ≠ .headset ∨ s.parked = true) : exec (.micCapture v) s = .next s := by
  rw [show exec (.micCapture v) s = execMicCapture v s from rfl, execMicCapture, whilePowered_on hp, if_neg]
  rintro ⟨hr, hup⟩
  exact h.elim (fun hne => hne hr) (Bool.eq_false_iff.1 hup)

theorem exec_micCapture (hr : s.role = .headset) (hup : s.parked = false) :
    exec (.micCapture v) s = .next (s.atCapture.captureSample v) := by
  rw [show exec (.micCapture v) s = execMicCapture v s from rfl, execMicCapture, whilePowered_on hp, if_pos ⟨hr, hup⟩]
  rfl

end capture

/-- Settles O52: frame periods, parking and unparking, then the two builders. -/
theorem audioBlocksAreBuilt : Obligations.AudioBlocksAreBuilt := by
  unfold Obligations.AudioBlocksAreBuilt
  intro silenced
  refine ⟨fun time taken => ?_, fun s => State.syncAudioPower_parks, fun s => State.syncAudioPower_same,
    fun s t0 hp hr hgrace hpark => ?_, fun s hr hup hdown => ?_, fun s l r hp => ?_, fun s v hp => ?_⟩
  · exact ⟨le_nextFramePeriod time, nextFramePeriod_begins time, fun m i => nextFramePeriod_least, rfl, rfl⟩
  · obtain ⟨c, hc⟩ : ∃ c, s.advanceTo (t0 + 1000000) = { s with clock := c } := ⟨_, rfl⟩
    have hparked := s.supplyLost_parked c hr hpark
    exact ⟨(s.supplyLost c).reform, exec_supplyGraceExpiry hp hgrace hc, (State.reform_parked _).trans hparked,
      State.reform_counters _, State.reform_parks (s := s.supplyLost c) hr hparked⟩
  · intro t
    have ht : t = _ := State.syncAudioPower_unparks hr hup hdown
    rw [ht]
    refine ⟨le_framePeriodAfter_captureFrom _ _, fun t0 htaken hnow => ?_, rfl⟩
    rw [htaken]
    exact captureFrom_kept hnow
  · refine ⟨exec_audioFrameInput_other hp l r, exec_audioFrameInput_builds hp l r, fun hr hn => ?_⟩
    intro u packet replaced
    have hexec := (exec_audioFrameInput_closes hp l r hr hn).trans (congrArg _ (State.closePlayBlock_eq _ s))
    exact ⟨fun h => hexec.trans (congrArg _ (State.blockOut_unsent (s := u) h)),
      fun h hfree => hexec.trans (congrArg _ (State.blockOut_sent (s := u) (lane := .down) h hfree)),
      fun h hbusy => hexec.trans (congrArg _ (State.blockOut_replacing (s := u) (lane := .down) h hbusy))⟩
  · refine ⟨exec_micCapture_other hp v, fun hr hup => ?_⟩
    intro a due u start taken
    have hexec := exec_micCapture hp v hr hup
    refine ⟨fun hn => hexec.trans (congrArg _ (State.captureSample_builds (s := s.atCapture) v hn)), fun hn => ?_⟩
    intro w packet replaced
    have hclosed := hexec.trans (congrArg _ (State.captureSample_closes (s := s.atCapture) v hn))
    exact ⟨fun h => hclosed.trans (congrArg _ (State.blockOut_unsent (s := w) h)),
      fun h hfree => hclosed.trans (congrArg _ (State.blockOut_sent (s := w) (lane := .up) h hfree)),
      fun h hbusy => hclosed.trans (congrArg _ (State.blockOut_replacing (s := w) (lane := .up) h hbusy))⟩

end Sys2Proof.Machine
end

section
/-! SUPPORT. The target side of the remote request controller (R166 to R168) and the ANSWERs that reach the requester (R171, R174). Settles
O57. -/

namespace Sys2Proof.Machine

variable {s : State}

/-! ## ASKs (R166 to R168) -/

/-- The ANSWER to an ASK with the tag byte `tag`, from its requester's address on. -/
def State.answered (requester : Addr) (tag : Byte) (st : Status) (v : Half) (s : State) : State :=
  s.offerBurst .answer ([BitVec.ofNat 8 requester.toNat, tag, st.code] ++ leBytes 2 v.toNat)

theorem State.askArrives_unserved {sender : Addr} {p : List Byte}
    (h : (byteAt p 0).toNat ≠ s.straps.addr.toNat ∨ s.roster.join = .listenOnly ∨ sender = s.straps.addr ∨ s.remote.restartFrom ≠ none) :
    s.askArrives sender p = s := by
  refine if_neg ?_
  rintro ⟨hmine, hjoin, hother, hpending⟩
  rcases h with h | h | h | h
  · exact h hmine
  · exact hjoin h
  · exact hother h
  · exact h hpending

theorem State.askArrives_served {sender : Addr} {p : List Byte} (hmine : (byteAt p 0).toNat = s.straps.addr.toNat)
    (hjoin : s.roster.join ≠ .listenOnly) (hother : sender ≠ s.straps.addr) (hpending : s.remote.restartFrom = none) :
    s.askArrives sender p = s.serveAsk sender p := if_pos ⟨hmine, hjoin, hother, hpending⟩

/-- Every operation but RESTART ends with its ANSWER. -/
theorem State.serveAsk_answered {sender : Addr} {p : List Byte} (hop : byteAt p 2 ≠ 4) :
    let r := s.serveOperation (byteAt p 2) (byteAt p 3) (halfAt p 4)
    s.serveAsk sender p = r.state.answered sender (byteAt p 1) r.status r.value := if_neg hop

/-- RESTART notes the entry of its ANSWER, where the queue took one (R168). -/
theorem State.serveAsk_restart {sender : Addr} {p : List Byte} (hop : byteAt p 2 = 4) :
    s.serveAsk sender p = (s.setRestartPending.answered sender (byteAt p 1) .ok 0).noteRestartAnswer s.rail.nextId := by
  rw [State.serveAsk, hop]
  rfl

theorem State.serveOperation_read (item : Byte) (v : Half) :
    s.serveOperation 1 item v = ⟨(s.readItem item.toNat).1, (s.readItem item.toNat).2, s⟩ := rfl

theorem State.serveOperation_write (item : Byte) (v : Half) : s.serveOperation 2 item v =
    ⟨(s.writeItem item.toNat v).status, (s.writeItem item.toNat v).value, (s.writeItem item.toNat v).state⟩ := rfl

theorem State.serveOperation_counter (item : Byte) (v : Half) : s.serveOperation 3 item v = s.readCounter item.toNat v.toNat := rfl

theorem State.serveOperation_unknown {op : Byte} (h : op.toNat = 0 ∨ 4 < op.toNat) (item : Byte) (v : Half) :
    s.serveOperation op item v = ⟨.unknown, 0, s⟩ := by
  have hne (j : Byte) (hj : 0 < j.toNat ∧ j.toNat ≤ 4) : op ≠ j := by rintro rfl; omega
  rw [State.serveOperation, if_neg (hne 1 (by decide)), if_neg (hne 2 (by decide)), if_neg (hne 3 (by decide)),
    if_neg (hne 4 (by decide))]

/-- The ANSWER's offering leaves the requester side of the node. -/
theorem State.answered_remote (requester : Addr) (tag : Byte) (st : Status) (v : Half) (s : State) :
    (s.answered requester tag st v).remote = s.remote := remote_of_beyond (s.offerBurst_beyond (by decide) _)

/-! ## ANSWERs (R171, R174) -/

theorem Remote.matched_iff (r : Remote) (sender : Addr) (p : List Byte) : r.matched sender p = true ↔
    r.state = .awaiting ∧ sender.toNat = r.target.toNat ∧ byteAt p 1 = r.tag := by
  simp only [Remote.matched, Bool.and_eq_true, decide_eq_true_eq, and_assoc]

theorem State.answerArrives_matched {sender : Addr} {p : List Byte} (hmine : (byteAt p 0).toNat = s.straps.addr.toNat)
    (h : s.remote.matched sender p = true) : s.answerArrives sender p =
    ({ s with remote := { s.remote with answerStatus := byteAt p 2, answerValue := halfAt p 3 } } : State).endRemote .done := by
  rw [State.answerArrives, if_pos hmine, if_pos h]

theorem State.answerArrives_stale {sender : Addr} {p : List Byte} (hmine : (byteAt p 0).toNat = s.straps.addr.toNat)
    (h : ¬ s.remote.matched sender p = true) :
    s.answerArrives sender p = { s with remote := { s.remote with stale := min (s.remote.stale + 1) 65535 } } := by
  rw [State.answerArrives, if_pos hmine, if_neg h]
  rfl

/-- Settles O57: an ASK by its operation, an ANSWER by its match. -/
theorem asksAreServedAndAnswersMatched : Obligations.AsksAreServedAndAnswersMatched := by
  intro s sender p lt ll mine asked answer item index
  have hasked : asked = s.askArrives sender p := State.contentArrives_ask rfl
  refine ⟨fun h => hasked.trans (State.askArrives_unserved h), fun hmine hjoin hother hpending => ?_, ?_⟩
  · rw [hasked, State.askArrives_served hmine hjoin hother hpending]
    have hserved {op : Byte} (hop : byteAt p 2 = op) (hne : op ≠ 4) : s.serveAsk sender p =
        answer (s.serveOperation op (byteAt p 3) (halfAt p 4)).state (s.serveOperation op (byteAt p 3) (halfAt p 4)).status
          (s.serveOperation op (byteAt p 3) (halfAt p 4)).value := by
      subst hop
      exact State.serveAsk_answered hne
    refine ⟨fun hop => ?_, fun hop => ?_, fun hop => ⟨fun hnone => ?_, fun v hv => ?_⟩, fun hop => ⟨fun hfull => ?_, fun htaken => ?_⟩,
      fun hop => ?_⟩
    · rw [hserved hop (by decide), State.serveOperation_read]
    · rw [hserved hop (by decide), State.serveOperation_write]
    · rw [hserved hop (by decide), State.serveOperation_counter, State.readCounter, hnone]
    · rw [hserved hop (by decide), State.serveOperation_counter, State.readCounter, hv]
    · rw [State.serveAsk_restart hop]
      exact if_pos hfull
    · rw [State.serveAsk_restart hop, State.noteRestartAnswer, State.answered_remote]
      exact if_neg htaken
    · rw [hserved rfl (by rintro h; rw [h] at hop; revert hop; decide), State.serveOperation_unknown hop]
  · intro given matched
    have hgiven : given = s.answerArrives sender p := State.contentArrives_answer rfl
    rw [hgiven]
    refine ⟨fun hother => if_neg hother, fun hmine hmatched => ?_, fun hmine hstale =>
      State.answerArrives_stale hmine (mt (Remote.matched_iff ..).1 hstale)⟩
    rw [State.answerArrives_matched hmine ((Remote.matched_iff ..).2 hmatched)]
    exact ⟨rfl, State.raise_sticky _, rfl⟩

end Sys2Proof.Machine
end

section
/-! SUPPORT. The requester side of the remote request controller (R169 to R172, R174): what a request is answered with, its deadline, and
the result as it is read. Settles O56. -/

namespace Sys2Proof.Machine

variable {s : State}

theorem Remote.outstanding_iff (r : Remote) : r.outstanding = true ↔ r.state = .queued ∨ r.state = .awaiting := by
  rw [Remote.outstanding, decide_eq_true_eq]

theorem Roster.hasPeer_iff (r : Roster) (target : Byte) :
    r.hasPeer target = true ↔ ∃ e ∈ r.peers, e.addr.toNat = target.toNat := by
  simp only [Roster.hasPeer, List.any_eq_true, beq_iff_eq]

/-! ## The request (R169) -/

section request

variable (hp : s.powered = true) (ht : s.host.taken = false) (target op item : Byte) (value : Half)
include hp ht

theorem exec_remoteStart_listenOnly (hj : s.roster.join = .listenOnly) :
    exec (.remoteStart target op item value) s = .next (s.replied [8]) := by
  rw [show exec (.remoteStart target op item value) s = execRemoteStart target op item value s from rfl, execRemoteStart,
    onRequest_next _ hp ht, if_pos hj]
  rfl

variable (hj : s.roster.join ≠ .listenOnly)
include hj

/-- Past the test of listen-only. -/
theorem exec_remoteStart_heard : exec (.remoteStart target op item value) s = .next
    (if s.remote.outstanding then s.withReply .busy []
     else if target.toNat = s.straps.addr.toNat then s.withReply .self []
     else if s.roster.hasPeer target then (s.startRemote target op item value).withReply .pending []
     else s.withReply .noPeer []) := by
  rw [show exec (.remoteStart target op item value) s = execRemoteStart target op item value s from rfl, execRemoteStart,
    onRequest_next _ hp ht, if_neg hj]

theorem exec_remoteStart_busy (hb : s.remote.state = .queued ∨ s.remote.state = .awaiting) :
    exec (.remoteStart target op item value) s = .next (s.replied [9]) := by
  rw [exec_remoteStart_heard hp ht target op item value hj, if_pos ((Remote.outstanding_iff _).2 hb)]
  rfl

variable (hb : ¬ (s.remote.state = .queued ∨ s.remote.state = .awaiting))
include hb

theorem exec_remoteStart_self (ho : target.toNat = s.straps.addr.toNat) :
    exec (.remoteStart target op item value) s = .next (s.replied [10]) := by
  rw [exec_remoteStart_heard hp ht target op item value hj, if_neg (mt (Remote.outstanding_iff _).1 hb), if_pos ho]
  rfl

theorem exec_remoteStart_noPeer (ho : target.toNat ≠ s.straps.addr.toNat)
    (hk : ¬ ∃ e ∈ s.roster.peers, e.addr.toNat = target.toNat) :
    exec (.remoteStart target op item value) s = .next (s.replied [11]) := by
  rw [exec_remoteStart_heard hp ht target op item value hj, if_neg (mt (Remote.outstanding_iff _).1 hb), if_neg ho,
    if_neg (mt (Roster.hasPeer_iff ..).1 hk)]
  rfl

theorem exec_remoteStart_taken (ho : target.toNat ≠ s.straps.addr.toNat) (hk : ∃ e ∈ s.roster.peers, e.addr.toNat = target.toNat) :
    exec (.remoteStart target op item value) s = .next ((s.startRemote target op item value).replied [7]) := by
  rw [exec_remoteStart_heard hp ht target op item value hj, if_neg (mt (Remote.outstanding_iff _).1 hb), if_neg ho,
    if_pos ((Roster.hasPeer_iff ..).2 hk)]
  rfl

end request

/-! ## The deadline (R171) -/

theorem exec_deadlineExpiry (hp : s.powered = true) {t0 : Nat} (h : s.remote.deadlineFrom = some t0) :
    exec .deadlineExpiry s = .next ((s.advanceTo (t0 + 300000)).endRemote .timeout) := by
  rw [show exec .deadlineExpiry s = execDeadlineExpiry s from rfl, execDeadlineExpiry, whilePowered_on hp, runOut_running h,
    show deadlineTime = 300000 from rfl]

/-! ## The result (R172, R174) -/

/-- The state after the result was read and formed, its request in the state `st`. -/
def State.resultRead (st : RemoteState) (s : State) : State :=
  { s with remote := { s.remote with state := st, stale := 0 }, freeCount := s.freeCount + 1 }

theorem exec_remoteResult (hp : s.powered = true) (ht : s.host.taken = false) : exec .remoteResult s = .next
    ((s.resultRead (if s.remote.outstanding then s.remote.state else .idle)).replied
      (s.remote.state.status.code :: s.remote.resultFields s.freeCount)) := by
  rw [show exec .remoteResult s = execRemoteResult s from rfl, execRemoteResult, onRequest_next _ hp ht]
  rfl

/-- The request's fields go with every state but IDLE, the ANSWER's with DONE alone. -/
theorem Remote.resultFields_unanswered {r : Remote} (n : Nat) (hi : r.state ≠ .idle) (hd : r.state ≠ .done) : r.resultFields n =
    [r.target, r.tag, r.operation] ++ [3, 4, 5].map (Config.unstatedField n) ++ leBytes 2 r.stale := by
  rw [Remote.resultFields, if_neg hi, if_neg hd]

theorem Remote.resultFields_done {r : Remote} (n : Nat) (hd : r.state = .done) : r.resultFields n =
    [r.target, r.tag, r.operation] ++ r.answerStatus :: leBytes 2 r.answerValue.toNat ++ leBytes 2 r.stale := by
  rw [Remote.resultFields, if_neg (by rw [hd]; decide), if_pos hd]

theorem Remote.resultFields_idle {r : Remote} (n : Nat) (hi : r.state = .idle) : r.resultFields n =
    [0, 1, 2].map (Config.unstatedField n) ++ [3, 4, 5].map (Config.unstatedField n) ++ leBytes 2 r.stale := by
  rw [Remote.resultFields, if_pos hi, if_neg (by rw [hi]; decide)]

/-- An outstanding request goes on; a final result is handed over once. -/
theorem exec_remoteResult_outstanding (hp : s.powered = true) (ht : s.host.taken = false)
    (hb : s.remote.state = .queued ∨ s.remote.state = .awaiting) :
    exec .remoteResult s = .next ((s.resultRead s.remote.state).replied (7 :: s.remote.resultFields s.freeCount)) := by
  have hcode : s.remote.state.status.code = 7 := by rcases hb with h | h <;> rw [h] <;> rfl
  rw [exec_remoteResult hp ht, if_pos ((Remote.outstanding_iff _).2 hb), hcode]

theorem exec_remoteResult_final (hp : s.powered = true) (ht : s.host.taken = false)
    (hb : ¬ (s.remote.state = .queued ∨ s.remote.state = .awaiting)) : exec .remoteResult s = .next
    ((s.resultRead .idle).replied (s.remote.state.status.code :: s.remote.resultFields s.freeCount)) := by
  rw [exec_remoteResult hp ht, if_neg (mt (Remote.outstanding_iff _).1 hb)]

/-- Settles O56: the request by its tests in order, the deadline, and the result by its state. -/
theorem remoteRequestRunsItsCourse : Obligations.RemoteRequestRunsItsCourse := by
  intro s hp r busy replied
  refine ⟨fun target op item value ht => ⟨exec_remoteStart_listenOnly hp ht target op item value,
      exec_remoteStart_busy hp ht target op item value, exec_remoteStart_self hp ht target op item value,
      exec_remoteStart_noPeer hp ht target op item value, exec_remoteStart_taken hp ht target op item value⟩,
    fun t0 hdue => ⟨_, exec_deadlineExpiry hp hdue, rfl, rfl, State.raise_sticky _, rfl⟩, ?_⟩
  intro sent stale read spent free ht
  have hfinal {st : RemoteState} (hst : r.state = st) (hover : ¬ (st = .queued ∨ st = .awaiting)) : exec .remoteResult s = .next
      (replied spent (st.status.code :: r.resultFields s.freeCount)) := by
    subst hst
    exact exec_remoteResult_final hp ht hover
  have hfields : r.state ≠ .idle → r.state ≠ .done → r.resultFields s.freeCount = sent ++ [free 3, free 4, free 5] ++ stale :=
    Remote.resultFields_unanswered _
  refine ⟨fun hst => ?_, fun hb => ?_, fun hst => ?_, fun hst => ?_, fun hst => ?_, fun hst => ?_⟩
  · have hread : spent = read := by
      show ({ read with remote := { r with stale := 0, state := .idle } } : State) = read
      rw [← hst]
    rw [hfinal hst (by decide), Remote.resultFields_idle _ hst, hread]
    rfl
  · have hne : r.state ≠ .idle ∧ r.state ≠ .done := by rcases hb with h | h <;> rw [h] <;> decide
    rw [exec_remoteResult_outstanding hp ht hb, hfields hne.1 hne.2]
    rfl
  · rw [hfinal hst (by decide), Remote.resultFields_done _ hst]
    rfl
  all_goals
    rw [hfinal hst (by decide), hfields (by rw [hst]; decide) (by rw [hst]; decide)]
    rfl

end Sys2Proof.Machine
end

section
/-! SUPPORT. A wanted level or ceiling settled (R54, R66) and the targets computed again (R74, R75): what the claim, the controller and the
loads have become at the end of such an event. -/

namespace Sys2Proof.Machine

variable {s t u v : State}

/-! ## The targets computed again -/

/-- The planner leaves what the set is formed from. -/
theorem State.SetFormed.plan (h : s.SetFormed t) : s.SetFormed t.plan := by
  have hcap := t.plan_cap
  obtain ⟨l, m, hplan, -, -⟩ := t.plan_frame
  rw [hplan] at hcap ⊢
  exact h.congr rfl rfl rfl rfl rfl hcap rfl

/-- The lane's level follows its pin again; the rest of what was handed on stands. -/
theorem State.HandedOn.plan (h : s.HandedOn t) : s.HandedOn t.plan := by
  obtain ⟨htx, hrx, hgrade, hsummary, -, hdoze, hleft, henter, hstay⟩ := h
  have hlane : t.tetherPowered = true → t.plan.loads.current.lane = t.plan.loads.target.lane ∧
      t.plan.loads.target.lane = t.pinnedLane := fun hp => by
    obtain ⟨hcurrent, htarget⟩ := State.plan_lane hp
    exact ⟨hcurrent.trans htarget.symm, htarget⟩
  rw [State.pinnedLane_eq] at hlane
  obtain ⟨l, m, hplan, hm, -⟩ := t.plan_frame
  rw [hplan] at hlane ⊢
  refine ⟨htx, hrx, hgrade, hsummary, hlane, hdoze, fun hs ht => ⟨(hleft hs ht).1, fun hr => hm.trans ((hleft hs ht).2 hr)⟩,
    fun hs ht => ⟨fun hr => hm.trans ((henter hs ht).1 hr), (henter hs ht).2⟩, fun hst => ⟨(hstay hst).1, hm.trans (hstay hst).2⟩⟩

theorem State.AgreeFollows.plan (h : s.AgreeFollows false t) : s.AgreeFollows false t.plan := by
  obtain ⟨hagree, hhanded⟩ := h
  have hplan : t.Handed .baseForced t.plan := .plan t
  refine ⟨?_, fun hset htakes => ?_⟩
  · rw [Agree.afterPath_false] at hagree ⊢
    rw [State.plan_power, State.plan_agree, Agree.afterSet_congr hplan.alike (by rw [State.plan_power]) hplan.clock hplan.role]
    exact hagree
  · rw [State.plan_power] at hset
    exact (hhanded hset htakes).plan

/-- What the targets are computed from is not the planner's to change. -/
theorem State.plan_targets (s : State) : s.plan.targets = s.targets := by
  obtain ⟨l, m, hplan, -, hl⟩ := s.plan_frame
  rw [hplan, hl]
  split <;> rfl

/-! ## The settled claim (R54, R66) -/

/-- The claim is read off straps, settings and the lowered ceiling (R54). -/
theorem State.ownClaim_congr (hstraps : u.straps = s.straps) (hitems : u.items = s.items) (hlowered : u.agree.lowered = s.agree.lowered) :
    u.ownClaim = s.ownClaim := by
  have hlevels : ∀ lane, u.wantedLevels lane = s.wantedLevels lane := fun lane => by
    have hrole : u.role = s.role := congrArg Straps.role hstraps
    rw [State.wantedLevels, State.wantedLevels, hrole]
    simp only [State.item, hitems]
  simp only [State.ownClaim, hlevels, State.ceiling_congr hstraps hitems hlowered, State.role, hstraps]

/-- An event from `s` to `t` in which the claim was settled, and then cap and mode set were formed. -/
structure State.ClaimSettled (s t : State) : Prop where
  handed  : s.settleClaimList.Handed .baseForced t
  formed  : s.settleClaimList.SetFormed t
  channel : t.rail = s.settleClaimList.rail ∧ t.counters = s.settleClaimList.counters
  agree   : s.AgreeFollows false t
  lowered : t.agree.lowered = s.agree.lowered

theorem State.settleClaim_settled (s : State) : s.ClaimSettled s.settleClaim := by
  obtain ⟨r, k, cf, al, lo, gr, w, hframe⟩ := s.settleClaimList_frame
  refine ⟨.reform _, State.reform_setFormed _, ⟨State.reform_rail _, State.reform_counters _⟩, ?_, ?_⟩
  · refine s.settleClaimList.reform_agreeFollows.of_before ?_ ?_ ?_ ?_ ?_ ?_ <;> rw [hframe]
  · rw [State.settleClaim, State.reform_agree, State.formModeSet_agree, (Agree.afterSet_keeps _ _ _).1, hframe]

namespace State.ClaimSettled

theorem plan (h : s.ClaimSettled t) : s.ClaimSettled t.plan where
  handed  := h.handed.trans (.plan t)
  formed  := h.formed.plan
  channel := ⟨t.plan_rail.trans h.channel.1, t.plan_counters.trans h.channel.2⟩
  agree   := h.agree.plan
  lowered := (congrArg Agree.lowered State.plan_agree).trans h.lowered

theorem follows (h : s.ClaimSettled t) : s.ClaimFollows t := .of_settled h.handed h.formed h.channel.1 h.channel.2

theorem frame (h : s.ClaimSettled t) : s.PathRailFrame t := by
  obtain ⟨r, k, cf, al, lo, gr, w, hframe⟩ := s.settleClaimList_frame
  refine State.PathRailFrame.trans (t := s.settleClaimList) ?_ h.handed.frame
  rw [hframe]
  rfl

theorem clock (h : s.ClaimSettled t) : t.clock = s.clock := by
  obtain ⟨r, k, cf, al, lo, gr, w, hframe⟩ := s.settleClaimList_frame
  rw [h.handed.clock, hframe]

theorem offer (h : s.ClaimSettled t) : t.roster.self.offer = s.roster.self.offer := by
  obtain ⟨r, k, cf, al, lo, gr, w, hframe⟩ := s.settleClaimList_frame
  obtain ⟨-, -, -, hoffer, -⟩ := h.handed.self
  rw [hoffer, hframe]

theorem claim (h : s.ClaimSettled t) : t.roster.self.claim = t.ownClaim := by
  obtain ⟨r, k, cf, al, lo, gr, w, hframe⟩ := s.settleClaimList_frame
  obtain ⟨-, -, -, -, hclaim⟩ := h.handed.self
  rw [State.ownClaim_congr h.frame.straps (by rw [h.frame]) h.lowered, hclaim, hframe]

end State.ClaimSettled

/-! ## The settled offer (R53, R56) -/

/-- The offer is read off straps, the offer limit and the supplier state (R50, R51, R53). -/
theorem State.ownOffer_congr (hstraps : u.straps = s.straps) (hitems : u.items = s.items) (hsupplier : u.power.supplier = s.power.supplier) :
    u.ownOffer = s.ownOffer := by
  simp only [State.ownOffer, State.offeredCurrent, State.offerLevel, State.item, hstraps, hitems, hsupplier]

theorem State.OfferSettled.ownOffer (h : s.OfferSettled t) : t.roster.self.offer = t.ownOffer := by
  rw [State.ownOffer_congr h.frame.straps (by rw [h.frame]) h.supplier.1]
  exact h.offer

/-- The claim is not settled with it. -/
theorem State.settleOffer_claim (s : State) : s.settleOffer.roster.self.claim = s.roster.self.claim := by
  by_cases h : s.roster.self.offer = s.ownOffer
  · rw [State.settleOffer_same h]
  · obtain ⟨-, -, -, -, -, -, hclaim⟩ := s.offerWritten.announceOffer.powerTold_kept
    rw [State.settleOffer_new h, hclaim, s.offerWritten.announceOffer_frame]
    rfl

end Sys2Proof.Machine
end

section
/-! SUPPORT. The settings items (R164, R165): the table, the read, the held value of a write, and what the blocks that own the items do with
it, RAIL_ENABLE aside. -/

namespace Sys2Proof.Machine

variable {s t v : State}

/-! ## The table (R164) -/

/-- An item's number, the ends of its range and its roles. -/
abbrev ItemRow := Nat × Nat × Nat × List Role

/-- The items before the OFFSET and SCALE items. -/
def lowItems (motion2000 : Bool) : List ItemRow :=
  [(0, 0, 3000, [.source, .battery]), (1, 1, 4, [.source, .relay, .headset]), (2, 1, 4, [.headset]), (3, 0, 3, [.headset]),
   (4, 2, if motion2000 then 3 else 2, [.headset]), (5, 0, 5, [.headset]),
   (6, 8000, 11500, [.relay, .headset]), (7, 8000, 11500, [.relay, .headset]), (8, 0, 2, [.relay, .headset]),
   (9, 0, 2, [.relay, .headset]), (10, 0, 1, [.source]), (11, 0, 2000, [.headset])]

/-- The items after them. -/
def highItems : List ItemRow :=
  let every : List Role := [.source, .relay, .headset, .battery]
  [(24, 0, 32767, [.headset]), (25, 0, 32767, [.headset]), (26, 2000, 20000, [.source]), (27, 0, 256, [.headset]),
   (28, 0, 65535, every), (29, 0, 65535, every), (30, 0, 65535, every)]

/-- Every item, in the order of the numbers. -/
def itemTable (motion2000 : Bool) : List ItemRow :=
  lowItems motion2000 ++ (List.range 12).map (fun i => (12 + i, 0, 65535, [.headset])) ++ highItems

/-- The table numbers the items from 0 to 30. -/
theorem itemTable_numbers (b : Bool) : (itemTable b).map Prod.fst = List.range 31 := rfl

theorem itemTable_exists {k : Nat} (b : Bool) (h : k ≤ 30) : ∃ row ∈ itemTable b, row.1 = k := by
  rw [← List.mem_map, itemTable_numbers, List.mem_range]
  omega

/-- The model's range and roles of an item are those of a row. -/
def RowOf (st : Straps) (row : ItemRow) : Prop :=
  ∃ i, itemSpec st row.1 = some i ∧ i.lo = row.2.1 ∧ i.hi = row.2.2.1 ∧ ∀ r, i.applies r = true ↔ r ∈ row.2.2.2

/-- OFFSET and SCALE items take every 16-bit quantity. -/
theorem itemSpec_calibration (st : Straps) {k : Nat} (h : 12 ≤ k) (h' : k ≤ 23) : itemSpec st k = some ⟨0, 65535, atHeadset⟩ := by
  unfold itemSpec
  repeat rw [if_neg (by omega)]
  rw [if_pos h', ite_self]

theorem rowOf_mem {st : Straps} : ∀ row ∈ itemTable st.motion2000, RowOf st row := by
  have hroles {l : List Role} {applies : Role → Bool} (h : ∀ r, applies r = decide (r ∈ l)) : ∀ r, applies r = true ↔ r ∈ l :=
    fun r => by rw [h, decide_eq_true_eq]
  unfold itemTable lowItems highItems
  simp only [List.forall_mem_append, List.forall_mem_cons, List.forall_mem_map, List.mem_range]
  refine ⟨⟨⟨?_, ?_, ?_, ?_, ?_, ?_, ?_, ?_, ?_, ?_, ?_, ?_, nofun⟩, fun i hi => ?_⟩, ?_, ?_, ?_, ?_, ?_, ?_, ?_, nofun⟩
  case refine_13 =>
    exact ⟨_, itemSpec_calibration st (by omega) (by omega), rfl, rfl, hroles fun r => by cases r <;> rfl⟩
  all_goals exact ⟨_, rfl, rfl, rfl, hroles fun r => by cases r <;> rfl⟩

theorem itemSpec_none {k : Nat} (st : Straps) (h : 30 < k) : itemSpec st k = none := by
  unfold itemSpec
  repeat rw [if_neg (by omega)]

/-- The wanted levels and SHED_ORDER are a HEADSET's. -/
theorem tetherPowered_of_wanted {k : Nat} {i : ItemSpec} (h : 2 ≤ k) (h' : k ≤ 5) (hi : itemSpec s.straps k = some i)
    (ha : i.applies s.role = true) : s.tetherPowered = true := by
  have hhead : i.applies = atHeadset := by
    obtain rfl | rfl | rfl | rfl : k = 2 ∨ k = 3 ∨ k = 4 ∨ k = 5 := by omega
    all_goals exact congrArg ItemSpec.applies (Option.some.inj hi).symm
  rw [hhead] at ha
  unfold State.tetherPowered
  cases hr : s.role
  case headset => rfl
  all_goals rw [hr] at ha; cases ha

/-! ## Reads and writes judged (R165) -/

section judged

variable {k : Nat} {i : ItemSpec}

theorem State.readItem_none (h : itemSpec s.straps k = none) : s.readItem k = (.noItem, 0) := by
  rw [State.readItem, h]

theorem State.writeItem_none (h : itemSpec s.straps k = none) (v : Half) : s.writeItem k v = ⟨.noItem, 0, s⟩ := by
  rw [State.writeItem, h]

variable (h : itemSpec s.straps k = some i)
include h

theorem State.readItem_applies (ha : i.applies s.role = true) : s.readItem k = (.ok, s.itemValue k) := by
  rw [State.readItem, h]
  exact if_pos ha

theorem State.readItem_notApplicable (ha : ¬ i.applies s.role = true) : s.readItem k = (.notApplicable, 0) := by
  rw [State.readItem, h]
  exact if_neg ha

theorem State.writeItem_notApplicable (ha : ¬ i.applies s.role = true) (v : Half) : s.writeItem k v = ⟨.notApplicable, 0, s⟩ := by
  rw [State.writeItem, h]
  exact if_neg ha

theorem State.writeItem_refused (ha : i.applies s.role = true) (hk : k = 30) (v : Half) :
    s.writeItem k v = ⟨.refused, s.itemValue k, s⟩ := by
  rw [State.writeItem, h]
  exact (if_pos ha).trans (if_pos hk)

/-- A write that is taken is acted on with the value it holds. -/
theorem State.writeItem_held (ha : i.applies s.role = true) (hk : k ≠ 30) (v : Half) : s.writeItem k v =
    ⟨if s.heldValue k i v.toNat = v.toNat then .ok else .clamped, (s.applyItem k (s.heldValue k i v.toNat)).itemValue k,
      s.applyItem k (s.heldValue k i v.toNat)⟩ := by
  rw [State.writeItem, h]
  exact (if_pos ha).trans (if_neg hk)

end judged

theorem State.itemValue_ident (s : State) : s.itemValue 30 = identValue s.straps := rfl

theorem State.itemValue_railEnable (s : State) : s.itemValue 10 = railEnableValue s.power := rfl

theorem State.itemValue_other {k : Nat} (h : k ≠ 10) (h' : k ≠ 30) (s : State) : s.itemValue k = s.items.getD k 0 :=
  (if_neg h).trans (if_neg h')

theorem identValue_toNat (st : Straps) : (identValue st).toNat = st.addr.toNat + 16 * st.role.code.toNat + 256 := by
  have haddr := st.addr.isLt
  have hrole : st.role.code.toNat ≤ 4 := by cases st.role <;> decide
  rw [identValue, BitVec.toNat_ofNat]
  exact Nat.mod_eq_of_lt (by omega)

theorem railEnableValue_toNat (p : Power) : (railEnableValue p).toNat = if p.latched then 0 else 1 := by
  unfold railEnableValue
  split <;> rfl

/-! ## The commands (R165, R176) -/

theorem exec_itemRead (hp : s.powered = true) (ht : s.host.taken = false) (n : Byte) : exec (.itemRead n) s = .next
    (s.replied ((s.readItem n.toNat).1.code :: leBytes 2 (s.readItem n.toNat).2.toNat)) := by
  rw [show exec (.itemRead n) s = execItemRead n s from rfl, execItemRead, onRequest_next _ hp ht]
  rfl

theorem exec_itemWrite (hp : s.powered = true) (ht : s.host.taken = false) (n : Byte) (v : Half) : exec (.itemWrite n v) s = .next
    ((s.writeItem n.toNat v).state.replied ((s.writeItem n.toNat v).status.code :: leBytes 2 (s.writeItem n.toNat v).value.toNat)) := by
  rw [show exec (.itemWrite n v) s = execItemWrite n v s from rfl, execItemWrite, onRequest_next _ hp ht]
  rfl

/-- Two bytes hold the low 16 bits. -/
theorem leBytes_ofNat (x : Nat) : leBytes 2 (BitVec.ofNat 16 x).toNat = leBytes 2 x := by
  have hlow : BitVec.ofNat 8 (x % 2 ^ 16) = BitVec.ofNat 8 x := BitVec.eq_of_toNat_eq (by simp only [BitVec.toNat_ofNat]; omega)
  have hhigh : BitVec.ofNat 8 (x % 2 ^ 16 / 256) = BitVec.ofNat 8 (x / 256) :=
    BitVec.eq_of_toNat_eq (by simp only [BitVec.toNat_ofNat]; omega)
  rw [BitVec.toNat_ofNat, leBytes, leBytes, leBytes, leBytes, leBytes, leBytes, hlow, hhigh]

/-! ## What a held value does -/

theorem State.itemWritten_items (s : State) (k : Nat) : (s.itemWritten k).items = s.items := by
  have hcore := s.itemWritten_core k
  exact congrArg Core.items hcore

/-- What the block that owns item `k` does, from the state `s` in which the value is held to the end `t` of the event. -/
structure State.ItemActs (k : Nat) (s t : State) : Prop where
  frame   : s.PathRailFrame t
  clock   : t.clock = s.clock
  offer   : k = 0 → t.roster.self.offer = t.ownOffer
  lowered : k = 1 → t.agree.lowered = none
  claim   : 1 ≤ k → k ≤ 4 → t.roster.self.claim = t.ownClaim
  supply  : k ≤ 4 → s.SupplyFollows
    (decide (s.roster.self.offer ≠ t.roster.self.offer) || decide (s.roster.self.claim ≠ t.roster.self.claim)) t
  formed  : (1 ≤ k ∧ k ≤ 4) ∨ k = 8 ∨ k = 9 → s.SetFormed t
  told    : k ≤ 4 ∨ k = 8 ∨ k = 9 → s.Announced t
  agree   : k ≤ 4 ∨ k = 8 ∨ k = 9 →
    (if k = 1 then { s with agree := { s.agree with lowered := none } } else s : State).AgreeFollows false t
  targets : 2 ≤ k → k ≤ 5 → t.loads.target = t.targets
  shed    : k = 5 → t.loads = s.loads.moveTo t.loads.target s.clock.now ∧
    t = { s with loads := t.loads, motionHeadset := t.motionHeadset }
  held    : 6 ≤ k → k ≠ 8 → k ≠ 9 → t = s

/-- OFFER_LIMIT settles the offer. -/
theorem State.OfferSettled.itemActs (h : s.OfferSettled t) (hclaim : t.roster.self.claim = s.roster.self.claim) : s.ItemActs 0 t where
  frame   := h.frame
  clock   := h.clock
  offer _ := h.ownOffer
  lowered := nofun
  claim   := nofun
  supply _ := by
    rw [hclaim, decide_eq_false (not_not.2 rfl), Bool.or_false]
    exact h.supply
  formed  := by omega
  told _  := h.announced
  agree _ := h.agree
  targets := by omega
  shed    := nofun
  held    := by omega

/-- A claim settled from a state that differs in the controller alone. -/
theorem State.ClaimSettled.itemActs {k : Nat} (hk : 1 ≤ k ∧ k ≤ 4)
    (h : (if k = 1 then { s with agree := { s.agree with lowered := none } } else s : State).ClaimSettled t)
    (htargets : 2 ≤ k → t.loads.target = t.targets) : s.ItemActs k t := by
  obtain ⟨u, hu⟩ : ∃ u : State, u = if k = 1 then { s with agree := { s.agree with lowered := none } } else s := ⟨_, rfl⟩
  obtain ⟨a, ha⟩ : ∃ a, u = { s with agree := a } := by
    rw [hu]
    split <;> exact ⟨_, rfl⟩
  rw [← hu] at h
  obtain ⟨hannounced, hformed, hsupply⟩ := h.follows
  have hframe := h.frame
  have hclock := h.clock
  have hoffer := h.offer
  rw [ha] at hannounced hformed hsupply hframe hclock hoffer
  refine ⟨?frame, hclock, by omega, fun h1 => ?lowered, fun _ _ => h.claim, fun _ => ?supply, fun _ => ?formed, fun _ => ?told,
    fun _ => hu ▸ h.agree, fun h2 _ => htargets h2, by omega, by omega⟩
  case frame => exact State.PathRailFrame.trans (t := { s with agree := a }) rfl hframe
  case lowered => rw [h.lowered, hu, if_pos h1]
  case supply =>
    rw [hoffer, decide_eq_false (not_not.2 rfl), Bool.false_or]
    exact hsupply.of_before rfl rfl rfl rfl (fun _ => rfl) rfl
  case formed => exact hformed.of_before fun _ => rfl
  case told => exact hannounced.of_before rfl rfl rfl ⟨rfl, rfl⟩

/-- An action of a supply fault forms cap and mode set again (R84). -/
theorem State.reform_itemActs {k : Nat} (hk : k = 8 ∨ k = 9) (s : State) : s.ItemActs k s.reform := by
  have hhanded : s.Handed .baseForced s.reform := .reform s
  refine ⟨hhanded.frame, hhanded.clock, by omega, by omega, by omega, by omega, fun _ => s.reform_setFormed, fun _ => ?_, fun _ => ?_,
    by omega, by omega, by omega⟩
  · exact (State.Announced.refl s).handed hhanded s.reform_rail s.reform_counters
  · rw [if_neg (by omega)]
    exact s.reform_agreeFollows

/-- SHED_ORDER computes the targets again (R74). -/
theorem State.plan_itemActs (hp : s.tetherPowered = true) : s.ItemActs 5 s.plan := by
  have hhanded : s.Handed .baseForced s.plan := .plan s
  have hloads := State.plan_loads hp
  have htarget : s.plan.loads.target = s.targets := by rw [hloads]; rfl
  refine ⟨hhanded.frame, hhanded.clock, nofun, nofun, by omega, by omega, by omega, by omega, by omega,
    fun _ _ => htarget.trans s.plan_targets.symm, fun _ => ⟨?_, ?_⟩, by omega⟩
  · rw [htarget]
    exact hloads
  · obtain ⟨l, m, hplan, -, -⟩ := s.plan_frame
    rw [hplan]

/-- Of any other item the value alone is held. -/
theorem State.ItemActs.refl {k : Nat} (hk : 6 ≤ k ∧ k ≠ 8 ∧ k ≠ 9) (s : State) : s.ItemActs k s :=
  ⟨rfl, rfl, by omega, by omega, by omega, by omega, by omega, by omega, by omega, by omega, by omega, fun _ _ _ => rfl⟩

/-- Every item at a role it applies at. -/
theorem State.itemWritten_acts {k : Nat} (hp : 2 ≤ k → k ≤ 5 → s.tetherPowered = true) : s.ItemActs k (s.itemWritten k) := by
  obtain rfl | rfl | hk | rfl | hk | hk :
      k = 0 ∨ k = 1 ∨ (k = 2 ∨ k = 3 ∨ k = 4) ∨ k = 5 ∨ (k = 8 ∨ k = 9) ∨ (6 ≤ k ∧ k ≠ 8 ∧ k ≠ 9) := by omega
  · exact s.settleOffer_settled.itemActs s.settleOffer_claim
  · exact State.ClaimSettled.itemActs (by decide) (State.settleClaim_settled { s with agree := { s.agree with lowered := none } }) (by omega)
  · have hplan : s.itemWritten k = s.settleClaim.plan := by obtain rfl | rfl | rfl := hk <;> rfl
    have hsettled : s.ClaimSettled s.settleClaim.plan := s.settleClaim_settled.plan
    have hpowered : s.settleClaim.tetherPowered = true := by
      rw [State.tetherPowered, s.settleClaim_settled.frame.role]
      exact hp (by omega) (by omega)
    rw [hplan]
    refine State.ClaimSettled.itemActs (by omega) (by rw [if_neg (by omega)]; exact hsettled) fun _ => ?_
    rw [State.plan_targets, State.plan_loads hpowered]
    rfl
  · exact State.plan_itemActs (hp (by decide) (by decide))
  · have hreform : s.itemWritten k = s.reform := by obtain rfl | rfl := hk <;> rfl
    rw [hreform]
    exact s.reform_itemActs hk
  · have hsame : s.itemWritten k = s := by
      unfold State.itemWritten itemOfferLimit itemLaneCeiling itemPanelWant itemAudioWant itemMotionWant itemShedOrder
        itemActionDroopCrit itemActionSupplyLost
      repeat rw [if_neg (by omega)]
    rw [hsame]
    exact .refl hk s

end Sys2Proof.Machine
end

section
/-! SUPPORT. RAIL_ENABLE (R90): the trip history cleared, a latch cancelled, set pending or in force. -/

namespace Sys2Proof.Machine

variable {s t u v : State}

/-- What every write of RAIL_ENABLE ends with, from `s` to `t`, where `u` is the state with the NOTICE it has sent: an offer it changed is
settled, and the rest stands. -/
structure State.RailActs (s u t : State) : Prop where
  clock     : t.clock = s.clock
  announced : u.Announced t
  supply    : s.SupplyFollows (decide (s.roster.self.offer ≠ t.roster.self.offer)) t
  agree     : s.AgreeFollows false t
  frame     : s.PathRailFrame t

/-- A flag other than SUPPLY_SHORT is no part of what the supply follows. -/
theorem State.SupplyFollows.raise {changed : Bool} (h : s.SupplyFollows changed t) {f : Flag} (hf : f ≠ .supplyShort) :
    s.SupplyFollows changed (t.raise f) := by
  obtain ⟨hlist, hshort, hlost, hgrace, hset⟩ := h
  exact ⟨hlist, (State.raise_sticky_ne hf.symm).trans hshort, hlost, hgrace, hset⟩

theorem State.RailActs.raise (h : s.RailActs u t) {f : Flag} (hf : f ≠ .supplyShort) : s.RailActs u (t.raise f) where
  clock     := h.clock
  announced := h.announced
  supply    := h.supply.raise hf
  agree     := h.agree
  frame     := h.frame.trans rfl

/-- Trip, history, over-run count, the measurement's base and flags are written, and no offer is settled. -/
theorem State.RailActs.of_trip {trip : Trip} {history : List Nat} {overrun : Nat} {base : Option Nat}
    (hreported : s.Reported t) (hpower : t.power = { s.power with
      trip := trip, tripHistory := history, overrun := overrun, measureFrom := base })
    (hshort : t.sticky .supplyShort = s.sticky .supplyShort) (hchannel : t.SameChannel u) (hroster : u.roster = s.roster)
    (hupower : u.power = s.power) : s.RailActs u t := by
  have hframe := hreported.frame
  have hself : t.roster = s.roster := by rw [hframe]
  have hrole : t.role = s.role := by rw [hframe]; rfl
  refine ⟨hreported.clock, ?_, ?_, ?_, ?_⟩
  · refine (State.Announced.refl t).of_before hchannel.rail hchannel.counters (hself.trans hroster.symm) ?_
    rw [hpower, hupower]
    exact ⟨rfl, rfl⟩
  · rw [hself, decide_eq_false (not_not.2 rfl)]
    refine (State.SupplyFollows.refl t).of_before hrole ?_ ?_ ?_ (fun g => ?_) hshort
    case refine_4 => rw [hpower]; cases g <;> rfl
    all_goals rw [hpower]
  · refine (State.AgreeFollows.refl t).of_before ?_ ?_ ?_ ?_ ?_ ?_
    case refine_3 | refine_4 => rw [hpower]
    all_goals rw [hframe]
  · rw [hframe]
    rfl

/-- The switch has moved, and its offer is settled. -/
theorem State.RailActs.of_switching (st : SupplierState) (trip : Trip) (overrun : Nat) (base : Option Nat) (s : State) :
    s.RailActs s (s.switching s.clock st trip overrun base).settleOffer := by
  obtain ⟨hclock, -, -, -, -, -, hsupply, hannounced, hagree, hframe⟩ := s.switching_settled s.clock st trip overrun base
  exact ⟨hclock, hannounced, hsupply, hagree, hframe⟩

/-! ## A write of 1 -/

/-- A pending trip goes on as an ordinary one. -/
def Trip.unlatched : Trip → Trip
  | .pending since _ => .pending since false
  | t => t

/-- The trip history is cleared. -/
def State.historyCleared (s : State) : State := { s with power := { s.power with tripHistory := [] } }

theorem State.enableRail_latched (h : s.power.supplier = some .railLatched) : s.enableRail =
    (s.historyCleared.switching s.clock .railOn .none 0 (some s.clock.now)).settleOffer := if_pos h

theorem State.enableRail_unlatched (h : s.power.supplier ≠ some .railLatched) : s.enableRail =
    { s with power := { s.power with tripHistory := [], trip := s.power.trip.unlatched } } := by
  unfold State.enableRail Trip.unlatched
  dsimp only
  rw [if_neg h]
  cases htrip : s.power.trip with
  | pending since latch => cases latch <;> simp
  | none | offTime since => simp

/-- What a write of 1 does. -/
structure State.RailEnabled (s t : State) : Prop where
  acts      : s.RailActs s t
  history   : t.power.tripHistory = []
  latched   : s.power.supplier = some .railLatched → t.power.supplier = some .railOn ∧ t.power.trip = .none ∧
    t.roster.self.offer = some ⟨s.offerLevel, 0⟩
  unlatched : s.power.supplier ≠ some .railLatched → t.power.supplier = s.power.supplier ∧ t.power.trip = s.power.trip.unlatched

theorem State.enableRail_enabled (s : State) : s.RailEnabled s.enableRail := by
  by_cases h : s.power.supplier = some .railLatched
  · rw [State.enableRail_latched h]
    obtain ⟨-, hsupplier, htrip, -, -, hoffer, -⟩ := s.historyCleared.switching_settled s.clock .railOn .none 0 (some s.clock.now)
    have htold := (s.historyCleared.switching s.clock .railOn .none 0 (some s.clock.now)).settleOffer_told
    have hacts := State.RailActs.of_switching .railOn .none 0 (some s.clock.now) s.historyCleared
    refine ⟨⟨hacts.clock, hacts.announced.of_before rfl rfl rfl ⟨rfl, rfl⟩,
        hacts.supply.of_before rfl rfl rfl rfl (fun g => by cases g <;> rfl) rfl, hacts.agree.of_before rfl rfl rfl rfl rfl rfl,
        State.PathRailFrame.trans (t := s.historyCleared) rfl hacts.frame⟩,
      by rw [htold]; rfl, fun _ => ⟨hsupplier, htrip, hoffer⟩, fun hne => absurd h hne⟩
  · rw [State.enableRail_unlatched h]
    exact ⟨.of_trip ((State.Reported.refl s).withPower _) rfl rfl (.ofPower s _) rfl rfl, rfl, fun h' => absurd h' h,
      fun _ => ⟨rfl, rfl⟩⟩

/-! ## A write of 0 -/

/-- The state with the NOTICE of a commanded trip, where one begins. -/
def State.commandedNotice (s : State) : State := if s.power.trip = .none then s.offerBurst .notice [2, 3] else s

/-- What a write of 0 does where no latch is pending or in force. -/
structure State.RailDisabled (s t : State) : Prop where
  acts    : s.RailActs s.commandedNotice t
  flag    : t.sticky .railLatched = true
  begun   : s.power.trip = .none →
    t.power = { s.power with trip := .pending s.clock.now true, overrun := 0, measureFrom := none } ∧ t.sticky .tripped = true
  pending : ∀ t0 l, s.power.trip = .pending t0 l → t.power = { s.power with trip := .pending t0 true }
  opens   : ∀ t0, s.power.trip = .offTime t0 →
    t.power.supplier = some .railLatched ∧ t.power.trip = .none ∧ t.roster.self.offer = some ⟨0, 2⟩

theorem State.disableRail_latched (h : s.power.latched = true) : s.disableRail = s := if_pos h

theorem State.beginTrip_commanded (s : State) : s.Reported (s.beginTrip 3 true) ∧
    (s.beginTrip 3 true).SameChannel (s.offerBurst .notice [2, 3]) ∧
    (s.beginTrip 3 true).sticky .supplyShort = s.sticky .supplyShort := by
  refine ⟨(((State.Reported.refl s).withPower _).offerNotice _ _).raise _, ((State.SameChannel.ofPower s _).offerNotice _ _).raise _, ?_⟩
  rw [State.beginTrip, State.raise_sticky_ne (by decide), State.offerNotice_frame]
  rfl

theorem State.disableRail_disabled (h : s.power.latched = false) : s.RailDisabled s.disableRail := by
  rw [State.disableRail, if_neg (Bool.eq_false_iff.1 h)]
  cases htrip : s.power.trip with
  | none =>
    have hnotice : s.commandedNotice = s.offerBurst .notice [2, 3] := if_pos htrip
    have hburst := s.offerBurst_frame (k := .notice) (by decide) [2, 3]
    obtain ⟨hreported, hchannel, hshort⟩ := s.beginTrip_commanded
    have hpower := s.beginTrip_power 3 true
    have hacts : s.RailActs s.commandedNotice (s.beginTrip 3 true) := by
      rw [hnotice]
      exact .of_trip hreported hpower hshort hchannel (by rw [hburst]) (by rw [hburst])
    refine ⟨hacts.raise (by decide), State.raise_sticky _, fun _ => ⟨hpower, State.sticky_raise _ (State.raise_sticky _)⟩, ?_, ?_⟩ <;>
      simp [htrip]
  | pending since latch =>
    have hnotice : s.commandedNotice = s := if_neg (by rw [htrip]; nofun)
    have hacts : s.RailActs s.commandedNotice { s with power := { s.power with trip := .pending since true } } := by
      rw [hnotice]
      exact .of_trip ((State.Reported.refl s).withPower _) rfl rfl (.ofPower s _) rfl rfl
    refine ⟨hacts.raise (by decide), State.raise_sticky _, by simp [htrip], fun t0 l hpending => ?_, by simp [htrip]⟩
    rw [htrip] at hpending
    obtain ⟨rfl, -⟩ := Trip.pending.inj hpending
    rfl
  | offTime since =>
    have hnotice : s.commandedNotice = s := if_neg (by rw [htrip]; nofun)
    have hopen : s.openSwitch true = (s.switching s.clock .railLatched .none s.power.overrun s.power.measureFrom).settleOffer := rfl
    obtain ⟨-, hsupplier, hnone, -, -, hoffer, -⟩ :=
      s.switching_settled s.clock .railLatched .none s.power.overrun s.power.measureFrom
    have hacts : s.RailActs s.commandedNotice (s.openSwitch true) := by
      rw [hnotice]
      exact .of_switching .railLatched .none s.power.overrun s.power.measureFrom s
    exact ⟨hacts.raise (by decide), State.raise_sticky _, by simp [htrip], by simp [htrip], fun _ _ => ⟨hsupplier, hnone, hoffer⟩⟩

/-! ## Any write -/

/-- A write of 0 sends the NOTICE of the trip it begins, no other write sends one. -/
theorem State.railEnable_acts (s : State) (zero : Prop) [Decidable zero] :
    s.RailActs (if zero ∧ s.power.latched = false ∧ s.power.trip = .none then s.offerBurst .notice [2, 3] else s)
      (if zero then s.disableRail else s.enableRail) := by
  by_cases hzero : zero
  · rw [if_pos hzero]
    cases hlatched : s.power.latched with
    | true =>
      rw [State.disableRail_latched hlatched, if_neg (by simp)]
      exact .of_trip (.refl s) rfl rfl ⟨rfl, rfl, rfl, rfl⟩ rfl rfl
    | false =>
      simp only [hzero, true_and]
      exact (State.disableRail_disabled hlatched).acts
  · rw [if_neg hzero, if_neg (fun h => hzero h.1)]
    exact s.enableRail_enabled.acts

end Sys2Proof.Machine
end

section
/-! SUPPORT. Settings items read and written by the host (R82, R84, R90, R164, R165). Settles O59. -/

namespace Sys2Proof.Machine

variable {s t u : State}

/-! ## The reply (R176) -/

/-- The reply leaves what the node's blocks have done. -/
theorem State.SetFormed.replied (h : s.SetFormed t) (b : List Byte) : s.SetFormed (t.replied b) := h.congr rfl rfl rfl rfl rfl rfl rfl

theorem State.SupplyFollows.replied {changed : Bool} (h : s.SupplyFollows changed t) (b : List Byte) :
    s.SupplyFollows changed (t.replied b) := by
  obtain ⟨hlist, hshort, hlost, hgrace, hset⟩ := h
  exact ⟨hlist, hshort, hlost, hgrace, fun hc => (hset hc).replied b⟩

theorem State.AgreeFollows.replied {path : Bool} (h : s.AgreeFollows path t) (b : List Byte) : s.AgreeFollows path (t.replied b) := h

theorem State.Announced.replied (h : s.Announced t) (b : List Byte) : s.Announced (t.replied b) := h

theorem State.PathRailFrame.replied (h : s.PathRailFrame t) (b : List Byte) : (s.replied b).PathRailFrame (t.replied b) := by
  rw [h]
  rfl

/-! ## A value held (R82, R165) -/

section held

variable {n : Byte} {i : ItemSpec} (hp : s.powered = true) (ht : s.host.taken = false)
include hp ht

/-- A write that is taken holds its value, acts, and answers with the value held. -/
theorem exec_itemWrite_held (hlength : s.items.length = 31) (hi : itemSpec s.straps n.toNat = some i) (ha : i.applies s.role = true)
    (hrail : n.toNat ≠ 10) (hident : n.toNat ≠ 30) (v : Half) :
    let h := s.heldValue n.toNat i v.toNat
    exec (.itemWrite n v) s =
      .next (((s.setItem n.toNat h).itemWritten n.toNat).replied ((if h = v.toNat then 0 else 1) :: leBytes 2 h)) := by
  intro h
  have hlast : n.toNat ≤ 30 := by
    by_contra hover
    rw [itemSpec_none s.straps (by omega)] at hi
    cases hi
  have happlied : s.applyItem n.toNat h = (s.setItem n.toNat h).itemWritten n.toNat := if_neg hrail
  have hvalue : (s.applyItem n.toNat h).itemValue n.toNat = BitVec.ofNat 16 h := by
    rw [State.itemValue_other hrail hident, happlied, State.itemWritten_items]
    show (s.items.set n.toNat (BitVec.ofNat 16 h)).getD n.toNat 0 = _
    rw [List.getD_eq_getElem?_getD, List.getElem?_set_self (by omega)]
    rfl
  rw [exec_itemWrite hp ht, State.writeItem_held hi ha hident, hvalue, leBytes_ofNat, happlied]
  show Host.Outcome.next (State.replied _ ((if h = v.toNat then Status.ok else .clamped).code :: leBytes 2 h)) = _
  rw [apply_ite Status.code]
  rfl

/-- RAIL_ENABLE acts on every write and answers as it then reads (R90). -/
theorem exec_itemWrite_railEnable (hn : n.toNat = 10) (hi : itemSpec s.straps 10 = some i) (ha : i.applies s.role = true) (v : Half) :
    let t := if v.toNat = 0 then s.disableRail else s.enableRail
    exec (.itemWrite n v) s =
      .next (t.replied ((if v.toNat ≤ 1 then 0 else 1) :: leBytes 2 (if t.power.latched then 0 else 1))) := by
  intro t
  have hheld : s.heldValue 10 i v.toNat = if 1 < v.toNat then 1 else v.toNat := by
    obtain rfl : (⟨0, 1, atSource⟩ : ItemSpec) = i := Option.some.inj hi
    show clampTo 0 1 v.toNat = _
    exact if_neg (Nat.not_lt_zero _)
  have happlied : s.applyItem 10 (s.heldValue 10 i v.toNat) = t := by
    show (if s.heldValue 10 i v.toNat = 0 then s.disableRail else s.enableRail) = t
    refine if_congr ?_ rfl rfl
    rw [hheld]
    split <;> omega
  have hstatus : s.heldValue 10 i v.toNat = v.toNat ↔ v.toNat ≤ 1 := by
    rw [hheld]
    split <;> omega
  rw [exec_itemWrite hp ht, hn, State.writeItem_held hi ha (by decide), happlied, State.itemValue_railEnable, railEnableValue_toNat]
  show Host.Outcome.next (t.replied ((if _ then Status.ok else .clamped).code :: _)) = _
  rw [apply_ite Status.code]
  simp only [hstatus]
  rfl

end held

/-- Settles O59: the table row by row, each write by what its block does. -/
theorem itemsAreReadAndWritten : Obligations.ItemsAreReadAndWritten := by
  intro s n v hp ht hlength k every table replied
  refine ⟨fun hk => ⟨?_, ?_⟩, itemTable_exists s.straps.motion2000, ?_⟩
  · rw [exec_itemRead hp ht, State.readItem_none (itemSpec_none _ hk)]
    rfl
  · rw [exec_itemWrite hp ht, State.writeItem_none (itemSpec_none _ hk)]
    rfl
  intro row hrow hk lo hi
  obtain ⟨i, hspec, hlo, hhi, happlies⟩ := rowOf_mem (st := s.straps) row hrow
  rw [hk] at hspec
  rw [← happlies]
  refine ⟨fun ha => ⟨?_, ?_⟩, fun ha => ⟨fun hrail hident => ?_, fun hrail => ?_, fun hident => ⟨?_, ?_⟩, fun hrail hident => ?_,
    fun hrail => ?_⟩⟩
  · rw [exec_itemRead hp ht, State.readItem_notApplicable hspec ha]
    rfl
  · rw [exec_itemWrite hp ht, State.writeItem_notApplicable hspec ha]
    rfl
  · rw [exec_itemRead hp ht, State.readItem_applies hspec ha, State.itemValue_other hrail hident]
    rfl
  · rw [exec_itemRead hp ht, State.readItem_applies hspec ha, hrail, State.itemValue_railEnable,
      railEnableValue_toNat]
    rfl
  · rw [exec_itemRead hp ht, State.readItem_applies hspec ha, hident, State.itemValue_ident, identValue_toNat]
    rfl
  · rw [exec_itemWrite hp ht, State.writeItem_refused hspec ha hident, hident, State.itemValue_ident,
      identValue_toNat]
    rfl
  · have hexec := exec_itemWrite_held hp ht hlength hspec ha hrail hident v
    have hacts : (s.setItem k (s.heldValue k i v.toNat)).ItemActs k ((s.setItem k (s.heldValue k i v.toNat)).itemWritten k) :=
      State.itemWritten_acts fun h2 h5 => tetherPowered_of_wanted (s := s) h2 h5 hspec ha
    intro c h
    have hheld : s.heldValue k i v.toNat = h := by
      show (if k = 6 then max (clampTo i.lo i.hi v.toNat) _ else _) = _
      rw [hlo, hhi]
      rfl
    rw [hheld] at hacts
    replace hexec := hexec.trans (by rw [show s.heldValue n.toNat i v.toNat = h from hheld])
    have hitems : ((s.setItem k h).itemWritten k).items = s.items.set k (BitVec.ofNat 16 h) := State.itemWritten_items _ _
    generalize (s.setItem k h).itemWritten k = t at hacts hexec hitems
    refine ⟨_, hexec, hitems, hacts.clock, rfl, hacts.offer, hacts.lowered, hacts.claim, fun h4 => ?_, fun hf => ?_,
      fun hf => ⟨?_, ?_⟩, hacts.targets, fun h5 => ⟨congrArg Loads.current (hacts.shed h5).1, ?_⟩, fun h6 h8 h9 => ?_, ?_⟩
    · exact ((hacts.supply h4).replied _).of_before rfl rfl rfl rfl (fun _ => rfl) rfl
    · exact ((hacts.formed hf).replied _).of_before fun _ => rfl
    · exact ((hacts.told hf).replied _).of_before rfl rfl rfl ⟨rfl, rfl⟩
    · have hagree := (hacts.agree hf).replied ((if h = v.toNat then 0 else 1) :: leBytes 2 h)
      by_cases h1 : k = 1
      · rw [if_pos h1] at hagree ⊢
        exact hagree.of_before rfl rfl rfl rfl rfl rfl
      · rw [if_neg h1] at hagree ⊢
        exact hagree.of_before rfl rfl rfl rfl rfl rfl
    · rw [(hacts.shed h5).2]
      rfl
    · rw [hacts.held h6 h8 h9]
      rfl
    · show State.PathRailFrame { s with
        items := t.items, host := { s.host with reply := (if h = v.toNat then 0 else 1) :: leBytes 2 h, taken := true } } _
      rw [hitems]
      exact hacts.frame.replied _
  · have hexec := exec_itemWrite_railEnable hp ht hrail (hrail ▸ hspec) ha v
    have hacts := s.railEnable_acts (v.toNat = 0)
    refine ⟨_, hexec, hacts.clock, rfl, fun hne => ?_, fun hzero hlatched => ?_, fun hzero hlatched => ?_, hacts.announced.replied _,
      hacts.supply.replied _, hacts.agree.replied _, hacts.frame.replied _⟩
    · rw [if_neg hne]
      have henabled := s.enableRail_enabled
      refine ⟨henabled.history, henabled.latched, fun hfree => ?_⟩
      obtain ⟨hsupplier, htrip⟩ := henabled.unlatched hfree
      refine ⟨hsupplier, htrip.trans ?_⟩
      cases s.power.trip <;> rfl
    · rw [if_pos hzero, State.disableRail_latched hlatched]
      rfl
    · rw [if_pos hzero]
      have hdisabled := State.disableRail_disabled hlatched
      exact ⟨hdisabled.flag, hdisabled.begun, hdisabled.pending, hdisabled.opens⟩

end Sys2Proof.Machine
end
